-- ==== Sys2Proof/Word.lean ====
section
/-! DEFINITION. The word types: a byte of the supervisor line, and the 24 yarn-present flags of a head's answer. -/

namespace Sys2Proof

/-- One byte of a frame on the supervisor line (R208). -/
abbrev Byte := BitVec 8

/-- The 24 yarn-present flags of an answer, bit `p - 1` for position `p` of the sector (R23). -/
abbrev PresenceFlags := BitVec 24

end Sys2Proof
end

