-- ==== Sys2Proof/Config.lean ====
section
/-! DEFINITION. What the manual fixes as numbers (capacities, counter tops, fixed times, identity codes), and the one value it
leaves open. -/

namespace Sys2Proof.Config

/-- R17, R4: top of the odometer, of the spindle-second categories and of a segment's running pulses. -/
abbrev top48 : Nat := 281474976710655
/-- R17, R6, R7: top of the clocks and of the per-spindle and event counters. -/
abbrev top32 : Nat := 4294967295
/-- R17: top of the small diagnostic counters, of the doff number (R136) and of the shift number (R158). -/
abbrev top16 : Nat := 65535
/-- R197, R99: top of the lost count and of the carry-over count. -/
abbrev top8 : Nat := 255
/-- R31: attempts and consecutive failures stay at 7. -/
abbrev topTries : Nat := 7
/-- R32: the streak count stops at 16. -/
abbrev topStreak : Nat := 16
/-- R33: stamps a break ring holds. -/
abbrev breakRingSize : Nat := 4
/-- R49: entries a piecing list holds. -/
abbrev listCapacity : Nat := 96
/-- R196: notices the queue holds. -/
abbrev noticeCapacity : Nat := 32
/-- R146: records the doff log holds. -/
abbrev doffLogCapacity : Nat := 16
/-- R167: records the closed shift ring holds. -/
abbrev ringCapacity : Nat := 3
/-- R159: lot segments a shift holds. -/
abbrev segmentCapacity : Nat := 4
/-- R1: spindles of a sector. -/
abbrev sectorSpindles : Nat := 24
/-- R2: creel positions of a change group. -/
abbrev groupPositions : Nat := 8
/-- R91: the link-loss time, in seconds. -/
abbrev linkLossTime : Nat := 5
/-- R125: the back-off after a DECLINE, in seconds. -/
abbrev backOffTime : Nat := 30
/-- R25: misses that make a head SILENT. -/
abbrev missLimit : Nat := 3
/-- R26: discard count at a reset or a wake. -/
abbrev discardStart : Nat := 2
/-- R206: vendor code. -/
abbrev vendorCode : Nat := 0x2C61
/-- R206: part code. -/
abbrev partCode : Nat := 2416
/-- R206: design revision. -/
abbrev designRevision : Nat := 1
/-- R208: start mark of a frame. -/
abbrev startMark : Byte := 0xC3
/-- R200, R208: longest body. -/
abbrev maxBody : Nat := 250

/-- FREE VALUE (assumption log entry 22, DESIGN CHOICE): R184 names the newest of two valid copies only when one write sequence
number is one above the other's; for any other pair of numbers the manual does not say whether copy 1 is taken as the newest. -/
opaque newestOfUnrelated : Nat → Nat → Bool

end Sys2Proof.Config
end

