-- ==== Sys2Proof/Syntax.lean ====
section
/-! DEFINITION. The commands of the 2416: one constructor of `Instr` per row of spec/opcode_table.json, with its operands. -/

namespace Sys2Proof

/-- R1: the two long sides of the frame. -/
inductive Side where
  | a
  | b
  deriving DecidableEq, Repr, Inhabited

/-- R74: direction of travel of a carriage; UP is the direction of rising spindle numbers. -/
inductive Direction where
  | up
  | down
  deriving DecidableEq, Repr, Inhabited

/-- R74: outcome of an order as the carriage reports it. -/
inductive OrderOutcome where
  | pieced
  | failed
  | notReached
  | cancelled
  deriving DecidableEq, Repr, Inhabited

/-- R74, R76: the ability set of a carriage. -/
structure AbilitySet where
  pieces : Bool
  parks : Bool
  cleans : Bool
  deriving DecidableEq, Repr, Inhabited

/-- R76: the two carriage records. -/
inductive RecordNo where
  | one
  | two
  deriving DecidableEq, Repr, Inhabited

/-- R72: why a message on the carriage link is discarded before its kind acts. The station is known where the check passes. -/
inductive LinkDiscard where
  /-- the check fails: nothing in the message can be trusted, its station included -/
  | badCheck
  /-- the check passes and the kind is not a carriage message -/
  | unknownKind (station : Nat)
  /-- the check passes and a field lies outside its range -/
  | badField (station : Nat)
  deriving DecidableEq, Repr, Inhabited

/-- The commands. A request of the host carries the bytes of its body as sent (R201, section 11.6). -/
inductive Instr where
  /-- Power is applied: the strap pins read as `address` (0 to 31) and `speed` (0 to 3), the inputs at their levels. -/
  | powerOnReset (address speed : Nat) (driveRunning dofferActive : Bool)
  | runSecond
  | frontRollerPulse
  | driveRunningRise
  | driveRunningFall
  | pulseLoss
  | headPoll (side : Side)
  /-- An answer of the head polled last: its check, its head-ok flag and its 24 flags. -/
  | pollAnswer (side : Side) (checkOk headOk : Bool) (present : PresenceFlags)
  | answerWaitExpiry (side : Side)
  | drowseDelayExpiry
  | sleepPoll (side : Side)
  | settleLimitReached (spindle : Nat)
  | lampHoldExpiry (sector : Nat)
  | ability (station : Nat) (side : Side) (abilities : AbilitySet) (revision : Nat)
  | position (station spindle : Nat) (direction : Direction)
  | arrived (station tag : Nat)
  | result (station tag : Nat) (outcome : OrderOutcome)
  | parked (station : Nat)
  | carriageStatus (station : Nat)
  | orderTimerExpiry (record : RecordNo)
  | linkLossTimerExpiry (record : RecordNo)
  | parkTimerExpiry (record : RecordNo)
  | waitLimitExpiry (sector : Nat)
  | transportAccept (tag : Nat)
  | decline (tag : Nat)
  | atSector (tag : Nat)
  | changed (tag : Nat)
  | aborted (tag : Nat)
  | transportTimerExpiry
  | backOffExpiry
  | dofferActiveRise
  | dofferActiveFall
  | doffComplete
  | storeWriteDone
  | storeWriteFailed
  | frameSilenceTimeout
  | frameDiscarded
  | resyncSilence
  | frameIgnored
  | unknownKind (kind : Byte)
  | broadcastIgnored
  | replySend
  | replyWithheld
  | identify (body : List Byte)
  | readStatus (body : List Byte)
  | fetchNotices (body : List Byte)
  | readSpindles (body : List Byte)
  | readPiecingList (body : List Byte)
  | readGroups (body : List Byte)
  | readRovingCalls (body : List Byte)
  | readCarriages (body : List Byte)
  | readDoffState (body : List Byte)
  | readDoffLog (body : List Byte)
  | readShift (body : List Byte)
  | readFaults (body : List Byte)
  | clearFaults (body : List Byte)
  | readSettings (body : List Byte)
  | writeSettings (body : List Byte)
  | writeLot (body : List Byte)
  | readZones (body : List Byte)
  | writeZone (body : List Byte)
  | pieceSpindle (body : List Byte)
  | lockSpindle (body : List Byte)
  | releaseSpindle (body : List Byte)
  | callRoving (body : List Byte)
  | declareRoving (body : List Byte)
  | holdDoff (body : List Byte)
  | resumeDoff (body : List Byte)
  | doffNow (body : List Byte)
  | setDoffProgress (body : List Byte)
  | releaseCarriage (body : List Byte)
  /-- Close Shift, sent to the unit's address or by broadcast (R164). -/
  | closeShift (broadcast : Bool) (body : List Byte)
  /-- Set Clock, sent to the unit's address or by broadcast (R7). -/
  | setClock (broadcast : Bool) (body : List Byte)
  | restart (body : List Byte)
  | replyEnd
  | carriageLinkDiscard (cause : LinkDiscard)
  | transportLinkDiscard
  | powerLoss
  deriving DecidableEq, Repr, Inhabited

end Sys2Proof
end

