-- ==== Sys2Proof/WellFormed.lean ====
section
/-! DEFINITION. Which commands are well formed: every operand within what its rule lets it be. A meaning is total all the same;
what it does with an operand outside these ranges is said with the meaning. -/

namespace Sys2Proof

/-- R72: stations on the carriage link. -/
def stationOk (n : Nat) : Bool := 1 ≤ n && n ≤ 15

/-- R75: tags of piecing orders. -/
def orderTagOk (n : Nat) : Bool := n ≤ 15

/-- R121: tags of roving changes. -/
def changeTagOk (n : Nat) : Bool := n ≤ 255

/-- R1: spindle numbers of the largest frame. -/
def spindleOk (n : Nat) : Bool := 1 ≤ n && n ≤ 2016

/-- R1: sector numbers of the largest frame. -/
def sectorOk (n : Nat) : Bool := 1 ≤ n && n ≤ 84

/-- R200: a frame announces at most 250 bytes of body. -/
def bodyOk (body : List Byte) : Bool := body.length ≤ Config.maxBody

/-- R201: a kind that is no request kind (section 11.6 has 0x01 to 0x1F) and is not a reply (top bit clear, R200). -/
def unknownKindOk (kind : Byte) : Bool := kind.toNat = 0 || (0x20 ≤ kind.toNat && kind.toNat < 0x80)

/-- R72: a message discarded for its kind or a field has a station. -/
def LinkDiscard.ok : LinkDiscard → Bool
  | .badCheck => true
  | .unknownKind st => stationOk st
  | .badField st => stationOk st

/-- Every operand lies within its range. -/
def Instr.wf : Instr → Bool
  | .powerOnReset address speed _ _ => address ≤ 31 && speed ≤ 3
  | .runSecond | .frontRollerPulse | .driveRunningRise | .driveRunningFall | .pulseLoss => true
  | .headPoll _ | .pollAnswer _ _ _ _ | .answerWaitExpiry _ | .drowseDelayExpiry | .sleepPoll _ => true
  | .settleLimitReached n => spindleOk n
  | .lampHoldExpiry k => sectorOk k
  | .ability st _ _ rev => stationOk st && rev ≤ 255
  | .position st n _ => stationOk st && spindleOk n
  | .arrived st tag => stationOk st && orderTagOk tag
  | .result st tag _ => stationOk st && orderTagOk tag
  | .parked st => stationOk st
  | .carriageStatus st => stationOk st
  | .orderTimerExpiry _ | .linkLossTimerExpiry _ | .parkTimerExpiry _ => true
  | .waitLimitExpiry k => sectorOk k
  | .transportAccept tag => changeTagOk tag
  | .decline tag => changeTagOk tag
  | .atSector tag => changeTagOk tag
  | .changed tag => changeTagOk tag
  | .aborted tag => changeTagOk tag
  | .transportTimerExpiry | .backOffExpiry => true
  | .dofferActiveRise | .dofferActiveFall | .doffComplete => true
  | .storeWriteDone | .storeWriteFailed => true
  | .frameSilenceTimeout | .frameDiscarded | .resyncSilence | .frameIgnored => true
  | .unknownKind kind => unknownKindOk kind
  | .broadcastIgnored | .replySend | .replyWithheld => true
  | .identify body => bodyOk body
  | .readStatus body => bodyOk body
  | .fetchNotices body => bodyOk body
  | .readSpindles body => bodyOk body
  | .readPiecingList body => bodyOk body
  | .readGroups body => bodyOk body
  | .readRovingCalls body => bodyOk body
  | .readCarriages body => bodyOk body
  | .readDoffState body => bodyOk body
  | .readDoffLog body => bodyOk body
  | .readShift body => bodyOk body
  | .readFaults body => bodyOk body
  | .clearFaults body => bodyOk body
  | .readSettings body => bodyOk body
  | .writeSettings body => bodyOk body
  | .writeLot body => bodyOk body
  | .readZones body => bodyOk body
  | .writeZone body => bodyOk body
  | .pieceSpindle body => bodyOk body
  | .lockSpindle body => bodyOk body
  | .releaseSpindle body => bodyOk body
  | .callRoving body => bodyOk body
  | .declareRoving body => bodyOk body
  | .holdDoff body => bodyOk body
  | .resumeDoff body => bodyOk body
  | .doffNow body => bodyOk body
  | .setDoffProgress body => bodyOk body
  | .releaseCarriage body => bodyOk body
  | .closeShift _ body => bodyOk body
  | .setClock _ body => bodyOk body
  | .restart body => bodyOk body
  | .replyEnd => true
  | .carriageLinkDiscard cause => cause.ok
  | .transportLinkDiscard | .powerLoss => true

end Sys2Proof
end

