-- ==== Sys2Proof/Decode.lean ====
section
/-! DEFINITION. What a word spells by the bits of spec/opcode_table.json. The table gives no row any bits ("fields": [] in every
row), so no word spells a command (assumption log entry 31). The frames of the supervisor line are judged in Machine/Frame.lean. -/

namespace Sys2Proof

/-- The command a word spells by the table's bits: none, since the table gives bits for no row. -/
def decodeTableWord (_nbits _w : Nat) : Option Instr := none

end Sys2Proof
end

