-- ==== Sys2Proof/Machine/State.lean ====
section
/-! DEFINITION. The state of the 2416, block by block as the block diagram of 00_scope.md lists them, and the state after
power-on reset. Plain data throughout. -/

namespace Sys2Proof.Machine

open Sys2Proof

/-! ## Delivery counter (chapter 1) -/

/-- The geometry, roller figures, clocks and drive inputs of the delivery counter. A timer is the run-second at which it expires. -/
structure Delivery where
  /-- R1, R3: number of sides in force, 1 or 2 -/
  sides : Nat
  /-- R1, R3: sectors per side S in force -/
  sectors : Nat
  /-- R3, R10: front roller diameter d in force -/
  d : Nat
  /-- R3, R10: pulses per revolution P in force -/
  p : Nat
  /-- R4: the frame odometer -/
  phi : Nat
  /-- R6: the run-seconds clock, "now" -/
  now : Nat
  /-- R7: the mill clock -/
  mill : Nat
  /-- R7: the clock-set flag -/
  clockSet : Bool
  /-- R8: the level of drive running -/
  driving : Bool
  /-- R9: the pulse-loss timer -/
  pulseTimer : Option Nat
  /-- R9: the pulse-loss condition is present -/
  pulseLost : Bool
  deriving DecidableEq, Repr, Inhabited

/-! ## Rail scanner (chapter 2) -/

/-- R24: the four head states; SETTLING-HEAD holds its discard count (R22). -/
inductive HeadState where
  | active
  | settlingHead (discard : Nat)
  | silent
  | asleep
  deriving DecidableEq, Repr, Inhabited

/-- R22: what the scanner holds for one head. -/
structure Head where
  state : HeadState
  /-- R23: miss count, 0 to 3 -/
  misses : Nat
  /-- R25: return mark -/
  returnMark : Bool
  deriving DecidableEq, Repr, Inhabited

/-- R22: what the scanner holds for one rail. -/
structure Rail where
  /-- R22: rail state, AWAKE or ASLEEP -/
  awake : Bool
  /-- R22: poll position, the head to be polled next -/
  position : Nat
  /-- R28: a sleep round has been asked for and has not ended -/
  sleepRound : Bool
  /-- R23, R28: the head whose answer is awaited -/
  inFlight : Option Nat
  /-- R23: discarded-report counter -/
  discarded : Nat
  heads : List Head
  deriving DecidableEq, Repr, Inhabited

/-- R27: the drowse delay timer and the drowse state. -/
structure Drowse where
  timer : Option Nat
  /-- R27: the timer has expired in CALLED, PARKING or DOFFING; the test is made again at changes of the doff state -/
  deferred : Bool
  drowsing : Bool
  deriving DecidableEq, Repr, Inhabited

/-! ## Spindle table (chapter 2) -/

/-- R31: settle origins, in the order of R209. -/
inductive SettleOrigin where
  | driveStart
  | pieced
  | hand
  | roving
  deriving DecidableEq, Repr, Inhabited

/-- R31: break causes, in the order of R209. -/
inductive BreakCause where
  | yarn
  | start
  | notHeld
  | noStart
  | rovingOut
  deriving DecidableEq, Repr, Inhabited

/-- R31: lock reasons, in the order of R209. -/
inductive LockReason where
  | rogue
  | fails
  | byRequest
  deriving DecidableEq, Repr, Inhabited

/-- R34: the eight spindle states. Each carries the optional fields that R31 and R34 make present in it, so a field of another
state is absent by construction. The pulse mark of RUNNING stands in the record, since R21 and R47 give it to every spindle after
power-on reset. The break cause of WAIT_ROVING is always ROVING_OUT. -/
inductive SpindleState where
  | withheld
  | idle
  | settling (origin : SettleOrigin) (start : Nat)
  | running
  | broken (cause : BreakCause) (time : Nat)
  | piecing (cause : BreakCause) (time : Nat)
  | waitRoving (time : Nat)
  | locked (reason : LockReason)
  deriving DecidableEq, Repr, Inhabited

/-- R31: a spindle record. The number is the place in the table; the listed flag is read from the piecing lists and the unsensed
flag from the head (assumption log entry 29). -/
structure Spindle where
  state : SpindleState
  secondsMark : Nat
  /-- R18, R21, R31: the odometer at the entry to RUNNING or at the last settle in it; 0 from power-on reset to the first change of state;
  otherwise absent (assumption log entry 38) -/
  pulseMark : Option Nat
  streak : Nat
  attempts : Nat
  failures : Nat
  breakRing : List Nat
  unlisted : Bool
  /-- R35: the roving-stop flag, true when engaged -/
  stopEngaged : Bool
  withholdPending : Bool
  copPulses : Nat
  rovingUsed : Nat
  estimateValid : Bool
  shiftPulses : Nat
  shiftSeconds : Nat
  shiftEndBreaks : Nat
  deriving DecidableEq, Repr, Inhabited

/-- R45: lamp states. -/
inductive LampState where
  | off
  | steady
  | flashing
  deriving DecidableEq, Repr, Inhabited

/-- R45, R46: a sector's lamp state and hold timer. -/
structure Lamp where
  state : LampState
  hold : Option Nat
  deriving DecidableEq, Repr, Inhabited

/-! ## Break dispatcher (chapter 3) -/

/-- R50: an entry of a piecing list. -/
structure Entry where
  spindle : Nat
  cause : BreakCause
  time : Nat
  urgent : Bool
  deriving DecidableEq, Repr, Inhabited

/-! ## Carriage controller (chapter 4) -/

/-- R73: reasons of REFUSE. -/
inductive RefuseReason where
  | noSide
  | noAbility
  | sideHeld
  | noRoom
  | released
  | restarted
  deriving DecidableEq, Repr, Inhabited

/-- R76: an outstanding order with its timer (R88), arrived flag and park-pending flag. -/
structure Order where
  spindle : Nat
  tag : Nat
  issued : Nat
  deadline : Nat
  arrived : Bool
  parkPending : Bool
  deriving DecidableEq, Repr, Inhabited

/-- R76: what a record holds of the station that uses it. -/
structure Station where
  number : Nat
  abilities : AbilitySet
  revision : Nat
  deriving DecidableEq, Repr, Inhabited

/-- R77: the five states of a record that holds a side. -/
inductive CarriageWork where
  | ready
  | busy (order : Order)
  | parking
  | parked
  | suspect
  deriving DecidableEq, Repr, Inhabited

/-- R76, R77: a record is ABSENT, REJECTED, or enrolled for a side. -/
inductive CarriageLink where
  | absent
  | rejected (station : Station) (claimed : Side)
  | enrolled (station : Station) (side : Side) (position : Nat) (direction : Direction) (work : CarriageWork)
  deriving DecidableEq, Repr, Inhabited

/-- R76: a record's counters. -/
structure CarriageCounters where
  orders : Nat
  pieced : Nat
  failed : Nat
  notReached : Nat
  timeouts : Nat
  late : Nat
  deriving DecidableEq, Repr, Inhabited

/-- R76: a carriage record. -/
structure Carriage where
  link : CarriageLink
  /-- R75: tag counter -/
  tag : Nat
  /-- R94: park timer -/
  parkTimer : Option Nat
  /-- R91: link-loss timer -/
  linkTimer : Option Nat
  counters : CarriageCounters
  deriving DecidableEq, Repr, Inhabited

/-! ## Sector lock arbiter (chapter 5) -/

/-- R99, R105: a transport claim not yet granted, with its wait-limit timer. -/
structure Claim where
  tag : Nat
  group : Nat
  urgency : Nat
  waitStart : Nat
  waitLimit : Option Nat
  deriving DecidableEq, Repr, Inhabited

/-- R99: holder of a sector. Only a CARRIAGE-held sector carries a waiting claim. -/
inductive Holder where
  | free
  | carriage (record : RecordNo) (waiting : Option Claim)
  | transport
  deriving DecidableEq, Repr, Inhabited

/-- R99: the holder before the present one. -/
inductive LastHolder where
  | none
  | free
  | carriage
  | transport
  deriving DecidableEq, Repr, Inhabited

/-- R99: a lock record. -/
structure Lock where
  holder : Holder
  last : LastHolder
  carryOver : Nat
  deriving DecidableEq, Repr, Inhabited

/-! ## Roving planner (chapter 6) -/

/-- R115: urgency of a roving call. -/
inductive CallUrgency where
  | planned
  | urgent
  deriving DecidableEq, Repr, Inhabited

/-- R115: origin of a roving call. -/
inductive CallOrigin where
  | plan
  | out
  | request
  deriving DecidableEq, Repr, Inhabited

/-- R115: an entry of the roving call list. -/
structure Call where
  group : Nat
  urgency : CallUrgency
  queued : Nat
  origin : CallOrigin
  deriving DecidableEq, Repr, Inhabited

/-- R122: the active change record: the entry it was taken from, its tag, call time, accepted flag and transport timer. -/
structure ActiveChange where
  call : Call
  tag : Nat
  callTime : Nat
  accepted : Bool
  /-- R123: the transport timeout in force at the call, in seconds -/
  timeout : Nat
  /-- R123, R125: the transport timer -/
  deadline : Nat
  deriving DecidableEq, Repr, Inhabited

/-- R122: the transport state; outside IDLE it holds the active change record. -/
inductive Transport where
  | idle
  | called (change : ActiveChange)
  | waiting (change : ActiveChange)
  | changing (change : ActiveChange)
  deriving DecidableEq, Repr, Inhabited

/-- R112 to R129: what the roving planner holds. -/
structure Planner where
  /-- R114: the call-point list: odometer value and group, ascending -/
  points : List (Nat × Nat)
  /-- R115: the roving call list, in order -/
  calls : List Call
  transport : Transport
  /-- R121: tag counter -/
  tag : Nat
  /-- R121: discarded-message counter of the transport link -/
  discarded : Nat
  /-- R125: back-off -/
  backOff : Option Nat
  /-- R129: last timed-out call: group and tag -/
  lastTimedOut : Option (Nat × Nat)
  deriving DecidableEq, Repr, Inhabited

/-! ## Doff sequencer (chapter 7) -/

/-- R136, R153: a lot. -/
structure Lot where
  number : Nat
  /-- yarn count t, tex times 100 -/
  t : Nat
  /-- total draft r, times 100 -/
  r : Nat
  /-- set length Ls, m -/
  ls : Nat
  /-- warning length Lw, m -/
  lw : Nat
  /-- full roving bobbin Lr, m -/
  lr : Nat
  /-- short-cop threshold ps, % -/
  ps : Nat
  deriving DecidableEq, Repr, Inhabited

/-- R136, R140: the call flags and the call stamp. -/
structure CallInfo where
  early : Bool
  forced : Bool
  held : Bool
  stamp : Nat
  deriving DecidableEq, Repr, Inhabited

/-- R143: a doff record. -/
structure DoffRecord where
  number : Nat
  callStamp : Nat
  clearStamp : Nat
  completion : Option Nat
  delivered : Nat
  cops : Nat
  shortCops : Nat
  empty : Nat
  lot : Nat
  appliedLot : Option Nat
  early : Bool
  forced : Bool
  held : Bool
  deriving DecidableEq, Repr, Inhabited

/-- R137: the six doff states, with the fields that R136 makes present in them. -/
inductive DoffPhase where
  | spinning
  | warned
  | called (call : CallInfo)
  | parking (call : CallInfo)
  | doffing (call : CallInfo) (record : DoffRecord)
  | restarting
  deriving DecidableEq, Repr, Inhabited

/-- R134 to R136, R146: what the doff sequencer holds. -/
structure Doff where
  phase : DoffPhase
  /-- the odometer at the last doff completion -/
  phiD : Nat
  /-- R12: doff pulses D -/
  dPulses : Nat
  /-- R12: warning pulses W -/
  wPulses : Nat
  /-- R12: overrun distance -/
  overrun : Nat
  /-- R12: restart window pulses Rw -/
  rwPulses : Nat
  hold : Bool
  overdue : Bool
  number : Nat
  lot : Lot
  pendingLot : Option Lot
  log : List DoffRecord
  /-- R134: level of doffer active -/
  dofferActive : Bool
  /-- R135: doff request output -/
  request : Bool
  /-- R135: carriages clear output -/
  clear : Bool
  deriving DecidableEq, Repr, Inhabited

/-! ## Shift accounting (chapter 8) -/

/-- R18, R158: the eight spindle-second categories. -/
structure Categories where
  running : Nat
  settling : Nat
  broken : Nat
  piecing : Nat
  waitRoving : Nat
  locked : Nat
  stopped : Nat
  withheld : Nat
  deriving DecidableEq, Repr, Inhabited

/-- R158: breaks by cause. -/
structure BreakCounts where
  yarn : Nat
  start : Nat
  notHeld : Nat
  noStart : Nat
  rovingOut : Nat
  deriving DecidableEq, Repr, Inhabited

/-- R158: the six piecing counts. -/
structure PiecingCounts where
  issued : Nat
  pieced : Nat
  failed : Nat
  notReached : Nat
  cancelled : Nat
  timedOut : Nat
  deriving DecidableEq, Repr, Inhabited

/-- R159: a lot segment. -/
structure Segment where
  lot : Nat
  t : Nat
  pulses : Nat
  deriving DecidableEq, Repr, Inhabited

/-- R158: the shift record. -/
structure Shift where
  number : Nat
  openStamp : Nat
  openSecond : Nat
  interrupted : Bool
  clockUnset : Bool
  restarts : Nat
  categories : Categories
  breaks : BreakCounts
  handPieced : Nat
  piecing : PiecingCounts
  doffs : Nat
  cops : Nat
  shortCops : Nat
  changes : Nat
  residue : Nat
  segments : List Segment
  deriving DecidableEq, Repr, Inhabited

/-- R162: the derived figures of a shift. -/
structure Derived where
  segmentLengths : List Nat
  segmentMasses : List Nat
  totalLength : Nat
  totalMass : Nat
  spindleEfficiency : Option Nat
  frameEfficiency : Option Nat
  breakRate : Option Nat
  deriving DecidableEq, Repr, Inhabited

/-- R163: a closed shift record. -/
structure ClosedShift where
  shift : Shift
  closeStamp : Nat
  duration : Nat
  spindleCount : Nat
  derived : Derived
  deriving DecidableEq, Repr, Inhabited

/-! ## Zone logic and settings store (chapter 9) -/

/-- R174: the end a zone is counted from. -/
inductive Anchor where
  | low
  | high
  deriving DecidableEq, Repr, Inhabited

/-- R174: a zone record. -/
structure Zone where
  enabled : Bool
  anchor : Anchor
  extent : Nat
  complement : Bool
  deriving DecidableEq, Repr, Inhabited

/-- R174: the four zone records. -/
structure ZoneRecords where
  a1 : Zone
  a2 : Zone
  b1 : Zone
  b2 : Zone
  deriving DecidableEq, Repr, Inhabited

/-- R174, R175: the zone records and the frame's withheld sector set, ascending. -/
structure Zones where
  records : ZoneRecords
  withheld : List Nat
  deriving DecidableEq, Repr, Inhabited

/-- R104: the arbitration modes. -/
inductive ArbitrationMode where
  | rovingFirst
  | piecingFirst
  | alternate
  | weighed
  deriving DecidableEq, Repr, Inhabited

/-- R179: the working settings, fields 12 to 34. -/
structure Working where
  /-- 12, Lm -/
  callMargin : Nat
  /-- 13, po -/
  outMargin : Nat
  /-- 14, Lrw -/
  restartWindow : Nat
  /-- 15, pv -/
  overrunLimit : Nat
  /-- 16 -/
  pulseLossTime : Nat
  /-- 17 -/
  drowseDelay : Nat
  /-- 18 -/
  settleCount : Nat
  /-- 19 -/
  breakConfirm : Nat
  /-- 20 -/
  settleLimit : Nat
  /-- 21 -/
  lampHold : Nat
  /-- 22, in minutes -/
  rogueWindow : Nat
  /-- 23, R -/
  rogueCount : Nat
  /-- 24, A -/
  failureLimit : Nat
  /-- 25 -/
  ageLimit : Nat
  /-- 26 -/
  orderTimeoutCode : Nat
  /-- 27 -/
  parkTimeout : Nat
  /-- 28 -/
  arbitration : ArbitrationMode
  /-- 29 -/
  waitLimit : Nat
  /-- 30 -/
  transportTimeoutCode : Nat
  /-- 31 -/
  replyLimit : Nat
  /-- 32: notice class enables, one bit per class in the order of section 11.6 -/
  enables : BitVec 6
  /-- 33: fault masks, one bit per class in the order of section 10.1 -/
  masks : BitVec 11
  /-- 34: fault severities, a set bit means SERIOUS -/
  severities : BitVec 11
  deriving DecidableEq, Repr, Inhabited

/-- R179: the retained copy of the settings record, fields 1 to 34. -/
structure Retained where
  sides : Nat
  sectors : Nat
  d : Nat
  p : Nat
  lot : Lot
  working : Working
  deriving DecidableEq, Repr, Inhabited

/-- R179: the two copies of the settings record. -/
structure Settings where
  working : Working
  retained : Retained
  deriving DecidableEq, Repr, Inhabited

/-- R184: an image of the retained store whose check passes. -/
structure Image where
  settings : Retained
  zones : ZoneRecords
  ring : List ClosedShift
  sequence : Nat
  deriving DecidableEq, Repr, Inhabited

/-- R184: the two copies. -/
inductive CopyNo where
  | one
  | two
  deriving DecidableEq, Repr, Inhabited

/-- R185: the store writer. -/
inductive Writer where
  | idle
  | writing (copy : CopyNo) (image : Image)
  deriving DecidableEq, Repr, Inhabited

/-- R184, R185: the retained store (`none` for a copy that is not valid) and its writer. -/
structure Store where
  copy1 : Option Image
  copy2 : Option Image
  writer : Writer
  rewrite : Bool
  deriving DecidableEq, Repr, Inhabited

/-! ## Fault and notice unit (chapter 10) -/

/-- Section 10.1: the eleven fault classes, in order. -/
inductive FaultClass where
  | listOverflow
  | orderTimeout
  | carriageLost
  | carriageConflict
  | parkTimeout
  | transportTimeout
  | headSilent
  | pulseLoss
  | frameSignal
  | storeWrite
  | storeInvalid
  deriving DecidableEq, Repr, Inhabited

/-- R194, R210: what a fault or a notice concerns. -/
inductive Subject where
  | none
  | spindle (n : Nat)
  | sector (n : Nat)
  | side (s : Side)
  | group (n : Nat)
  | doff (n : Nat)
  | shift (n : Nat)
  deriving DecidableEq, Repr, Inhabited

/-- R144, R210: the frame signals of FRAME_SIGNAL. -/
inductive FrameSignal where
  | dofferActiveRise
  | doffComplete
  deriving DecidableEq, Repr, Inhabited

/-- R145, R210: what became of the pending lot at a doff completion. -/
inductive LotOutcome where
  | nonePending
  | applied
  | deferred
  deriving DecidableEq, Repr, Inhabited

/-- R194, R210: the detail of a fault or a notice, kind by kind. -/
inductive Detail where
  | none
  | lock (reason : LockReason) (count : Nat)
  | station (n : Nat)
  | conflict (station : Nat) (reason : RefuseReason)
  | spindle (n : Nat)
  | tag (n : Nat)
  | residue (metres : Nat)
  | doffDone (cops shortCops : Nat) (lot : LotOutcome)
  | progress (pulses : Nat)
  | shiftClosed (mass : Nat) (efficiency : Option Nat)
  /-- the signal and the code of the doff state -/
  | signal (signal : FrameSignal) (doffState : Nat)
  | sequence (n : Nat)
  deriving DecidableEq, Repr, Inhabited

/-- R190: the first-fault record. -/
structure FirstFault where
  cls : FaultClass
  stamp : Nat
  subject : Subject
  detail : Detail
  deriving DecidableEq, Repr, Inhabited

/-- R188 to R191: status and count of each class, the first-fault record and the frame alarm output. -/
structure Faults where
  status : BitVec 11
  /-- one count per class, in class order -/
  counts : List Nat
  first : Option FirstFault
  alarm : Bool
  deriving DecidableEq, Repr, Inhabited

/-- R194: the notice kinds. -/
inductive NoticeKind where
  | fault (cls : FaultClass)
  | spindleLocked
  | carriageEnrolled
  | rovingChanged
  | lateChange
  | doffDone
  | doffForced
  | shiftClosed
  | headBack
  | pulseResumed
  deriving DecidableEq, Repr, Inhabited

/-- R194: notice levels. -/
inductive NoticeLevel where
  | info
  | warning
  | critical
  deriving DecidableEq, Repr, Inhabited

/-- R194: a notice. `fetched` is the model's own: the notice stands in a Fetch Notices reply that has not been sent yet (R198). -/
structure Notice where
  kind : NoticeKind
  level : NoticeLevel
  stamp : Nat
  subject : Subject
  detail : Detail
  fetched : Bool
  deriving DecidableEq, Repr, Inhabited

/-- R195 to R197: pending latches (one bit per class), notice queue (oldest first) and lost count. The last two fields are the model's
own (assumption log entry 18): a reply is built when its request is taken and sent later, and what came between must outlive it. -/
structure Notices where
  latches : BitVec 6
  queue : List Notice
  lost : Nat
  /-- R195: the latches set by notices raised since the latest Status reply was built -/
  latchedSince : BitVec 6
  /-- R198: the notices lost since the latest Fetch Notices reply was built -/
  lostSince : Nat
  deriving DecidableEq, Repr, Inhabited

/-! ## Line interface (chapter 11) -/

/-- R200: receiver states. -/
inductive Receiver where
  | hunting
  | inFrame
  | resync
  | replying
  deriving DecidableEq, Repr, Inhabited

/-- R201, R207: what the sending of a reply brings about. -/
inductive ReplyEffect where
  | none
  /-- R198: the notices marked are removed and the lost count becomes 0 -/
  | fetch
  /-- R195: the latches reported set are cleared -/
  | latches (reported : BitVec 6)
  /-- R204: the spindle read cursor moves -/
  | cursor (next : Nat)
  /-- R207: Restart is made when the reply has been sent whole -/
  | restart
  deriving DecidableEq, Repr, Inhabited

/-- R201: a reply whose request has been taken: request kind, body (outcome first) and effect. -/
structure Reply where
  kind : Nat
  body : List Byte
  effect : ReplyEffect
  deriving DecidableEq, Repr, Inhabited

/-- R187, R200, R204: what the line interface holds. -/
structure Line where
  address : Nat
  speed : Nat
  receiver : Receiver
  reply : Option Reply
  discardedFrames : Nat
  badRequests : Nat
  cursor : Nat
  deriving DecidableEq, Repr, Inhabited

/-! ## What the part sends -/

/-- R73: messages to a carriage. -/
inductive CarriageMessage where
  | accept (side : Side) (first last : Nat)
  | refuse (reason : RefuseReason)
  | wait
  | piece (spindle tag : Nat)
  | park
  | resume
  | poll
  deriving DecidableEq, Repr, Inhabited

/-- R121: messages to the transport. -/
inductive TransportMessage where
  | call (group : Nat) (urgency : CallUrgency) (tag : Nat)
  | proceed (tag : Nat)
  | cancel (tag : Nat)
  deriving DecidableEq, Repr, Inhabited

/-- A message of the part: a poll of a head (R22, with the roving stops of its positions, the lamp state and the rail command), a
carriage or transport message, or a reply frame on the supervisor line (R208). -/
inductive Output where
  | poll (side : Side) (head : Nat) (stops : List Bool) (lamp : LampState) (sleep : Bool)
  | carriage (station : Nat) (message : CarriageMessage)
  | transport (message : TransportMessage)
  | frame (bytes : List Byte)
  deriving DecidableEq, Repr, Inhabited

/-! ## The machine -/

/-- The state of the 2416. -/
structure State where
  /-- R185, POWER_LOSS: power is applied -/
  powered : Bool
  /-- the commands waiting, first in, first out -/
  pending : List Instr
  /-- the messages the latest command sent, in order -/
  emitted : List Output
  delivery : Delivery
  railA : Rail
  railB : Rail
  drowse : Drowse
  spindles : List Spindle
  lamps : List Lamp
  listA : List Entry
  listB : List Entry
  car1 : Carriage
  car2 : Carriage
  /-- R72: discarded-message counter of the carriage link -/
  carDiscards : Nat
  locks : List Lock
  planner : Planner
  doff : Doff
  shift : Shift
  ring : List ClosedShift
  zones : Zones
  settings : Settings
  store : Store
  faults : Faults
  notices : Notices
  line : Line
  deriving DecidableEq, Repr, Inhabited

/-- The part never stops: no command ends in a fault. The faults of chapter 10 are records the part keeps (`Faults`). -/
inductive Fault where
  deriving DecidableEq, Repr

/-- Why a command has no meaning. Raised by `exec` alone; safe, since nothing is claimed of a state that was not answered. -/
inductive Refusal where
  /-- the row of the table with this mnemonic has no meaning in the model -/
  | notModelled (mnemonic : String)
  deriving DecidableEq, Repr

/-! ## The state after reset

Power-on reset (R186 and the reset rules of each chapter) of a board whose retained store holds no valid copy, with the address
strap at 1, the speed strap at 0 and neither drive running nor doffer active asserted: DESIGN CHOICE, assumption log entry 1, unsafe.
Every other value is the rule's. -/

/-- Section 1.6: the default lot; R179 field 5 gives its number. -/
def defaultLot : Lot := { number := 0, t := 1476, r := 3500, ls := 4000, lw := 150, lr := 3000, ps := 80 }

/-- R179: the default working settings. -/
def defaultWorking : Working :=
  { callMargin := 300, outMargin := 2, restartWindow := 30, overrunLimit := 5, pulseLossTime := 10, drowseDelay := 600,
    settleCount := 4, breakConfirm := 2, settleLimit := 60, lampHold := 3, rogueWindow := 60, rogueCount := 3,
    failureLimit := 3, ageLimit := 300, orderTimeoutCode := 2, parkTimeout := 90, arbitration := .alternate, waitLimit := 120,
    transportTimeoutCode := 2, replyLimit := 250, enables := 0b111111#6, masks := 0#11, severities := 0b10100010001#11 }

/-- R179: the default settings record. -/
def defaultRetained : Retained :=
  { sides := 2, sectors := 42, d := 2700, p := 4, lot := defaultLot, working := defaultWorking }

/-- R174: the default zone record. -/
def defaultZone : Zone := { enabled := false, anchor := .low, extent := 0, complement := false }

/-- R174: the default zone records. -/
def defaultZones : ZoneRecords := { a1 := defaultZone, a2 := defaultZone, b1 := defaultZone, b2 := defaultZone }

/-- R30: a head after a reset. -/
def freshHead : Head := { state := .settlingHead 2, misses := 0, returnMark := false }

/-- R30: a rail of `n` heads after power-on reset. -/
def freshRail (n : Nat) : Rail :=
  { awake := true, position := 1, sleepRound := false, inFlight := none, discarded := 0, heads := List.replicate n freshHead }

/-- R21, R47: a spindle after power-on reset, in the state the zones and the drive give it, both marks at 0. -/
def freshSpindle (st : SpindleState) (engaged : Bool) : Spindle :=
  { state := st, secondsMark := 0, pulseMark := some 0, streak := 0, attempts := 0, failures := 0, breakRing := [], unlisted := false,
    stopEngaged := engaged, withholdPending := false, copPulses := 0, rovingUsed := 0, estimateValid := false,
    shiftPulses := 0, shiftSeconds := 0, shiftEndBreaks := 0 }

/-- R46: a lamp after power-on reset. -/
def freshLamp : Lamp := { state := .off, hold := none }

/-- R97: a carriage record after power-on reset. -/
def freshCarriage : Carriage :=
  { link := .absent, tag := 15, parkTimer := none, linkTimer := none,
    counters := { orders := 0, pieced := 0, failed := 0, notReached := 0, timeouts := 0, late := 0 } }

/-- R110: a lock record after power-on reset. -/
def freshLock : Lock := { holder := .free, last := .none, carryOver := 0 }

/-- R132: the planner after power-on reset. -/
def freshPlanner : Planner :=
  { points := [], calls := [], transport := .idle, tag := 255, discarded := 0, backOff := none, lastTimedOut := none }

/-- R166, R172: all categories at 0. -/
def zeroCategories : Categories :=
  { running := 0, settling := 0, broken := 0, piecing := 0, waitRoving := 0, locked := 0, stopped := 0, withheld := 0 }

/-- R166: a shift opened now, with its number, stamps, flags and the segment of the lot in force. -/
def freshShift (number stamp second : Nat) (interrupted clockUnset : Bool) (lot : Lot) : Shift :=
  { number := number, openStamp := stamp, openSecond := second, interrupted := interrupted, clockUnset := clockUnset,
    restarts := 0, categories := zeroCategories,
    breaks := { yarn := 0, start := 0, notHeld := 0, noStart := 0, rovingOut := 0 }, handPieced := 0,
    piecing := { issued := 0, pieced := 0, failed := 0, notReached := 0, cancelled := 0, timedOut := 0 },
    doffs := 0, cops := 0, shortCops := 0, changes := 0, residue := 0,
    segments := [{ lot := lot.number, t := lot.t, pulses := 0 }] }

/-- R186: the image of the defaults, whose write is the first after an invalid store. -/
def defaultImage : Image := { settings := defaultRetained, zones := defaultZones, ring := [], sequence := 1 }

/-- The machine right after power-on reset of a board with a blank retained store (assumption log entry 1). -/
def State.reset : State :=
  { powered := true
    pending := []
    emitted := []
    delivery :=
      { sides := 2, sectors := 42, d := 2700, p := 4, phi := 0, now := 0, mill := 0, clockSet := false, driving := false,
        pulseTimer := none, pulseLost := false }
    railA := freshRail 42
    railB := freshRail 42
    drowse := { timer := some 600, deferred := false, drowsing := false }
    spindles := List.replicate 2016 (freshSpindle .idle false)
    lamps := List.replicate 84 freshLamp
    listA := []
    listB := []
    car1 := freshCarriage
    car2 := freshCarriage
    carDiscards := 0
    locks := List.replicate 84 freshLock
    planner := freshPlanner
    doff :=
      { phase := .spinning, phiD := 0, dPulses := 188629, wPulses := 7073, overrun := 198060, rwPulses := 1414,
        hold := false, overdue := false, number := 0, lot := defaultLot, pendingLot := none, log := [],
        dofferActive := false, request := false, clear := false }
    shift := freshShift 1 0 0 true true defaultLot
    ring := []
    zones := { records := defaultZones, withheld := [] }
    settings := { working := defaultWorking, retained := defaultRetained }
    store := { copy1 := none, copy2 := none, writer := .writing .one defaultImage, rewrite := false }
    faults :=
      { status := 0b10000000000#11, counts := [0, 0, 0, 0, 0, 0, 0, 0, 0, 0, 1],
        first := some { cls := .storeInvalid, stamp := 0, subject := .none, detail := .none }, alarm := true }
    notices :=
      { latches := 0b100000#6,
        queue := [{ kind := .fault .storeInvalid, level := .critical, stamp := 0, subject := .none, detail := .none,
                    fetched := false }],
        lost := 0, latchedSince := 0b100000#6, lostSince := 0 }
    line :=
      { address := 1, speed := 0, receiver := .hunting, reply := none, discardedFrames := 0, badRequests := 0, cursor := 1 } }

end Sys2Proof.Machine
end

