-- ==== Sys2Proof/Machine/Operands.lean ====
section
/-! DEFINITION. The forms operands and stored things come in: numbered tables counted from 1, saturating counters, timers, the
numbers of spindles, sectors and change groups (R1, R2), and the bytes of request and reply bodies (R208). -/

namespace Sys2Proof.Machine

open Sys2Proof

/-! ## Tables counted from 1 -/

/-- The `n`-th item of a table counted from 1; `dflt` outside the table. -/
def nth {α : Type} (l : List α) (n : Nat) (dflt : α) : α :=
  match n with
  | 0 => dflt
  | k + 1 => l.getD k dflt

/-- The table with its `n`-th item, counted from 1, changed by `f`; unchanged when there is no such item. -/
def modifyNth {α : Type} (l : List α) (n : Nat) (f : α → α) : List α :=
  match n with
  | 0 => l
  | k + 1 => l.modify k f

/-- The whole numbers from `first` to `last`, both included. -/
def span (first last : Nat) : List Nat := List.range' first (last + 1 - first)

/-! ## Counters and timers -/

/-- R17: adding `b` to a counter at `a` whose range ends at `top`. -/
def satAdd (top a b : Nat) : Nat := min top (a + b)

/-- R6: a timer with this deadline has expired when the run-seconds clock reads `now`; a stopped timer never expires. -/
def expired (timer : Option Nat) (now : Nat) : Bool :=
  match timer with
  | none => false
  | some deadline => deadline ≤ now

/-! ## Geometry (R1, R2) -/

/-- R1: the side is configured. -/
def sideConfigured (s : State) (side : Side) : Bool :=
  match side with
  | .a => true
  | .b => s.delivery.sides == 2

/-- R1: the configured sides, A first. -/
def configuredSides (s : State) : List Side := if s.delivery.sides == 2 then [.a, .b] else [.a]

/-- R1: sectors of the frame. -/
def sectorCount (s : State) : Nat := s.delivery.sides * s.delivery.sectors

/-- R1: the configured spindle count N. -/
def spindleCount (s : State) : Nat := Config.sectorSpindles * sectorCount s

/-- R2: change groups of the frame. -/
def groupCount (s : State) : Nat := 3 * sectorCount s

/-- R1: a configured spindle number. -/
def isSpindle (s : State) (n : Nat) : Bool := 1 ≤ n && n ≤ spindleCount s

/-- R1: a configured sector number. -/
def isSector (s : State) (k : Nat) : Bool := 1 ≤ k && k ≤ sectorCount s

/-- R2: a configured change group number. -/
def isGroup (s : State) (g : Nat) : Bool := 1 ≤ g && g ≤ groupCount s

/-- R1: spindle `n` lies in sector ceil(n/24). -/
def sectorOf (n : Nat) : Nat := (n - 1) / Config.sectorSpindles + 1

/-- R1: position of spindle `n` within its sector, 1 to 24. -/
def positionOf (n : Nat) : Nat := (n - 1) % Config.sectorSpindles + 1

/-- R2: tier of spindle `n`, 1 to 3. -/
def tierOf (n : Nat) : Nat := (positionOf n - 1) / Config.groupPositions + 1

/-- R2: change group of spindle `n`. -/
def groupOf (n : Nat) : Nat := (sectorOf n - 1) * 3 + tierOf n

/-- R1: sector `k` belongs to side A when k ≤ S and to side B otherwise. -/
def sideOfSector (s : State) (k : Nat) : Side := if k ≤ s.delivery.sectors then .a else .b

/-- R1: the side of a spindle. -/
def sideOf (s : State) (n : Nat) : Side := sideOfSector s (sectorOf n)

/-- R2: head number on its side's rail of the head that watches sector `k`. -/
def headOfSector (s : State) (k : Nat) : Nat := if k ≤ s.delivery.sectors then k else k - s.delivery.sectors

/-- R2: the sector watched by head `h` of a side's rail. -/
def sectorOfHead (s : State) (side : Side) (h : Nat) : Nat :=
  match side with
  | .a => h
  | .b => s.delivery.sectors + h

/-- R2: the sector of a change group. -/
def sectorOfGroup (g : Nat) : Nat := (g - 1) / 3 + 1

/-- R1: the 24 spindles of a sector, in position order. -/
def spindlesOfSector (k : Nat) : List Nat := List.range' (Config.sectorSpindles * (k - 1) + 1) Config.sectorSpindles

/-- R2: the eight spindles of a change group. -/
def spindlesOfGroup (g : Nat) : List Nat := List.range' (Config.groupPositions * (g - 1) + 1) Config.groupPositions

/-- R1: first sector of a side. -/
def firstSector (s : State) (side : Side) : Nat :=
  match side with
  | .a => 1
  | .b => s.delivery.sectors + 1

/-- R1: the sectors of a side. -/
def sectorsOfSide (s : State) (side : Side) : List Nat := List.range' (firstSector s side) s.delivery.sectors

/-- R1: first spindle of a side. -/
def firstSpindle (s : State) (side : Side) : Nat := Config.sectorSpindles * (firstSector s side - 1) + 1

/-- R1: last spindle of a side. -/
def lastSpindle (s : State) (side : Side) : Nat := firstSpindle s side + Config.sectorSpindles * s.delivery.sectors - 1

/-- R1: every configured spindle. -/
def allSpindles (s : State) : List Nat := List.range' 1 (spindleCount s)

/-- R2: every configured change group. -/
def allGroups (s : State) : List Nat := List.range' 1 (groupCount s)

/-- R1: the spindles of a side. -/
def spindlesOfSide (s : State) (side : Side) : List Nat :=
  List.range' (firstSpindle s side) (Config.sectorSpindles * s.delivery.sectors)

/-! ## Bytes (R208) -/

/-- `n` as `k` bytes, most significant first. -/
def bytesOf : Nat → Nat → List Byte
  | 0, _ => []
  | k + 1, n => BitVec.ofNat 8 (n / 256 ^ k) :: bytesOf k n

/-- R208: a field of `k` bytes. A number above the field's top is sent as the top (assumption log entry 20). -/
def field (k n : Nat) : List Byte := bytesOf k (min n (256 ^ k - 1))

/-- A flag or a level: 1 set or asserted, 0 clear or dropped (assumption log entry 19). -/
def flag (b : Bool) : List Byte := field 1 (if b then 1 else 0)

/-- R208: a field that may be absent: a presence byte, then the field. -/
def optional {α : Type} (o : Option α) (f : α → List Byte) : List Byte :=
  match o with
  | none => [0]
  | some x => 1 :: f x

/-- R208: the number that bytes stand for, most significant first. -/
def numberOf (bytes : List Byte) : Nat := bytes.foldl (fun acc b => acc * 256 + b.toNat) 0

/-- The number in the `len` bytes from `offset` of a request body. -/
def bodyNumber (body : List Byte) (offset len : Nat) : Nat := numberOf ((body.drop offset).take len)

/-- Section 11.6: a side in a body is 1 for side A and 2 for side B. -/
def sideOfCode (code : Nat) : Option Side :=
  match code with
  | 1 => some .a
  | 2 => some .b
  | _ => none

/-- Section 11.6: the code of a side. -/
def sideCode (side : Side) : Nat :=
  match side with
  | .a => 1
  | .b => 2

/-- R92: a record number in a body. -/
def recordOfCode (code : Nat) : Option RecordNo :=
  match code with
  | 1 => some .one
  | 2 => some .two
  | _ => none

/-- The number of a record. -/
def recordCode (record : RecordNo) : Nat :=
  match record with
  | .one => 1
  | .two => 2

/-- The other record. -/
def otherRecord (record : RecordNo) : RecordNo :=
  match record with
  | .one => .two
  | .two => .one

/-- R176: a configured side named by its code. -/
def configuredSideOfCode (s : State) (code : Nat) : Option Side :=
  match sideOfCode code with
  | some side => if sideConfigured s side then some side else none
  | none => none

/-! ## Settings by field number (R179, R181) -/

/-- Code of an arbitration mode (section 11.6). -/
def ArbitrationMode.code (m : ArbitrationMode) : Nat :=
  match m with
  | .rovingFirst => 0
  | .piecingFirst => 1
  | .alternate => 2
  | .weighed => 3

/-- Arbitration mode of a code; R180 has refused every other code. -/
def arbitrationOfCode (code : Nat) : ArbitrationMode :=
  match code with
  | 0 => .rovingFirst
  | 1 => .piecingFirst
  | 2 => .alternate
  | _ => .weighed

/-- A number held to a range. -/
def clampTo (low high v : Nat) : Nat := max low (min high v)

/-- R181, R153: the value written for a value sent, by field number (R179). -/
def clampField (field v : Nat) : Nat :=
  match field with
  | 1 => clampTo 1 2 v
  | 2 => clampTo 1 42 v
  | 3 => clampTo 1800 4000 v
  | 4 => clampTo 1 64 v
  | 5 => clampTo 0 65535 v
  | 6 => clampTo 400 20000 v
  | 7 => clampTo 1000 8000 v
  | 8 => clampTo 500 12000 v
  | 9 => clampTo 0 2000 v
  | 10 => clampTo 500 8000 v
  | 11 => clampTo 10 95 v
  | 12 => clampTo 20 2000 v
  | 13 => clampTo 0 10 v
  | 14 => clampTo 0 500 v
  | 15 => clampTo 0 20 v
  | 16 => clampTo 2 60 v
  | 17 => if v = 0 then 0 else clampTo 30 3600 v
  | 18 => clampTo 2 16 v
  | 19 => clampTo 1 8 v
  | 20 => clampTo 10 600 v
  | 21 => clampTo 0 30 v
  | 22 => clampTo 5 240 v
  | 23 => if v = 0 then 0 else clampTo 2 4 v
  | 24 => clampTo 0 7 v
  | 25 => clampTo 30 1800 v
  | 26 => clampTo 0 3 v
  | 27 => clampTo 10 300 v
  | 28 => v
  | 29 => clampTo 30 600 v
  | 30 => clampTo 0 3 v
  | 31 => clampTo 64 250 v
  | 32 => v % 64
  | 33 => v % 2048
  | 34 => v % 2048
  | _ => v

/-- R183: the value of a working setting by field number, 12 to 34. -/
def Working.get (w : Working) (field : Nat) : Nat :=
  match field with
  | 12 => w.callMargin
  | 13 => w.outMargin
  | 14 => w.restartWindow
  | 15 => w.overrunLimit
  | 16 => w.pulseLossTime
  | 17 => w.drowseDelay
  | 18 => w.settleCount
  | 19 => w.breakConfirm
  | 20 => w.settleLimit
  | 21 => w.lampHold
  | 22 => w.rogueWindow
  | 23 => w.rogueCount
  | 24 => w.failureLimit
  | 25 => w.ageLimit
  | 26 => w.orderTimeoutCode
  | 27 => w.parkTimeout
  | 28 => w.arbitration.code
  | 29 => w.waitLimit
  | 30 => w.transportTimeoutCode
  | 31 => w.replyLimit
  | 32 => w.enables.toNat
  | 33 => w.masks.toNat
  | 34 => w.severities.toNat
  | _ => 0

/-- R180: a working setting written by field number; a number that is no working field changes nothing. -/
def Working.set (w : Working) (field v : Nat) : Working :=
  match field with
  | 12 => { w with callMargin := v }
  | 13 => { w with outMargin := v }
  | 14 => { w with restartWindow := v }
  | 15 => { w with overrunLimit := v }
  | 16 => { w with pulseLossTime := v }
  | 17 => { w with drowseDelay := v }
  | 18 => { w with settleCount := v }
  | 19 => { w with breakConfirm := v }
  | 20 => { w with settleLimit := v }
  | 21 => { w with lampHold := v }
  | 22 => { w with rogueWindow := v }
  | 23 => { w with rogueCount := v }
  | 24 => { w with failureLimit := v }
  | 25 => { w with ageLimit := v }
  | 26 => { w with orderTimeoutCode := v }
  | 27 => { w with parkTimeout := v }
  | 28 => { w with arbitration := arbitrationOfCode v }
  | 29 => { w with waitLimit := v }
  | 30 => { w with transportTimeoutCode := v }
  | 31 => { w with replyLimit := v }
  | 32 => { w with enables := BitVec.ofNat 6 v }
  | 33 => { w with masks := BitVec.ofNat 11 v }
  | 34 => { w with severities := BitVec.ofNat 11 v }
  | _ => w

/-- The value of a lot field by the field number of the retained lot, 5 to 11. -/
def Lot.get (l : Lot) (field : Nat) : Nat :=
  match field with
  | 5 => l.number
  | 6 => l.t
  | 7 => l.r
  | 8 => l.ls
  | 9 => l.lw
  | 10 => l.lr
  | 11 => l.ps
  | _ => 0

/-- A lot field written by its field number. -/
def Lot.set (l : Lot) (field v : Nat) : Lot :=
  match field with
  | 5 => { l with number := v }
  | 6 => { l with t := v }
  | 7 => { l with r := v }
  | 8 => { l with ls := v }
  | 9 => { l with lw := v }
  | 10 => { l with lr := v }
  | 11 => { l with ps := v }
  | _ => l

/-- R183: the value of a field of the retained copy. -/
def Retained.get (r : Retained) (field : Nat) : Nat :=
  match field with
  | 1 => r.sides
  | 2 => r.sectors
  | 3 => r.d
  | 4 => r.p
  | _ => if field ≤ 11 then r.lot.get field else r.working.get field

/-- R180: a field of the retained copy written. -/
def Retained.set (r : Retained) (field v : Nat) : Retained :=
  match field with
  | 1 => { r with sides := v }
  | 2 => { r with sectors := v }
  | 3 => { r with d := v }
  | 4 => { r with p := v }
  | _ => if field ≤ 11 then { r with lot := r.lot.set field v } else { r with working := r.working.set field v }

/-- R88: the order timeout of a code, in seconds. -/
def orderTimeoutOf (code : Nat) : Nat :=
  match code with
  | 0 => 15
  | 1 => 30
  | 2 => 60
  | _ => 120

/-- R123: the transport timeout of a code, in seconds (5, 10, 20, 40 minutes). -/
def transportTimeoutOf (code : Nat) : Nat :=
  match code with
  | 0 => 5 * 60
  | 1 => 10 * 60
  | 2 => 20 * 60
  | _ => 40 * 60

end Sys2Proof.Machine
end

