-- ==== Sys2Proof/Machine/Arith.lean ====
section
/-! DEFINITION. Delivery arithmetic (section 1.6): every conversion from pulses, exact in whole numbers with the one rounding its
rule names. -/

namespace Sys2Proof.Machine

open Sys2Proof

/-- R10: the common factor K = 11300·P. -/
def factorK (dl : Delivery) : Nat := 11300 * dl.p

/-- R10: the numerator factor M = 355·d. -/
def factorM (dl : Delivery) : Nat := 355 * dl.d

/-- R11: length of `n` pulses in whole millimetres. -/
def millimetres (dl : Delivery) (n : Nat) : Nat := n * factorM dl / factorK dl

/-- R11: length of `n` pulses in whole metres. -/
def metres (dl : Delivery) (n : Nat) : Nat := millimetres dl n / 1000

/-- Division rounded up. -/
def ceilDiv (a b : Nat) : Nat := (a + b - 1) / b

/-- R12: doff pulses D = ceil(Ls·1000·K / M). -/
def doffPulses (dl : Delivery) (lot : Lot) : Nat := ceilDiv (lot.ls * 1000 * factorK dl) (factorM dl)

/-- R12: warning pulses W, held to D − 1. -/
def warningPulses (dl : Delivery) (lot : Lot) : Nat :=
  min (lot.lw * 1000 * factorK dl / factorM dl) (doffPulses dl lot - 1)

/-- R12: restart window pulses Rw. -/
def restartPulses (dl : Delivery) (window : Nat) : Nat := window * 1000 * factorK dl / factorM dl

/-- R12: overrun distance D + floor(D·pv / 100). -/
def overrunDistance (d pv : Nat) : Nat := d + d * pv / 100

/-- R13: roving capacity C of a full position. -/
def capacity (dl : Delivery) (lot : Lot) : Nat := lot.lr * 10 * lot.r * factorK dl / factorM dl

/-- R13: call margin Cm. -/
def callMarginPulses (dl : Delivery) (lot : Lot) (lm : Nat) : Nat := lm * 10 * lot.r * factorK dl / factorM dl

/-- R13: out margin Co. -/
def outMarginPulses (dl : Delivery) (lot : Lot) (po : Nat) : Nat := capacity dl lot * po / 100

/-- R14: roving residue, in whole metres of roving, of `n` yarn pulses of unused roving. -/
def residueMetres (dl : Delivery) (lot : Lot) (n : Nat) : Nat := n * factorM dl / (113 * dl.p * lot.r * 1000)

/-- R14: mass in whole grams of `n` spindle-pulses at count t. -/
def grams (dl : Delivery) (t n : Nat) : Nat := n * factorM dl * t / (factorK dl * 100000000)

/-- R15: TOTAL, the sum of all eight categories. -/
def Categories.total (c : Categories) : Nat :=
  c.running + c.settling + c.broken + c.piecing + c.waitRoving + c.locked + c.stopped + c.withheld

/-- R15: a ratio in units of 0.01 %, absent when its denominator is 0. -/
def efficiency (running denominator : Nat) : Option Nat :=
  if denominator = 0 then none else some (running * 10000 / denominator)

/-- R15: spindle efficiency. -/
def spindleEfficiency (c : Categories) : Option Nat :=
  efficiency c.running (c.running + c.settling + c.broken + c.piecing + c.waitRoving + c.locked)

/-- R15: frame efficiency. -/
def frameEfficiency (c : Categories) : Option Nat := efficiency c.running (c.total - c.withheld)

/-- R16: end breaks E, those of causes YARN, START and NOT_HELD. -/
def endBreaks (b : BreakCounts) : Nat := b.yarn + b.start + b.notHeld

/-- R16: the break rate in tenths per 1000 running spindle-hours, rounded half up, held to 2^32 − 1. -/
def breakRate (e running : Nat) : Option Nat :=
  if running = 0 then none else some (min Config.top32 ((2 * e * 36000000 + running) / (2 * running)))

/-- R162: the derived figures of a shift, from its categories and segments as read. -/
def derivedFigures (dl : Delivery) (c : Categories) (b : BreakCounts) (segments : List Segment) : Derived :=
  { segmentLengths := segments.map fun g => metres dl g.pulses
    segmentMasses := segments.map fun g => grams dl g.t g.pulses
    totalLength := metres dl (segments.map (·.pulses)).sum
    totalMass := (segments.map fun g => grams dl g.t g.pulses).sum
    spindleEfficiency := spindleEfficiency c
    frameEfficiency := frameEfficiency c
    breakRate := breakRate (endBreaks b) c.running }

end Sys2Proof.Machine
end

