-- ==== Sys2Proof/Machine/Flags.lean ====
section
/-! DEFINITION. Computed flags and what stands on them: the time category and roving-stop flag of a spindle state, the doff state
codes and outputs, fault statuses, the frame alarm, notices, pending latches and the notice queue (chapter 10). -/

namespace Sys2Proof.Machine

open Sys2Proof

/-! ## Spindle states -/

/-- R18: the eight time categories. -/
inductive Category where
  | running
  | settling
  | broken
  | piecing
  | waitRoving
  | locked
  | stopped
  | withheld
  deriving DecidableEq, Repr, Inhabited

/-- R18: the time category of a spindle state at a level of drive running. An IDLE spindle counts as STOPPED. -/
def categoryOf (driving : Bool) (st : SpindleState) : Category :=
  match st with
  | .withheld => .withheld
  | .idle => .stopped
  | .settling _ _ => if driving then .settling else .stopped
  | .running => if driving then .running else .stopped
  | .broken _ _ => if driving then .broken else .stopped
  | .piecing _ _ => if driving then .piecing else .stopped
  | .waitRoving _ => if driving then .waitRoving else .stopped
  | .locked _ => if driving then .locked else .stopped

/-- The stored spindle-seconds of a category. -/
def Categories.get (c : Categories) (k : Category) : Nat :=
  match k with
  | .running => c.running
  | .settling => c.settling
  | .broken => c.broken
  | .piecing => c.piecing
  | .waitRoving => c.waitRoving
  | .locked => c.locked
  | .stopped => c.stopped
  | .withheld => c.withheld

/-- R17, R18: spindle-seconds added to a category. -/
def Categories.add (c : Categories) (k : Category) (amount : Nat) : Categories :=
  match k with
  | .running => { c with running := satAdd Config.top48 c.running amount }
  | .settling => { c with settling := satAdd Config.top48 c.settling amount }
  | .broken => { c with broken := satAdd Config.top48 c.broken amount }
  | .piecing => { c with piecing := satAdd Config.top48 c.piecing amount }
  | .waitRoving => { c with waitRoving := satAdd Config.top48 c.waitRoving amount }
  | .locked => { c with locked := satAdd Config.top48 c.locked amount }
  | .stopped => { c with stopped := satAdd Config.top48 c.stopped amount }
  | .withheld => { c with withheld := satAdd Config.top48 c.withheld amount }

/-- R35: the roving stop that a change to this state commands (true: engaged), PIECING engaged until ARRIVED. -/
def engagedOnEntry (st : SpindleState) : Bool :=
  match st with
  | .idle => false
  | .settling _ _ => false
  | .running => false
  | .withheld => true
  | .broken _ _ => true
  | .piecing _ _ => true
  | .waitRoving _ => true
  | .locked _ => true

/-- R209: code of a spindle state. -/
def SpindleState.code (st : SpindleState) : Nat :=
  match st with
  | .withheld => 0
  | .idle => 1
  | .settling _ _ => 2
  | .running => 3
  | .broken _ _ => 4
  | .piecing _ _ => 5
  | .waitRoving _ => 6
  | .locked _ => 7

/-- The spindle is RUNNING. -/
def SpindleState.isRunning (st : SpindleState) : Bool :=
  match st with
  | .running => true
  | _ => false

/-- R112: eligible for roving planning, neither WITHHELD nor LOCKED. -/
def SpindleState.eligible (st : SpindleState) : Bool :=
  match st with
  | .withheld => false
  | .locked _ => false
  | _ => true

/-- R45: a cause of STEADY, a spindle BROKEN, PIECING or WAIT_ROVING. -/
def SpindleState.causesSteady (st : SpindleState) : Bool :=
  match st with
  | .broken _ _ => true
  | .piecing _ _ => true
  | .waitRoving _ => true
  | _ => false

/-- R45: a cause of FLASHING, a LOCKED spindle. -/
def SpindleState.causesFlashing (st : SpindleState) : Bool :=
  match st with
  | .locked _ => true
  | _ => false

/-- R209: code of a break cause. -/
def BreakCause.code (c : BreakCause) : Nat :=
  match c with
  | .yarn => 0
  | .start => 1
  | .notHeld => 2
  | .noStart => 3
  | .rovingOut => 4

/-- R33: an end break, of cause YARN, START or NOT_HELD. -/
def BreakCause.isEndBreak (c : BreakCause) : Bool :=
  match c with
  | .yarn => true
  | .start => true
  | .notHeld => true
  | .noStart => false
  | .rovingOut => false

/-- R42: one break counted under its cause. -/
def BreakCounts.bump (b : BreakCounts) (c : BreakCause) : BreakCounts :=
  match c with
  | .yarn => { b with yarn := satAdd Config.top32 b.yarn 1 }
  | .start => { b with start := satAdd Config.top32 b.start 1 }
  | .notHeld => { b with notHeld := satAdd Config.top32 b.notHeld 1 }
  | .noStart => { b with noStart := satAdd Config.top32 b.noStart 1 }
  | .rovingOut => { b with rovingOut := satAdd Config.top32 b.rovingOut 1 }

/-! ## Doff states (R137) -/

/-- R208: code of a doff state, from SPINNING 0 to RESTARTING 5. -/
def DoffPhase.code (ph : DoffPhase) : Nat :=
  match ph with
  | .spinning => 0
  | .warned => 1
  | .called _ => 2
  | .parking _ => 3
  | .doffing _ _ => 4
  | .restarting => 5

/-- R81, R137: piecing dispatch is open in SPINNING and RESTARTING. -/
def DoffPhase.dispatchOpen (ph : DoffPhase) : Bool :=
  match ph with
  | .spinning => true
  | .restarting => true
  | _ => false

/-- R27: drowse is not taken in CALLED, PARKING and DOFFING. -/
def DoffPhase.inDoff (ph : DoffPhase) : Bool :=
  match ph with
  | .called _ => true
  | .parking _ => true
  | .doffing _ _ => true
  | _ => false

/-- R137: the doff request is asserted in CALLED, PARKING and DOFFING. -/
def DoffPhase.requestLevel (ph : DoffPhase) : Bool := ph.inDoff

/-- R137: carriages clear is asserted in DOFFING. -/
def DoffPhase.clearLevel (ph : DoffPhase) : Bool :=
  match ph with
  | .doffing _ _ => true
  | _ => false

/-- R136: the call flags and call stamp, present in CALLED, PARKING and DOFFING. -/
def DoffPhase.callInfo (ph : DoffPhase) : Option CallInfo :=
  match ph with
  | .called c => some c
  | .parking c => some c
  | .doffing c _ => some c
  | _ => none

/-! ## Fault classes and notice classes -/

/-- Section 10.1, section 11.6: the bit of a fault class, LIST_OVERFLOW 0 to STORE_INVALID 10. -/
def FaultClass.bit (c : FaultClass) : Nat :=
  match c with
  | .listOverflow => 0
  | .orderTimeout => 1
  | .carriageLost => 2
  | .carriageConflict => 3
  | .parkTimeout => 4
  | .transportTimeout => 5
  | .headSilent => 6
  | .pulseLoss => 7
  | .frameSignal => 8
  | .storeWrite => 9
  | .storeInvalid => 10

/-- Every fault class, in the order of section 10.1. -/
def allFaultClasses : List FaultClass :=
  [.listOverflow, .orderTimeout, .carriageLost, .carriageConflict, .parkTimeout, .transportTimeout, .headSilent, .pulseLoss,
   .frameSignal, .storeWrite, .storeInvalid]

/-- R194, section 11.6: the bit of a notice kind's class: SPINDLE 0, CARRIAGE 1, ROVING 2, DOFF 3, SHIFT 4, FAULT 5. -/
def NoticeKind.classBit (k : NoticeKind) : Nat :=
  match k with
  | .spindleLocked => 0
  | .carriageEnrolled => 1
  | .rovingChanged => 2
  | .lateChange => 2
  | .doffDone => 3
  | .doffForced => 3
  | .shiftClosed => 4
  | .headBack => 5
  | .pulseResumed => 5
  | .fault _ => 5

/-- R197, R198: rank of a level, INFO lowest. -/
def NoticeLevel.rank (l : NoticeLevel) : Nat :=
  match l with
  | .info => 0
  | .warning => 1
  | .critical => 2

/-- The bit `i` alone. -/
def bitOf (w i : Nat) : BitVec w := BitVec.ofNat w (2 ^ i)

/-! ## Notices (R194 to R198) -/

/-- The queue without its newest notice of this level. -/
def dropNewestOf (level : NoticeLevel) : List Notice → List Notice
  | [] => []
  | n :: rest =>
    if rest.any (fun m => m.level == level) then n :: dropNewestOf level rest
    else if n.level == level then rest else n :: rest

/-- R197: the lowest level present below CRITICAL: INFO if any INFO notice is queued, and WARNING otherwise. -/
def lowestLevel (queue : List Notice) : NoticeLevel :=
  if queue.any (fun n => n.level == .info) then .info else .warning

/-- R197, R198: one notice lost, counted for the next Fetch Notices reply and, where one has been built, for the one after it. -/
def Notices.lose (ns : Notices) : Notices :=
  { ns with lost := satAdd Config.top8 ns.lost 1, lostSince := satAdd Config.top8 ns.lostSince 1 }

/-- R195: the latch of a class set. -/
def Notices.latch (ns : Notices) (bit : Nat) : Notices :=
  { ns with latches := ns.latches ||| bitOf 6 bit, latchedSince := ns.latchedSince ||| bitOf 6 bit }

/-- R196, R197: a notice that is to be queued. -/
def enqueue (n : Notice) (ns : Notices) : Notices :=
  if ns.queue.length < Config.noticeCapacity then { ns with queue := ns.queue ++ [n] }
  else if n.level == .critical && ns.queue.any (fun m => m.level != .critical) then
    { ns.lose with queue := dropNewestOf (lowestLevel ns.queue) ns.queue ++ [n] }
  else ns.lose

/-- R194 to R197: a notice raised: its latch is set, and it is queued if its class is enabled or its level is CRITICAL. -/
def raiseNotice (kind : NoticeKind) (level : NoticeLevel) (subject : Subject) (detail : Detail) (s : State) : State :=
  let n : Notice :=
    { kind := kind, level := level, stamp := s.delivery.mill, subject := subject, detail := detail, fetched := false }
  let ns := s.notices.latch kind.classBit
  { s with
    notices :=
      if s.settings.working.enables.getLsbD kind.classBit || level == .critical then enqueue n ns else ns }

/-! ## Faults (R188 to R192) -/

/-- R191: the level of the frame alarm output: some class has its status set, its mask clear and its severity SERIOUS. -/
def alarmLevel (status masks severities : BitVec 11) : Bool := (status &&& ~~~masks &&& severities) != 0#11

/-- R191: the frame alarm output worked out again. -/
def workOutAlarm (s : State) : State :=
  { s with
    faults :=
      { s.faults with alarm := alarmLevel s.faults.status s.settings.working.masks s.settings.working.severities } }

/-- R189, R190: status, count and first-fault record at the raising of a fault. -/
def recordFault (cls : FaultClass) (subject : Subject) (detail : Detail) (stamp : Nat) (f : Faults) : Faults :=
  { f with
    status := f.status ||| bitOf 11 cls.bit
    counts := f.counts.modify cls.bit fun c => satAdd Config.top32 c 1
    first :=
      match f.first with
      | some r => some r
      | none => some { cls := cls, stamp := stamp, subject := subject, detail := detail } }

/-- R189: level of a fault notice, by the severity in force. -/
def faultLevel (severities : BitVec 11) (cls : FaultClass) : NoticeLevel :=
  if severities.getLsbD cls.bit then .critical else .warning

/-- R189: a fault raised. -/
def raiseFault (cls : FaultClass) (subject : Subject) (detail : Detail) (s : State) : State :=
  let s1 := { s with faults := recordFault cls subject detail s.delivery.mill s.faults }
  let s2 :=
    if s.settings.working.masks.getLsbD cls.bit then s1
    else raiseNotice (.fault cls) (faultLevel s.settings.working.severities cls) subject detail s1
  workOutAlarm s2

/-- R192: the classes of a set cleared. -/
def clearFaultSet (set : BitVec 11) (s : State) : State :=
  workOutAlarm
    { s with
      faults :=
        { s.faults with
          status := s.faults.status &&& ~~~set
          counts := s.faults.counts.zipIdx.map fun (c, i) => if set.getLsbD i then 0 else c
          first :=
            match s.faults.first with
            | some r => if set.getLsbD r.cls.bit then none else some r
            | none => none } }

end Sys2Proof.Machine
end

