-- ==== Sys2Proof/Machine/Ops.lean ====
section
/-! DEFINITION. The named operations over the tables of State, and the two operations every spindle passes through: settling
(R20) and a change of state (R36), with accrual (R18), readings (R19) and sector lamps (R45, R46). -/

namespace Sys2Proof.Machine

open Sys2Proof

/-! ## Access to the tables -/

/-- A message put on its link by the command being carried out. -/
def emit (o : Output) (s : State) : State := { s with emitted := s.emitted ++ [o] }

/-- The record of spindle `n` (R31). -/
def spindle (s : State) (n : Nat) : Spindle := nth s.spindles n default

/-- The record of spindle `n` changed. -/
def updSpindle (n : Nat) (f : Spindle → Spindle) (s : State) : State := { s with spindles := modifyNth s.spindles n f }

/-- The rail of a side (R22). -/
def railOf (s : State) (side : Side) : Rail :=
  match side with
  | .a => s.railA
  | .b => s.railB

/-- The rail of a side changed. -/
def updRail (side : Side) (f : Rail → Rail) (s : State) : State :=
  match side with
  | .a => { s with railA := f s.railA }
  | .b => { s with railB := f s.railB }

/-- The head that watches a sector (R2). -/
def headOf (s : State) (sector : Nat) : Head :=
  nth (railOf s (sideOfSector s sector)).heads (headOfSector s sector) freshHead

/-- R24: the unsensed flag of a spindle: its head is not ACTIVE. -/
def unsensed (s : State) (n : Nat) : Bool := (headOf s (sectorOf n)).state != .active

/-- The lamp of a sector (R45). -/
def lampOf (s : State) (sector : Nat) : Lamp := nth s.lamps sector freshLamp

/-- The lamp of a sector changed. -/
def updLamp (sector : Nat) (f : Lamp → Lamp) (s : State) : State := { s with lamps := modifyNth s.lamps sector f }

/-- The piecing list of a side (R49). -/
def pieceList (s : State) (side : Side) : List Entry :=
  match side with
  | .a => s.listA
  | .b => s.listB

/-- The piecing list of a side replaced. -/
def setPieceList (side : Side) (l : List Entry) (s : State) : State :=
  match side with
  | .a => { s with listA := l }
  | .b => { s with listB := l }

/-- R31, R50: the listed flag of a spindle: it has an entry in its side's piecing list. -/
def listed (s : State) (n : Nat) : Bool := (pieceList s (sideOf s n)).any fun e => e.spindle == n

/-- A carriage record (R76). -/
def carriage (s : State) (record : RecordNo) : Carriage :=
  match record with
  | .one => s.car1
  | .two => s.car2

/-- A carriage record changed. -/
def updCarriage (record : RecordNo) (f : Carriage → Carriage) (s : State) : State :=
  match record with
  | .one => { s with car1 := f s.car1 }
  | .two => { s with car2 := f s.car2 }

/-- The lock record of a sector (R99). -/
def lockOf (s : State) (sector : Nat) : Lock := nth s.locks sector freshLock

/-- The lock record of a sector changed. -/
def updLock (sector : Nat) (f : Lock → Lock) (s : State) : State := { s with locks := modifyNth s.locks sector f }

/-! ## Figures in force (R13) -/

/-- R13: roving capacity C, from the lot in force. -/
def figC (s : State) : Nat := capacity s.delivery s.doff.lot

/-- R13: call margin Cm, from the lot in force and the working Lm. -/
def figCm (s : State) : Nat := callMarginPulses s.delivery s.doff.lot s.settings.working.callMargin

/-- R13: out margin Co, from C and the working po. -/
def figCo (s : State) : Nat := outMarginPulses s.delivery s.doff.lot s.settings.working.outMargin

/-! ## Accrual (R18 to R20) -/

/-- The pulses a spindle has spun since its pulse mark, when RUNNING. -/
def owedPulses (phi : Nat) (sp : Spindle) : Nat :=
  if sp.state.isRunning then phi - sp.pulseMark.getD phi else 0

/-- The seconds since a spindle's seconds mark. -/
def owedSeconds (now : Nat) (sp : Spindle) : Nat := now - sp.secondsMark

/-- R18: pulses added to the three pulse counters of a spindle. -/
def Spindle.addPulses (sp : Spindle) (n : Nat) : Spindle :=
  { sp with
    copPulses := satAdd Config.top32 sp.copPulses n
    rovingUsed := satAdd Config.top32 sp.rovingUsed n
    shiftPulses := satAdd Config.top32 sp.shiftPulses n }

/-- R18: seconds of a category added to a spindle's shift running seconds when the category is RUNNING. -/
def Spindle.addSeconds (sp : Spindle) (k : Category) (n : Nat) : Spindle :=
  { sp with shiftSeconds := if k = .running then satAdd Config.top32 sp.shiftSeconds n else sp.shiftSeconds }

/-- R159: pulses added to the current segment, the last of the list. -/
def addToCurrent (n : Nat) : List Segment → List Segment
  | [] => []
  | [g] => [{ g with pulses := satAdd Config.top48 g.pulses n }]
  | g :: h :: rest => g :: addToCurrent n (h :: rest)

/-- R18: seconds of a category and pulses added to the open shift. -/
def Shift.accrue (sh : Shift) (k : Category) (seconds pulses : Nat) : Shift :=
  { sh with categories := sh.categories.add k seconds, segments := addToCurrent pulses sh.segments }

/-- R20: a settled spindle: its seconds mark becomes now and, where it is RUNNING, its pulse mark Φ. -/
def Spindle.settled (sp : Spindle) (driving : Bool) (now phi : Nat) : Spindle :=
  { (sp.addPulses (owedPulses phi sp)).addSeconds (categoryOf driving sp.state) (owedSeconds now sp) with
    secondsMark := now, pulseMark := if sp.state.isRunning then some phi else sp.pulseMark }

/-- The spindle table has a record of this number. -/
def hasSpindle (s : State) (n : Nat) : Bool := 1 ≤ n && n ≤ s.spindles.length

/-- R20: settling one spindle; a number with no record settles nothing. -/
def settleSpindle (n : Nat) (s : State) : State :=
  let sp := spindle s n
  let dl := s.delivery
  if hasSpindle s n then
    updSpindle n (fun x => x.settled dl.driving dl.now dl.phi)
      { s with shift := s.shift.accrue (categoryOf dl.driving sp.state) (owedSeconds dl.now sp) (owedPulses dl.phi sp) }
  else s

/-- Spindles settled one after another. -/
def settleEach (ns : List Nat) (s : State) : State := ns.foldl (fun acc n => settleSpindle n acc) s

/-- R20: a settle-all. -/
def settleAll (s : State) : State := settleEach (allSpindles s) s

/-! ## Readings (R19)

A reading includes the portion not yet added and moves nothing; it is held to the counter's range as the addition would be
(assumption log entry 17). -/

/-- A spindle's cop pulses as read. -/
def copRead (s : State) (sp : Spindle) : Nat := satAdd Config.top32 sp.copPulses (owedPulses s.delivery.phi sp)

/-- A spindle's roving used as read. -/
def usedRead (s : State) (sp : Spindle) : Nat := satAdd Config.top32 sp.rovingUsed (owedPulses s.delivery.phi sp)

/-- A spindle's shift running pulses as read. -/
def shiftPulsesRead (s : State) (sp : Spindle) : Nat := satAdd Config.top32 sp.shiftPulses (owedPulses s.delivery.phi sp)

/-- A spindle's shift running seconds as read. -/
def shiftSecondsRead (s : State) (sp : Spindle) : Nat :=
  (sp.addSeconds (categoryOf s.delivery.driving sp.state) (owedSeconds s.delivery.now sp)).shiftSeconds

/-- R13: the remaining roving of a position, max(0, C − used). -/
def remaining (s : State) (sp : Spindle) : Nat := figC s - usedRead s sp

/-- R40, R41: the position is out of roving: its estimate is valid and its remaining roving is at most Co. -/
def rovingOut (s : State) (n : Nat) : Bool :=
  let sp := spindle s n
  sp.estimateValid && remaining s sp ≤ figCo s

/-- R19: the open shift's categories as read. -/
def categoriesRead (s : State) : Categories :=
  s.spindles.foldl
    (fun c sp => c.add (categoryOf s.delivery.driving sp.state) (owedSeconds s.delivery.now sp)) s.shift.categories

/-- R19: the open shift's segments as read. -/
def segmentsRead (s : State) : List Segment :=
  addToCurrent ((s.spindles.map (owedPulses s.delivery.phi)).sum) s.shift.segments

/-! ## Sector lamps (R45, R46) -/

/-- The spindle states of a sector. -/
def sectorStates (s : State) (sector : Nat) : List SpindleState :=
  (spindlesOfSector sector).map fun n => (spindle s n).state

/-- R45: the sector has a cause of either lamp state. -/
def hasLampCause (s : State) (sector : Nat) : Bool :=
  (sectorStates s sector).any fun st => st.causesFlashing || st.causesSteady

/-- R45, R46: the lamp of a sector worked out again after a change, before which it had a cause or not. -/
def newLamp (s : State) (sector : Nat) (hadCause : Bool) : Lamp :=
  let states := sectorStates s sector
  let hold := (lampOf s sector).hold
  if states.any (·.causesFlashing) then { state := .flashing, hold := none }
  else if states.any (·.causesSteady) then { state := .steady, hold := none }
  else if hadCause then
    if s.settings.working.lampHold = 0 then { state := .off, hold := none }
    else { state := .steady, hold := some (s.delivery.now + s.settings.working.lampHold) }
  else if hold.isSome then { state := .steady, hold := hold }
  else { state := .off, hold := none }

/-- R45: the lamp of a sector worked out again. -/
def workOutLamp (sector : Nat) (hadCause : Bool) (s : State) : State :=
  updLamp sector (fun _ => newLamp s sector hadCause) s

/-! ## Change of state (R36) -/

/-- R34: what a cause that puts a spindle in SETTLING makes of it: IDLE while drive running is not asserted. -/
def settlingOrIdle (s : State) (origin : SettleOrigin) : SpindleState :=
  if s.delivery.driving then .settling origin s.delivery.now else .idle

/-- R36, R44: the counts a change of state resets: entering RUNNING clears attempts and failures; entering WITHHELD clears the
break ring, attempts and failures and the withhold-pending flag. -/
def Spindle.resetOnEntry (sp : Spindle) (st : SpindleState) : Spindle :=
  match st with
  | .running => { sp with attempts := 0, failures := 0 }
  | .withheld => { sp with attempts := 0, failures := 0, breakRing := [], withholdPending := false }
  | _ => sp

/-- R18: the pulses a change of state adds: those since the pulse mark when RUNNING is left. -/
def pulsesOnChange (phi : Nat) (sp : Spindle) (st : SpindleState) : Nat :=
  if st.isRunning then 0 else owedPulses phi sp

/-- R18: the seconds a change of state adds: those since the seconds mark when the category changes. -/
def secondsOnChange (driving : Bool) (now : Nat) (sp : Spindle) (st : SpindleState) : Nat :=
  if categoryOf driving sp.state = categoryOf driving st then 0 else owedSeconds now sp

/-- R18, R31: the pulse mark after a change of state: Φ when RUNNING is entered, kept where RUNNING stands, absent in every other
state. -/
def markOnChange (phi : Nat) (sp : Spindle) (st : SpindleState) : Option Nat :=
  if st.isRunning then if sp.state.isRunning then sp.pulseMark else some phi else none

/-- R36: a spindle record after a change of state. -/
def Spindle.changed (sp : Spindle) (driving : Bool) (now phi : Nat) (st : SpindleState) : Spindle :=
  let booked :=
    (sp.addPulses (pulsesOnChange phi sp st)).addSeconds (categoryOf driving sp.state) (secondsOnChange driving now sp st)
  Spindle.resetOnEntry
    { booked with
      state := st
      secondsMark := if categoryOf driving sp.state = categoryOf driving st then sp.secondsMark else now
      pulseMark := markOnChange phi sp st
      streak := 0
      stopEngaged := engagedOnEntry st }
    st

/-- R36: a change of state of spindle `n`: accrual, the record, the sector's lamp. What the break dispatcher and the roving planner
do on being told stands with the callers. A number with no record changes nothing. -/
def changeState (n : Nat) (st : SpindleState) (s : State) : State :=
  let sp := spindle s n
  let dl := s.delivery
  let hadCause := hasLampCause s (sectorOf n)
  if hasSpindle s n then
    workOutLamp (sectorOf n) hadCause
      (updSpindle n (fun x => x.changed dl.driving dl.now dl.phi st)
        { s with
          shift :=
            s.shift.accrue (categoryOf dl.driving sp.state) (secondsOnChange dl.driving dl.now sp st)
              (pulsesOnChange dl.phi sp st) })
  else s

end Sys2Proof.Machine
end

