-- ==== Sys2Proof/Machine/Planner.lean ====
section
/-! DEFINITION. The roving planner's shared operations (chapter 6): call states, listing, the call-point list, group evaluation
and the issue of a call. -/

namespace Sys2Proof.Machine

open Sys2Proof

/-- R112: call states of a change group. -/
inductive CallState where
  | none
  | listed
  | active
  deriving DecidableEq, Repr, Inhabited

/-- R122: the active change record. -/
def Transport.change (t : Transport) : Option ActiveChange :=
  match t with
  | .idle => none
  | .called c => some c
  | .waiting c => some c
  | .changing c => some c

/-- The planner's record changed. -/
def updPlanner (f : Planner → Planner) (s : State) : State := { s with planner := f s.planner }

/-- R112: the group is that of the active change. -/
def isActiveGroup (s : State) (g : Nat) : Bool :=
  match s.planner.transport.change with
  | none => false
  | some c => c.call.group == g

/-- R112: an entry of the group stands in the roving call list. -/
def inCallList (s : State) (g : Nat) : Bool := s.planner.calls.any fun c => c.group == g

/-- R112: the call state of a group. -/
def callState (s : State) (g : Nat) : CallState :=
  if isActiveGroup s g then .active else if inCallList s g then .listed else .none

/-- The spindle records of a change group. -/
def groupSpindles (s : State) (g : Nat) : List Spindle := (spindlesOfGroup g).map (spindle s)

/-- R112: the estimates of all eight positions are valid. -/
def estimateValid (s : State) (g : Nat) : Bool := (groupSpindles s g).all (·.estimateValid)

/-- R112: all positions of the group are WITHHELD. -/
def whollyWithheld (s : State) (g : Nat) : Bool := (groupSpindles s g).all fun sp => sp.state == .withheld

/-- R112: the call point of a group, when it has one. -/
def callPointOf (s : State) (g : Nat) : Option Nat := (s.planner.points.find? fun p => p.2 == g).map (·.1)

/-- R115: order of the roving call list: URGENT first, then the earliest queued time, then the lower group number. -/
def callBefore (a b : Call) : Bool :=
  if a.urgency = b.urgency then
    if a.queued = b.queued then a.group < b.group else a.queued < b.queued
  else a.urgency == .urgent

/-- R115: an entry put in its place. -/
def insertCall (c : Call) : List Call → List Call
  | [] => [c]
  | d :: rest => if callBefore c d then c :: d :: rest else d :: insertCall c rest

/-- R114: a call point put in its place: ascending odometer value, then the lower group number. -/
def insertPoint (point group : Nat) : List (Nat × Nat) → List (Nat × Nat)
  | [] => [(point, group)]
  | q :: rest =>
    if point < q.1 || (point == q.1 && group < q.2) then (point, group) :: q :: rest
    else q :: insertPoint point group rest

/-- R114: a group's call point removed. -/
def removePoint (g : Nat) (s : State) : State :=
  updPlanner (fun p => { p with points := p.points.filter fun q => q.2 != g }) s

/-- R118: a group's entry removed from the roving call list. -/
def removeCall (g : Nat) (s : State) : State :=
  updPlanner (fun p => { p with calls := p.calls.filter fun c => c.group != g }) s

/-- R123: the head entry becomes the active change: its call point is removed, the tag advances, CALL is sent and the transport
timer is started. -/
def issueCall (c : Call) (rest : List Call) (s : State) : State :=
  let tag := (s.planner.tag + 1) % 256
  let timeout := transportTimeoutOf s.settings.working.transportTimeoutCode
  emit (.transport (.call c.group c.urgency tag))
    (updPlanner
      (fun p =>
        { p with
          calls := rest
          tag := tag
          transport :=
            .called
              { call := c, tag := tag, callTime := s.delivery.now, accepted := false, timeout := timeout,
                deadline := s.delivery.now + timeout } })
      (removePoint c.group s))

/-- R123: the call test: a call is issued when the transport is IDLE, no back-off runs and the roving call list is not empty. -/
def callTest (s : State) : State :=
  match s.planner.transport, s.planner.backOff, s.planner.calls with
  | .idle, none, c :: rest => issueCall c rest s
  | _, _, _ => s

/-- R116: a group listed with an urgency and an origin. -/
def listGroup (g : Nat) (urgency : CallUrgency) (origin : CallOrigin) (s : State) : State :=
  if whollyWithheld s g then s
  else
    match callState s g with
    | .active => s
    | .none =>
      callTest
        (updPlanner
          (fun p =>
            { p with
              calls := insertCall { group := g, urgency := urgency, queued := s.delivery.now, origin := origin } p.calls })
          (removePoint g s))
    | .listed =>
      match s.planner.calls.find? fun c => c.group == g with
      | some c =>
        if c.urgency = .planned && urgency = .urgent then
          callTest
            (updPlanner
              (fun p =>
                { p with
                  calls :=
                    insertCall { c with urgency := .urgent, origin := origin } (p.calls.filter fun d => d.group != g) })
              s)
        else s
      | none => s

/-- R113: the least remaining roving among the RUNNING eligible positions of a group. -/
def leastRunning (s : State) (g : Nat) : Option Nat :=
  (((groupSpindles s g).filter fun sp => sp.state.isRunning).map (remaining s)).min?

/-- R113, first test: an eligible position of the group is not RUNNING and has remaining roving at most Cm. -/
def lowStanding (s : State) (g : Nat) : Bool :=
  (groupSpindles s g).any fun sp => sp.state.eligible && !sp.state.isRunning && remaining s sp ≤ figCm s

/-- R113: evaluation of a group. A call point at or below Φ is reached at once (R5, R114). -/
def evaluateGroup (g : Nat) (s : State) : State :=
  let s1 := removePoint g s
  if callState s1 g = .none && estimateValid s1 g then
    if lowStanding s1 g then listGroup g .planned .plan s1
    else
      match leastRunning s1 g with
      | none => s1
      | some least =>
        let point := s1.delivery.phi + least - figCm s1
        if point ≤ s1.delivery.phi then listGroup g .planned .plan s1
        else updPlanner (fun p => { p with points := insertPoint point g p.points }) s1
  else s1

/-- R36, R113, R118: the planner told of a change of state in a group: an entry of a group that has become wholly withheld leaves
the roving call list, and the group is evaluated. -/
def tellPlanner (g : Nat) (s : State) : State :=
  evaluateGroup g (if whollyWithheld s g then removeCall g s else s)

/-- R113: groups evaluated one after another, in ascending order where one event evaluates every group, each with the call test that its
listing makes (assumption log entry 42). -/
def evaluateGroups (gs : List Nat) (s : State) : State := gs.foldl (fun acc g => evaluateGroup g acc) s

/-- R117: a roving-out expedites its group. -/
def expedite (g : Nat) (s : State) : State := listGroup g .urgent .out s

/-- R114: the groups whose call points Φ has reached are listed, the head first. -/
def reachPoints (s : State) : State :=
  ((s.planner.points.filter fun q => q.1 ≤ s.delivery.phi).map (·.2)).foldl (fun acc g => listGroup g .planned .plan acc) s

/-- R36: a change of state of which only the planner need be told. -/
def enterState (n : Nat) (st : SpindleState) (s : State) : State := tellPlanner (groupOf n) (changeState n st s)

end Sys2Proof.Machine
end

