-- ==== Sys2Proof/Machine/Dispatcher.lean ====
section
/-! DEFINITION. Shared operations of the break dispatcher (chapter 3), the choice and issue of orders (R81 to R83) and the sector
lock arbiter (chapter 5). -/

namespace Sys2Proof.Machine

open Sys2Proof

/-! ## The piecing lists (R49 to R57) -/

/-- The first of the best items of a list. -/
def pick {α : Type} (better : α → α → Bool) : List α → Option α
  | [] => none
  | x :: rest =>
    match pick better rest with
    | none => some x
    | some y => if better y x then some y else some x

/-- R51: the break time a spindle holds. -/
def SpindleState.breakTime (st : SpindleState) : Option Nat :=
  match st with
  | .broken _ t => some t
  | .piecing _ t => some t
  | .waitRoving t => some t
  | _ => none

/-- R31: the break cause a spindle holds. -/
def SpindleState.breakCause (st : SpindleState) : Option BreakCause :=
  match st with
  | .broken c _ => some c
  | .piecing c _ => some c
  | .waitRoving _ => some .rovingOut
  | _ => none

/-- R50: an entry put in its place, in ascending spindle order. -/
def insertEntry (e : Entry) : List Entry → List Entry
  | [] => [e]
  | f :: rest => if e.spindle < f.spindle then e :: f :: rest else f :: insertEntry e rest

/-- R50: an entry made for a BROKEN spindle from its record. -/
def makeEntry (n : Nat) (urgent : Bool) (s : State) : State :=
  match (spindle s n).state with
  | .broken c t =>
    let side := sideOf s n
    setPieceList side (insertEntry { spindle := n, cause := c, time := t, urgent := urgent } (pieceList s side))
      (updSpindle n (fun x => { x with unlisted := false }) s)
  | _ => s

/-- R54: a spindle's entry removed from its side's list, and its unlisted flag cleared. -/
def dropFromList (n : Nat) (s : State) : State :=
  let side := sideOf s n
  setPieceList side ((pieceList s side).filter fun e => e.spindle != n)
    (updSpindle n (fun x => { x with unlisted := false }) s)

/-- R53: the unlisted spindles of a side. -/
def unlistedOf (s : State) (side : Side) : List Nat := (spindlesOfSide s side).filter fun n => (spindle s n).unlisted

/-- The break time of spindle `n`, 0 where it holds none. -/
def breakTimeOf (s : State) (n : Nat) : Nat := ((spindle s n).state.breakTime).getD 0

/-- R55: the unlisted spindle with the oldest break time, the lower number first. -/
def oldestUnlisted (s : State) (side : Side) : Option Nat :=
  pick (fun a b => breakTimeOf s a < breakTimeOf s b) (unlistedOf s side)

/-- R52, R53: a BROKEN spindle listed, or left unlisted where the list is full. -/
def listSpindle (n : Nat) (s : State) : State :=
  let side := sideOf s n
  if (pieceList s side).length < Config.listCapacity then makeEntry n false s
  else
    let s1 := updSpindle n (fun x => { x with unlisted := true }) s
    if (unlistedOf s side).isEmpty then raiseFault .listOverflow (.side side) (.spindle n) s1 else s1

/-- R55: free places filled with the oldest unlisted spindles, at most `fuel` of them. -/
def refillUpTo (fuel : Nat) (side : Side) (s : State) : State :=
  match fuel with
  | 0 => s
  | k + 1 =>
    match oldestUnlisted s side with
    | none => s
    | some n =>
      if (pieceList s side).length < Config.listCapacity then refillUpTo k side (makeEntry n false s) else s

/-- R55: the refill of a side's list. -/
def refill (side : Side) (s : State) : State := refillUpTo Config.listCapacity side s

/-! ## Locks (R99, R101, R106) -/

/-- R99: what the last holder becomes when this holder leaves. -/
def Holder.asLast (h : Holder) : LastHolder :=
  match h with
  | .free => .free
  | .carriage _ _ => .carriage
  | .transport => .transport

/-- R99: a change of holder. -/
def Lock.pass (l : Lock) (h : Holder) : Lock := { l with holder := h, last := l.holder.asLast }

/-- R106: the waiting claim, if any, on a sector. -/
def Lock.claim (l : Lock) : Option Claim :=
  match l.holder with
  | .carriage _ c => c
  | _ => none

/-- R82: the sector is FREE. -/
def sectorFree (s : State) (k : Nat) : Bool := (lockOf s k).holder == .free

/-! ## The choice and the issue of an order (R81 to R83) -/

/-- R76: the same link with another state of work. -/
def CarriageLink.withWork (l : CarriageLink) (w : CarriageWork) : CarriageLink :=
  match l with
  | .enrolled st side pos dir _ => .enrolled st side pos dir w
  | other => other

/-- R77: the side a record holds. -/
def CarriageLink.side? (l : CarriageLink) : Option Side :=
  match l with
  | .enrolled _ side _ _ _ => some side
  | _ => none

/-- R77: the record that holds a side. -/
def recordOfSide (s : State) (side : Side) : Option RecordNo :=
  if s.car1.link.side? = some side then some .one
  else if s.car2.link.side? = some side then some .two
  else none

/-- R82: the oldest entry first, the lower spindle number where two share a break time. -/
def olderEntry (a b : Entry) : Bool := a.time < b.time || (a.time == b.time && a.spindle < b.spindle)

/-- R82: the entry chosen among candidates. -/
def chooseEntry (now ageLimit position : Nat) (direction : Direction) (cs : List Entry) : Option Entry :=
  let low : Entry → Entry → Bool := fun a b => a.spindle < b.spindle
  let high : Entry → Entry → Bool := fun a b => b.spindle < a.spindle
  let steps : List (Option Entry) :=
    [ pick olderEntry (cs.filter (·.urgent)),
      pick olderEntry (cs.filter fun e => ageLimit ≤ now - e.time),
      match direction with
      | .up => pick low (cs.filter fun e => position ≤ e.spindle)
      | .down => pick high (cs.filter fun e => e.spindle ≤ position),
      match direction with
      | .up => pick high (cs.filter fun e => e.spindle < position)
      | .down => pick low (cs.filter fun e => position < e.spindle) ]
  steps.findSome? id

/-- R44: an order issued for a BROKEN spindle puts it in PIECING with its cause and time. -/
def SpindleState.toPiecing (st : SpindleState) : SpindleState :=
  match st with
  | .broken c t => .piecing c t
  | other => other

/-- One piecing order counted in the open shift (R160). -/
def countIssued (s : State) : State :=
  { s with
    shift :=
      { s.shift with piecing := { s.shift.piecing with issued := satAdd Config.top32 s.shift.piecing.issued 1 } } }

/-- R83, R101: an order issued to a record for an entry of its side; `carried` when the lock is carried over. The refill made here
attempts no dispatch: the record is being given its order (assumption log entry 12). -/
def issueOrder (record : RecordNo) (e : Entry) (carried : Bool) (s : State) : State :=
  let sector := sectorOf e.spindle
  let tag := ((carriage s record).tag + 1) % 16
  let order : Order :=
    { spindle := e.spindle, tag := tag, issued := s.delivery.now,
      deadline := s.delivery.now + orderTimeoutOf s.settings.working.orderTimeoutCode, arrived := false, parkPending := false }
  let station :=
    match (carriage s record).link with
    | .enrolled st _ _ _ _ => st.number
    | .rejected st _ => st.number
    | .absent => 0
  let s1 :=
    updLock sector
      (fun l =>
        if carried then { l with carryOver := satAdd Config.top8 l.carryOver 1 } else l.pass (.carriage record none))
      s
  let s2 := emit (.carriage station (.piece e.spindle tag)) s1
  let s3 := refill (sideOf s2 e.spindle) (dropFromList e.spindle s2)
  let s4 := enterState e.spindle (spindle s3 e.spindle).state.toPiecing s3
  let s5 :=
    updCarriage record
      (fun c =>
        { c with
          link := c.link.withWork (.busy order)
          tag := tag
          counters := { c.counters with orders := satAdd Config.top32 c.counters.orders 1 } })
      s4
  countIssued s5

/-- R81: drive running is asserted and the doff state is SPINNING or RESTARTING. -/
def dispatchIsOpen (s : State) : Bool := s.delivery.driving && s.doff.phase.dispatchOpen

/-- R81, R82: an order attempted among the entries of a READY record's side that pass `allowed`. -/
def dispatchAmong (allowed : Entry → Bool) (carried : Bool) (record : RecordNo) (s : State) : State :=
  match (carriage s record).link with
  | .enrolled _ side position direction .ready =>
    if dispatchIsOpen s then
      match
        chooseEntry s.delivery.now s.settings.working.ageLimit position direction ((pieceList s side).filter allowed) with
      | some e => issueOrder record e carried s
      | none => s
    else s
  | _ => s

/-- R81: a dispatch attempted for a record, among the FREE sectors. -/
def dispatch (record : RecordNo) (s : State) : State :=
  dispatchAmong (fun e => sectorFree s (sectorOf e.spindle)) false record s

/-- R82, R87: a dispatch attempted with the carried-over sector offered. -/
def dispatchCarried (sector : Nat) (record : RecordNo) (s : State) : State :=
  dispatchAmong (fun e => sectorOf e.spindle == sector) true record s

/-- R81: a dispatch attempted for the carriage of a side. -/
def attemptSide (side : Side) (s : State) : State :=
  match recordOfSide s side with
  | none => s
  | some record => dispatch record s

/-- R55, R81: a refill, and the dispatch attempted when it made an entry. -/
def refillAndAttempt (side : Side) (s : State) : State :=
  let s1 := refill side s
  if (pieceList s side).length < (pieceList s1 side).length then attemptSide side s1 else s1

/-! ## Grants and releases (R102, R106, R107) -/

/-- R102, R127: the planner told of a grant sends PROCEED and puts the transport in CHANGING. -/
def plannerGranted (s : State) : State :=
  match s.planner.transport.change with
  | none => s
  | some c => updPlanner (fun p => { p with transport := .changing c }) (emit (.transport (.proceed c.tag)) s)

/-- R106: a carriage-held lock released, to a waiting claim if there is one and otherwise to FREE. -/
def releaseLock (sector : Nat) (s : State) : State :=
  match (lockOf s sector).holder with
  | .carriage _ (some _) =>
    plannerGranted (updLock sector (fun l => { l.pass .transport with carryOver := 0 }) s)
  | .carriage _ none => attemptSide (sideOfSector s sector) (updLock sector (fun l => l.pass .free) s)
  | _ => s

/-- R107: the claim of a change on a sector ended: a granted lock is released, a waiting claim is withdrawn. -/
def endClaim (sector : Nat) (s : State) : State :=
  match (lockOf s sector).holder with
  | .transport => attemptSide (sideOfSector s sector) (updLock sector (fun l => l.pass .free) s)
  | .carriage record (some _) =>
    updLock sector (fun l => { l with holder := .carriage record none, carryOver := 0 }) s
  | _ => s

/-- R104: entries of a side's list in a sector. -/
def entriesInSector (s : State) (sector : Nat) : Nat :=
  ((pieceList s (sideOfSector s sector)).filter fun e => sectorOf e.spindle == sector).length

/-- R104: what the arbitration mode allows, by the claim's urgency, the carry-over count and the piecing weight. -/
def modeAllows (mode : ArbitrationMode) (urgency count weight : Nat) : Bool :=
  match mode with
  | .rovingFirst => false
  | .piecingFirst => urgency < 3
  | .alternate => count == 0
  | .weighed => urgency < weight || (weight == urgency && count == 0)

/-- R104: the record is READY. -/
def CarriageLink.isReady (l : CarriageLink) : Bool :=
  match l with
  | .enrolled _ _ _ _ .ready => true
  | _ => false

/-- R104: carry-over is allowed to a record on a sector whose order has just ended, with a claim waiting there. -/
def carryOverAllowed (s : State) (record : RecordNo) (sector : Nat) : Bool :=
  match (lockOf s sector).claim with
  | none => false
  | some claim =>
    (carriage s record).link.isReady && dispatchIsOpen s && 0 < entriesInSector s sector &&
      modeAllows s.settings.working.arbitration claim.urgency (lockOf s sector).carryOver (min 3 (entriesInSector s sector))

/-! ## Entry into BROKEN (R42, R52, R57, R63 to R65) -/

/-- R52: the lock check that goes with an entry into BROKEN. -/
inductive LockCheck where
  | none
  | rogue
  | failure
  deriving DecidableEq, Repr, Inhabited

/-- R63: stamps of a break ring within the rogue window of break time `t`. -/
def stampsWithin (ring : List Nat) (t windowMinutes : Nat) : Nat :=
  (ring.filter fun x => t - x ≤ windowMinutes * 60).length

/-- R63, R64: the verdict of a lock check on a spindle broken at `t`: the reason and the count that passed its limit. -/
def lockVerdict (w : Working) (sp : Spindle) (t : Nat) (check : LockCheck) : Option (LockReason × Nat) :=
  match check with
  | .none => none
  | .rogue =>
    if w.rogueCount = 0 then none
    else if w.rogueCount ≤ stampsWithin sp.breakRing t w.rogueWindow then
      some (.rogue, stampsWithin sp.breakRing t w.rogueWindow)
    else none
  | .failure =>
    if w.failureLimit = 0 then none
    else if w.failureLimit ≤ sp.failures then some (.fails, sp.failures) else none

/-- R52, R65: the dispatcher told that spindle `n` has entered BROKEN: locked by its check, or listed or left unlisted. The planner
is told after the dispatcher (assumption log entry 13). No dispatch is attempted here. -/
def enlist (n : Nat) (check : LockCheck) (s : State) : State :=
  match lockVerdict s.settings.working (spindle s n) (breakTimeOf s n) check with
  | some (reason, count) =>
    tellPlanner (groupOf n)
      (raiseNotice .spindleLocked .warning (.spindle n) (.lock reason count) (changeState n (.locked reason) s))
  | none => tellPlanner (groupOf n) (listSpindle n s)

/-- R81: a dispatch attempted for the side of spindle `n` when the spindle has an entry. -/
def attemptIfListed (n : Nat) (s : State) : State := if listed s n then attemptSide (sideOf s n) s else s

/-- R52, R81: a spindle taken in, and dispatch attempted where an entry was made for it. -/
def takeIn (n : Nat) (check : LockCheck) (s : State) : State := attemptIfListed n (enlist n check s)

/-- R33: a stamp added to a break ring. -/
def stampRing (ring : List Nat) (t : Nat) : List Nat :=
  let longer := ring ++ [t]
  longer.drop (longer.length - Config.breakRingSize)

/-- R42, R33: a confirmed break counted: in the shift under its cause and, for an end break, in the spindle and its ring. -/
def countBreak (n : Nat) (cause : BreakCause) (s : State) : State :=
  let s1 := { s with shift := { s.shift with breaks := s.shift.breaks.bump cause } }
  if cause.isEndBreak then
    updSpindle n
      (fun x =>
        { x with
          shiftEndBreaks := satAdd Config.top32 x.shiftEndBreaks 1
          breakRing := stampRing x.breakRing s.delivery.now })
      s1
  else s1

/-- R40 to R42: a break confirmed now with a cause: WAIT_ROVING and an expedite for ROVING_OUT, BROKEN otherwise. No dispatch is
attempted here. -/
def breakSpindle (n : Nat) (cause : BreakCause) (s : State) : State :=
  match cause with
  | .rovingOut => expedite (groupOf n) (countBreak n cause (enterState n (.waitRoving s.delivery.now) s))
  | _ =>
    enlist n (if cause.isEndBreak then .rogue else .none) (countBreak n cause (changeState n (.broken cause s.delivery.now) s))

/-- R40, R42, R81: a break confirmed, and dispatch attempted where an entry was made for its spindle. -/
def confirmBreak (n : Nat) (cause : BreakCause) (s : State) : State := attemptIfListed n (breakSpindle n cause s)

/-- R44, R57: a PIECING spindle whose order resolves without a join returns to BROKEN with cause and time kept, or enters WITHHELD
when a zone has taken its sector. -/
def returnToBroken (n : Nat) (check : LockCheck) (s : State) : State :=
  match (spindle s n).state with
  | .piecing c t =>
    if (spindle s n).withholdPending then enterState n .withheld s else takeIn n check (changeState n (.broken c t) s)
  | _ => s

/-- R44, R85: a PIECING spindle whose order resolves PIECED. -/
def pieceDone (n : Nat) (s : State) : State :=
  match (spindle s n).state with
  | .piecing _ _ =>
    if (spindle s n).withholdPending then enterState n .withheld s else enterState n (settlingOrIdle s .pieced) s
  | _ => s

/-- R43, R54, R66: a spindle that leaves BROKEN (or another state) for `st`: its entry is dropped, its state changes, and the planner
is told. The place freed is not yet refilled. -/
def leaveBroken (n : Nat) (st : SpindleState) (s : State) : State := enterState n st (dropFromList n s)

/-- R54, R55, R66: the same, and the freed place refilled. -/
def leaveList (n : Nat) (st : SpindleState) (s : State) : State := refillAndAttempt (sideOf s n) (leaveBroken n st s)

end Sys2Proof.Machine
end

