-- ==== Sys2Proof/Machine/Accounting.lean ====
section
/-! DEFINITION. Shared operations of the settings store and its writer (R184, R185), of the zone logic (R175) and of shift
accounting (chapter 8). -/

namespace Sys2Proof.Machine

open Sys2Proof

/-! ## The retained store (R184, R185) -/

/-- R184: the write sequence number after this one, passing from 2^32 − 1 to 0. -/
def nextSequence (n : Nat) : Nat := (n + 1) % 4294967296

/-- R184: the newest valid copy. For two valid copies neither of whose numbers follows the other's, see `Config.newestOfUnrelated`
(assumption log entry 22). -/
def newestCopy (st : Store) : Option (CopyNo × Image) :=
  match st.copy1, st.copy2 with
  | none, none => none
  | some a, none => some (.one, a)
  | none, some b => some (.two, b)
  | some a, some b =>
    if a.sequence = nextSequence b.sequence then some (.one, a)
    else if b.sequence = nextSequence a.sequence then some (.two, b)
    else if Config.newestOfUnrelated a.sequence b.sequence then some (.one, a)
    else some (.two, b)

/-- R184: the copy a write goes to and the number it carries: the copy that is not the newest. -/
def writeTarget (st : Store) : CopyNo × Nat :=
  match newestCopy st with
  | none => (.one, 1)
  | some (.one, image) => (.two, nextSequence image.sequence)
  | some (.two, image) => (.one, nextSequence image.sequence)

/-- A copy of the store replaced. -/
def Store.setCopy (st : Store) (copy : CopyNo) (image : Option Image) : Store :=
  match copy with
  | .one => { st with copy1 := image }
  | .two => { st with copy2 := image }

/-- R185: a write begins, with the image as it stands now (R184). -/
def beginWrite (s : State) : State :=
  let target := writeTarget s.store
  { s with
    store :=
      { s.store with
        writer :=
          .writing target.1
            { settings := s.settings.retained, zones := s.zones.records, ring := s.ring, sequence := target.2 } } }

/-- R185: a write asked for by a Write Zone, a lot application or a Close Shift. -/
def askWrite (s : State) : State :=
  match s.store.writer with
  | .idle => beginWrite s
  | .writing _ _ => { s with store := { s.store with rewrite := true } }

/-- R185: a write that has ended: a rewrite begins if one is needed, and otherwise the writer is IDLE. -/
def afterWrite (s : State) : State :=
  if s.store.rewrite then beginWrite { s with store := { s.store with rewrite := false } }
  else { s with store := { s.store with writer := .idle } }

/-- R185, POWER_LOSS: a store whose running write is cut off: the copy being written is invalid. -/
def Store.cutOff (st : Store) : Store :=
  match st.writer with
  | .idle => { st with rewrite := false }
  | .writing copy _ => { (st.setCopy copy none) with writer := .idle, rewrite := false }

/-! ## Zones (R175) -/

/-- R175: sectors of an extent code on a side of `sectors` sectors. -/
def extentSectors (code sectors : Nat) : Nat :=
  match code with
  | 0 => min 1 sectors
  | 1 => min 2 sectors
  | 2 => min 4 sectors
  | 3 => min 8 sectors
  | 4 => min 16 sectors
  | 5 => min 32 sectors
  | _ => sectors

/-- R175: position `i` of a side (1 to S) is in the record's set. -/
def Zone.holds (z : Zone) (sectors i : Nat) : Bool :=
  let taken : Bool :=
    match z.anchor with
    | .low => i ≤ extentSectors z.extent sectors
    | .high => sectors < i + extentSectors z.extent sectors
  z.enabled && (taken != z.complement)

/-- R174: the two records of a side. -/
def ZoneRecords.ofSide (z : ZoneRecords) (side : Side) : Zone × Zone :=
  match side with
  | .a => (z.a1, z.a2)
  | .b => (z.b1, z.b2)

/-- R176: a record of a side replaced. -/
def ZoneRecords.set (z : ZoneRecords) (side : Side) (record : RecordNo) (x : Zone) : ZoneRecords :=
  match side, record with
  | .a, .one => { z with a1 := x }
  | .a, .two => { z with a2 := x }
  | .b, .one => { z with b1 := x }
  | .b, .two => { z with b2 := x }

/-- R175: the withheld set of a side, as sector numbers of the frame. -/
def withheldOfSide (z : ZoneRecords) (sectors : Nat) (side : Side) : List Nat :=
  let pair := z.ofSide side
  let first := match side with | .a => 0 | .b => sectors
  ((List.range' 1 sectors).filter fun i => pair.1.holds sectors i || pair.2.holds sectors i).map (first + ·)

/-- R175: the withheld set of the frame. -/
def withheldSet (z : ZoneRecords) (sides sectors : Nat) : List Nat :=
  withheldOfSide z sectors .a ++ (if sides = 2 then withheldOfSide z sectors .b else [])

/-- R175: the spindle is in a withheld zone. -/
def inWithheldZone (s : State) (n : Nat) : Bool := s.zones.withheld.contains (sectorOf n)

/-! ## Shifts (R163 to R169) -/

/-- R169: the number after this one, passing from 65 535 to 1. -/
def nextShiftNumber (n : Nat) : Nat := n % 65535 + 1

/-- R162: the derived figures of the open shift as read. -/
def openDerived (s : State) : Derived :=
  derivedFigures s.delivery (categoriesRead s) s.shift.breaks (segmentsRead s)

/-- R163: the closed record of the open shift, after the settle-all. -/
def closedRecord (s : State) : ClosedShift :=
  { shift := s.shift
    closeStamp := s.delivery.mill
    duration := s.delivery.now - s.shift.openSecond
    spindleCount := spindleCount s
    derived := derivedFigures s.delivery s.shift.categories s.shift.breaks s.shift.segments }

/-- R166: a spindle's shift counters set to 0. -/
def Spindle.newShift (sp : Spindle) : Spindle := { sp with shiftPulses := 0, shiftSeconds := 0, shiftEndBreaks := 0 }

/-- R166: a new shift opened now. -/
def openShift (number : Nat) (s : State) : State :=
  { s with
    shift :=
      freshShift number s.delivery.mill s.delivery.now false (!s.delivery.clockSet) s.doff.lot
    spindles := s.spindles.map Spindle.newShift }

/-- R165: a Close Shift made. -/
def closeShiftNow (s : State) : State :=
  let s1 := settleAll s
  let closed := closedRecord s1
  let s2 := { s1 with ring := (closed :: s1.ring).take Config.ringCapacity }
  let s3 := openShift (nextShiftNumber closed.shift.number) s2
  raiseNotice .shiftClosed .info (.shift closed.shift.number)
    (.shiftClosed closed.derived.totalMass closed.derived.frameEfficiency) (askWrite s3)

/-- R126: a roving change counted in the open shift with its residue. -/
def countChange (metresLeft : Nat) (s : State) : State :=
  { s with
    shift :=
      { s.shift with
        changes := satAdd Config.top32 s.shift.changes 1
        residue := satAdd Config.top32 s.shift.residue metresLeft } }

end Sys2Proof.Machine
end

