-- ==== Sys2Proof/Machine/Sequencer.lean ====
section
/-! DEFINITION. Shared operations of the doff sequencer (chapter 7), with the drowse test and the PARK and RESUME messages that its
changes of state bring about (R27, R28, R93, R95). -/

namespace Sys2Proof.Machine

open Sys2Proof

/-! ## Drowse (R27, R28) -/

/-- R28: a rail that has been told to sleep begins a sleep round at head 1, once the poll in flight is finished. -/
def Rail.beginSleep (r : Rail) : Rail := if r.awake then { r with sleepRound := true, position := 1 } else r

/-- R27, R28: drowse taken, for both rails together. -/
def takeDrowse (s : State) : State :=
  { s with
    drowse := { timer := none, deferred := false, drowsing := true }
    railA := s.railA.beginSleep
    railB := if sideConfigured s .b then s.railB.beginSleep else s.railB }

/-- R27: the deferred drowse tested again at a change of the doff state. -/
def testDrowse (s : State) : State :=
  if s.drowse.deferred && !s.delivery.driving && !s.doff.phase.inDoff then takeDrowse s else s

/-! ## Changes of the doff state (R135, R137) -/

/-- The doff record changed. -/
def updDoff (f : Doff → Doff) (s : State) : State := { s with doff := f s.doff }

/-- R135, R137: the doff state and the outputs that follow it. -/
def Doff.toPhase (d : Doff) (ph : DoffPhase) : Doff :=
  { d with phase := ph, request := ph.requestLevel, clear := ph.clearLevel }

/-- R81: a dispatch attempted for the carriages of both sides, side A before side B (assumption log entry 40). -/
def attemptBoth (s : State) : State := attemptSide .b (attemptSide .a s)

/-- R137: the doff sequencer enters a state: outputs, deferred drowse (R27), and dispatch on entry to SPINNING or RESTARTING. -/
def enterPhase (ph : DoffPhase) (s : State) : State :=
  let s1 := testDrowse (updDoff (fun d => d.toPhase ph) s)
  if ph.dispatchOpen then attemptBoth s1 else s1

/-! ## Parking and clearance (R93, R141 to R143) -/

/-- R93: what PARK does to a record: the work it is put to, and whether PARK is sent to it. -/
def parkedWork (w : CarriageWork) : Option CarriageWork :=
  match w with
  | .ready => some .parking
  | .suspect => some .parking
  | .busy o => some (.busy { o with parkPending := true })
  | .parking => none
  | .parked => none

/-- R93: PARK sent to a record in READY, BUSY or SUSPECT, and its park timer started. -/
def parkRecord (record : RecordNo) (s : State) : State :=
  match (carriage s record).link with
  | .enrolled st _ _ _ w =>
    match parkedWork w with
    | some w' =>
      updCarriage record
        (fun c =>
          { c with
            link := c.link.withWork w'
            parkTimer := some (s.delivery.now + s.settings.working.parkTimeout) })
        (emit (.carriage st.number .park) s)
    | none => s
  | _ => s

/-- R142: the record is PARKED, ABSENT or REJECTED. -/
def CarriageLink.isClear (l : CarriageLink) : Bool :=
  match l with
  | .absent => true
  | .rejected _ _ => true
  | .enrolled _ _ _ _ .parked => true
  | _ => false

/-- R142: every carriage record is PARKED, ABSENT or REJECTED. -/
def frameClear (s : State) : Bool := s.car1.link.isClear && s.car2.link.isClear

/-- The doff progress Φ − Φd. -/
def doffProgress (s : State) : Nat := s.delivery.phi - s.doff.phiD

/-- R143: the cop pulses, as read, of the spindles that are not WITHHELD. -/
def copsAsRead (s : State) : List Nat := (s.spindles.filter fun sp => sp.state != .withheld).map (copRead s)

/-- R143: the doff record opened on entry to DOFFING. -/
def openRecord (call : CallInfo) (s : State) : DoffRecord :=
  { number := s.doff.number
    callStamp := call.stamp
    clearStamp := s.delivery.mill
    completion := none
    delivered := doffProgress s
    cops := ((copsAsRead s).filter fun c => 0 < c).length
    shortCops := ((copsAsRead s).filter fun c => 0 < c && c * 100 < s.doff.lot.ps * s.doff.dPulses).length
    empty := ((copsAsRead s).filter fun c => c == 0).length
    lot := s.doff.lot.number
    appliedLot := none
    early := call.early
    forced := call.forced
    held := call.held }

/-- R143: the doff number after this one, passing from 65 535 to 0. -/
def nextDoffNumber (n : Nat) : Nat := (n + 1) % 65536

/-- R142, R143: DOFFING entered. -/
def enterDoffing (call : CallInfo) (s : State) : State :=
  let s1 := updDoff (fun d => { d with number := nextDoffNumber d.number }) s
  enterPhase (.doffing call (openRecord call s1)) s1

/-- R142: in PARKING, the carriage records tested. -/
def testClear (s : State) : State :=
  match s.doff.phase with
  | .parking call => if frameClear s then enterDoffing call s else s
  | _ => s

/-- R141: PARKING entered: PARK is sent, to record 1 before record 2 (assumption log entry 39), and the records are tested at once. -/
def enterParking (call : CallInfo) (s : State) : State :=
  testClear (parkRecord .two (parkRecord .one (enterPhase (.parking call) s)))

/-! ## Warning and call (R138 to R140, R149) -/

/-- R140: CALLED entered, and PARKING at once when drive running is not asserted. -/
def enterCalled (early forced : Bool) (s : State) : State :=
  let call : CallInfo := { early := early, forced := forced, held := s.doff.overdue, stamp := s.delivery.mill }
  let s1 := enterPhase (.called call) (updDoff (fun d => { d with hold := false, overdue := false }) s)
  if s1.delivery.driving then s1 else enterParking call s1

/-- R149: a held doff forced at the overrun point, with notice DOFF_FORCED. -/
def forceDoff (s : State) : State :=
  raiseNotice .doffForced .warning (.doff (nextDoffNumber s.doff.number)) (.progress (doffProgress s))
    (enterCalled false true (updDoff (fun d => { d with overdue := true }) s))

/-- A doff state entered unless it stands already. -/
def toPhase (ph : DoffPhase) (s : State) : State := if s.doff.phase = ph then s else enterPhase ph s

/-- R138: the table of the doff progress, tested from the top. -/
def applyTable (s : State) : State :=
  let p := doffProgress s
  let d := s.doff
  if d.overrun ≤ p && d.hold then forceDoff s
  else if d.dPulses ≤ p then
    if d.hold then toPhase .warned (updDoff (fun d => { d with overdue := true }) s) else enterCalled false false s
  else if d.dPulses - d.wPulses ≤ p then toPhase .warned s
  else toPhase .spinning (updDoff (fun d => { d with overdue := false }) s)

/-- R138: the table applied in SPINNING and WARNED. -/
def followProgress (s : State) : State :=
  match s.doff.phase with
  | .spinning => applyTable s
  | .warned => applyTable s
  | _ => s

/-- R147: in RESTARTING, the end of the restart window tested. -/
def testWindow (s : State) : State :=
  match s.doff.phase with
  | .restarting => if s.doff.rwPulses ≤ doffProgress s then applyTable s else s
  | _ => s

/-- R5, R138, R147: the doff sequencer's points after a pulse. -/
def doffPoints (s : State) : State :=
  match s.doff.phase with
  | .restarting => testWindow s
  | _ => followProgress s

/-! ## Completion (R145, R154) -/

/-- R154: a pending lot applied. -/
def applyLot (lot : Lot) (s : State) : State :=
  let s1 := settleAll s
  let s2 :=
    { s1 with
      doff := { s1.doff with lot := lot, pendingLot := none }
      shift := { s1.shift with segments := s1.shift.segments ++ [{ lot := lot.number, t := lot.t, pulses := 0 }] }
      settings := { s1.settings with retained := { s1.settings.retained with lot := lot } } }
  askWrite (evaluateGroups (allGroups s2) s2)

/-- R145, R154: the pending lot at a doff completion: applied, deferred for want of a segment, or none. -/
def lotAtDoff (s : State) : LotOutcome × State :=
  match s.doff.pendingLot with
  | none => (.nonePending, s)
  | some lot =>
    if s.shift.segments.length < Config.segmentCapacity then (.applied, applyLot lot s) else (.deferred, s)

/-- R12: the four distances computed from the lot in force, pv and Lrw. -/
def Doff.computed (d : Doff) (dl : Delivery) (w : Working) : Doff :=
  { d with
    dPulses := doffPulses dl d.lot
    wPulses := warningPulses dl d.lot
    overrun := overrunDistance (doffPulses dl d.lot) w.overrunLimit
    rwPulses := restartPulses dl w.restartWindow }

/-- R95: RESUME sent to a PARKED record, which enters READY. -/
def resumeRecord (record : RecordNo) (s : State) : State :=
  match (carriage s record).link with
  | .enrolled st _ _ _ .parked =>
    updCarriage record (fun c => { c with link := c.link.withWork .ready }) (emit (.carriage st.number .resume) s)
  | _ => s

/-- R145: a spindle's cop pulses set to 0, the spindle having been settled. -/
def Spindle.emptied (sp : Spindle) : Spindle := { sp with copPulses := 0 }

/-- R145: the counts of the open shift at a doff completion. -/
def countDoff (r : DoffRecord) (s : State) : State :=
  { s with
    shift :=
      { s.shift with
        doffs := satAdd Config.top32 s.shift.doffs 1
        cops := satAdd Config.top32 s.shift.cops r.cops
        shortCops := satAdd Config.top32 s.shift.shortCops r.shortCops } }

/-- R145: a doff completed, from its open record. RESUME goes to record 1 before record 2 (assumption log entry 39),
and both go before dispatch is attempted (entry 48). -/
def completeDoff (record : DoffRecord) (s : State) : State :=
  let s1 := settleAll (countDoff record s)
  let s2 := updDoff (fun d => { d with phiD := s1.delivery.phi }) { s1 with spindles := s1.spindles.map Spindle.emptied }
  let lotted := lotAtDoff s2
  let s3 := lotted.2
  let done : DoffRecord :=
    { record with
      completion := some s.delivery.mill
      appliedLot := if lotted.1 = .applied then some s3.doff.lot.number else none }
  let s4 :=
    updDoff
      (fun d =>
        { d.computed s3.delivery s3.settings.working with log := (done :: d.log).take Config.doffLogCapacity })
      s3
  let s5 := testWindow (enterPhase .restarting (resumeRecord .two (resumeRecord .one s4)))
  raiseNotice .doffDone .info (.doff record.number) (.doffDone record.cops record.shortCops lotted.1) s5

end Sys2Proof.Machine
end

