-- ==== Sys2Proof/Machine/Carriages.lean ====
section
/-! DEFINITION. Shared operations of the carriage controller (chapter 4): finding a record, link loss, enrolment, the end of an
order, timeouts. -/

namespace Sys2Proof.Machine

open Sys2Proof

/-! ## Records and the link (R72, R76, R91) -/

/-- R76: the station that holds a record. -/
def CarriageLink.station? (l : CarriageLink) : Option Station :=
  match l with
  | .absent => none
  | .rejected st _ => some st
  | .enrolled st _ _ _ _ => some st

/-- The record's station number is this one. -/
def CarriageLink.isStation (l : CarriageLink) (station : Nat) : Bool :=
  match l.station? with
  | none => false
  | some st => st.number == station

/-- R78: the record held by a station. -/
def recordOfStation (s : State) (station : Nat) : Option RecordNo :=
  if s.car1.link.isStation station then some .one
  else if s.car2.link.isStation station then some .two
  else none

/-- R72: a message discarded on the carriage link. -/
def discardCarriage (s : State) : State := { s with carDiscards := satAdd Config.top16 s.carDiscards 1 }

/-- R91: a record's link-loss timer started again. -/
def signOfLife (record : RecordNo) (s : State) : State :=
  updCarriage record (fun c => { c with linkTimer := some (s.delivery.now + Config.linkLossTime) }) s

/-- R91: the link-loss timer of a station's record, if it holds one, started again. -/
def heard (station : Nat) (s : State) : State :=
  match recordOfStation s station with
  | none => s
  | some record => signOfLife record s

/-- R76: the outstanding order of a link. -/
def CarriageLink.order? (l : CarriageLink) : Option Order :=
  match l with
  | .enrolled _ _ _ _ (.busy o) => some o
  | _ => none

/-- A record's counters changed. -/
def updCounters (record : RecordNo) (f : CarriageCounters → CarriageCounters) (s : State) : State :=
  updCarriage record (fun c => { c with counters := f c.counters }) s

/-- The open shift's piecing counts changed (R160). -/
def updPiecing (f : PiecingCounts → PiecingCounts) (s : State) : State :=
  { s with shift := { s.shift with piecing := f s.shift.piecing } }

/-- R89: a late message counted. -/
def countLate (record : RecordNo) (s : State) : State :=
  updCounters record (fun c => { c with late := satAdd Config.top32 c.late 1 }) s

/-! ## ABSENT (R80, R91, R92) -/

/-- R91: a record made ABSENT: station, side, timers and order gone; tag and counters kept. -/
def Carriage.absented (c : Carriage) : Carriage := { c with link := .absent, parkTimer := none, linkTimer := none }

/-- R91: a dropped order's spindle returned to BROKEN or WITHHELD, and its lock released. -/
def dropOrder (order : Option Order) (s : State) : State :=
  match order with
  | none => s
  | some o => releaseLock (sectorOf o.spindle) (returnToBroken o.spindle .none s)

/-- R80, R91, R92: a record becomes ABSENT with the effects of link loss; `lost` when the fault is raised. The doff sequencer is
told (R77). DESIGN CHOICE: CARRIAGE_LOST is raised before the order's spindle is returned, and so before a LIST_OVERFLOW of it
(assumption log entry 50). -/
def makeAbsent (record : RecordNo) (lost : Bool) (s : State) : State :=
  let link := (carriage s record).link
  let s1 := updCarriage record Carriage.absented s
  let s2 :=
    match link with
    | .enrolled st side _ _ _ =>
      if lost then raiseFault .carriageLost (.side side) (.station st.number) s1 else s1
    | _ => s1
  testClear (dropOrder link.order? s2)

/-! ## Enrolment (R78 to R80) -/

/-- R79: an enrolment refused: REFUSE, the record REJECTED with its link-loss timer started, fault CARRIAGE_CONFLICT. -/
def rejectEnrolment (record : RecordNo) (st : Station) (claimed : Side) (reason : RefuseReason) (s : State) : State :=
  let s1 :=
    signOfLife record
      (updCarriage record (fun c => { c with link := .rejected st claimed })
        (emit (.carriage st.number (.refuse reason)) s))
  testClear (raiseFault .carriageConflict (.side claimed) (.conflict st.number reason) s1)

/-- R79: an enrolment accepted: ACCEPT (and PARK), the record in the state of work given, notice CARRIAGE_ENROLLED. -/
def acceptEnrolment (record : RecordNo) (st : Station) (side : Side) (work : CarriageWork) (s : State) : State :=
  let s1 := emit (.carriage st.number (.accept side (firstSpindle s side) (lastSpindle s side))) s
  let s2 := if work = .ready then s1 else emit (.carriage st.number .park) s1
  let s3 :=
    signOfLife record
      (updCarriage record
        (fun c =>
          { c with
            link := .enrolled st side (firstSpindle s side) .up work
            parkTimer :=
              if work = .parking then some (s.delivery.now + s.settings.working.parkTimeout) else none })
        s2)
  let s4 := raiseNotice .carriageEnrolled .info (.side side) (.station st.number) s3
  testClear (dispatch record s4)

/-- R79: the checks of an enrolment, in order, on a record found by R78. -/
def enrol (record : RecordNo) (st : Station) (claimed : Side) (s : State) : State :=
  if !sideConfigured s claimed then rejectEnrolment record st claimed .noSide s
  else if !(st.abilities.pieces && st.abilities.parks) then rejectEnrolment record st claimed .noAbility s
  else if (carriage s (otherRecord record)).link.side? = some claimed then rejectEnrolment record st claimed .sideHeld s
  else
    match s.doff.phase with
    | .doffing _ _ => updCarriage record Carriage.absented (emit (.carriage st.number .wait) s)
    | .parking _ => acceptEnrolment record st claimed .parking s
    | .called _ => acceptEnrolment record st claimed .parked s
    | .spinning => acceptEnrolment record st claimed .ready s
    | .warned => acceptEnrolment record st claimed .ready s
    | .restarting => acceptEnrolment record st claimed .ready s

/-- R78: no record is left for a station. -/
def noRoom (st : Station) (claimed : Side) (s : State) : State :=
  raiseFault .carriageConflict (.side claimed) (.conflict st.number .noRoom)
    (emit (.carriage st.number (.refuse .noRoom)) s)

/-- R77: the record is enrolled. -/
def CarriageLink.isEnrolled (l : CarriageLink) : Bool :=
  match l with
  | .enrolled _ _ _ _ _ => true
  | _ => false

/-- R78: the first ABSENT record, record 1 before record 2. -/
def absentRecord (s : State) : Option RecordNo :=
  if s.car1.link = .absent then some .one else if s.car2.link = .absent then some .two else none

/-- R78 to R80: an ABILITY taken. -/
def enrolStation (st : Station) (claimed : Side) (s : State) : State :=
  match recordOfStation s st.number with
  | some record =>
    if (carriage s record).link.isEnrolled then enrol record st claimed (makeAbsent record false s)
    else enrol record st claimed s
  | none =>
    match absentRecord s with
    | some record => enrol record st claimed s
    | none => noRoom st claimed s

/-! ## Orders (R84 to R88, R94) -/

/-- R87: the record leaves BUSY, and the lock its order held is carried over or released before any further dispatch. -/
def completeOrder (record : RecordNo) (o : Order) (s : State) : State :=
  let sector := sectorOf o.spindle
  let s1 :=
    updCarriage record (fun c => { c with link := c.link.withWork (if o.parkPending then .parking else .ready) }) s
  let s2 :=
    if carryOverAllowed s1 record sector then dispatchCarried sector record s1
    else dispatch record (releaseLock sector s1)
  testClear s2

/-- R85: the attempts of a spindle, and its failures after a FAILED, stopping at 7. -/
def Spindle.tried (sp : Spindle) (failed : Bool) : Spindle :=
  { sp with
    attempts := satAdd Config.topTries sp.attempts 1
    failures := if failed then satAdd Config.topTries sp.failures 1 else sp.failures }

/-- R85, R86: what a current RESULT does to the spindle, the record's counters and the open shift. -/
def settleOutcome (record : RecordNo) (o : Order) (outcome : OrderOutcome) (s : State) : State :=
  match outcome with
  | .pieced =>
    updPiecing (fun p => { p with pieced := satAdd Config.top32 p.pieced 1 })
      (updCounters record (fun c => { c with pieced := satAdd Config.top32 c.pieced 1 })
        (pieceDone o.spindle (updSpindle o.spindle (fun x => x.tried false) s)))
  | .failed =>
    updPiecing (fun p => { p with failed := satAdd Config.top32 p.failed 1 })
      (updCounters record (fun c => { c with failed := satAdd Config.top32 c.failed 1 })
        (returnToBroken o.spindle .failure (updSpindle o.spindle (fun x => x.tried true) s)))
  | .notReached =>
    updPiecing (fun p => { p with notReached := satAdd Config.top32 p.notReached 1 })
      (updCounters record (fun c => { c with notReached := satAdd Config.top32 c.notReached 1 })
        (returnToBroken o.spindle .none s))
  | .cancelled =>
    updPiecing (fun p => { p with cancelled := satAdd Config.top32 p.cancelled 1 }) (returnToBroken o.spindle .none s)

/-- R85 to R87: a current RESULT handled. -/
def handleResult (record : RecordNo) (o : Order) (outcome : OrderOutcome) (s : State) : State :=
  completeOrder record o (settleOutcome record o outcome s)

/-- R90: a SUSPECT record that has reported returns to READY, and dispatch is attempted. -/
def leaveSuspect (record : RecordNo) (s : State) : State :=
  match (carriage s record).link with
  | .enrolled _ _ _ _ .suspect => dispatch record (updCarriage record (fun c => { c with link := c.link.withWork .ready }) s)
  | _ => s

/-- R84: a link's last position and direction. -/
def CarriageLink.moved (l : CarriageLink) (position : Nat) (direction : Direction) : CarriageLink :=
  match l with
  | .enrolled st side _ _ w => .enrolled st side position direction w
  | other => other

/-- R84: a link whose current order's ARRIVED has been taken: arrived flag set, last position the order's spindle. -/
def CarriageLink.arrivedAt (l : CarriageLink) (o : Order) : CarriageLink :=
  match l with
  | .enrolled st side _ dir _ => .enrolled st side o.spindle dir (.busy { o with arrived := true })
  | other => other

/-- R94: a PARKING record that stands at its parking place: PARKED, park timer stopped; the doff sequencer is told. -/
def reachPark (record : RecordNo) (s : State) : State :=
  testClear (updCarriage record (fun c => { c with link := c.link.withWork .parked, parkTimer := none }) s)

/-- R88: an order timed out. -/
def timeOutOrder (record : RecordNo) (st : Station) (side : Side) (o : Order) (s : State) : State :=
  let s1 := raiseFault .orderTimeout (.side side) (.spindle o.spindle) s
  let s2 :=
    updPiecing (fun p => { p with timedOut := satAdd Config.top32 p.timedOut 1 })
      (updCounters record (fun c => { c with timeouts := satAdd Config.top32 c.timeouts 1 }) s1)
  let s3 := returnToBroken o.spindle .none s2
  let s4 := releaseLock (sectorOf o.spindle) s3
  let s5 :=
    updCarriage record (fun c => { c with link := c.link.withWork (if o.parkPending then .parking else .suspect) }) s4
  testClear (emit (.carriage st.number (if o.parkPending then .park else .poll)) s5)

end Sys2Proof.Machine
end

