-- ==== Sys2Proof/Machine/Changes.lean ====
section
/-! DEFINITION. Shared operations of a roving change in flight (R102, R107, R124 to R129). -/

namespace Sys2Proof.Machine

open Sys2Proof

/-- R121: a message discarded on the transport link. -/
def discardTransport (s : State) : State :=
  updPlanner (fun p => { p with discarded := satAdd Config.top16 p.discarded 1 }) s

/-- R122: the active change, when `tag` is the current tag. -/
def currentChange (s : State) (tag : Nat) : Option ActiveChange :=
  match s.planner.transport.change with
  | none => none
  | some c => if c.tag = tag then some c else none

/-- R124: some spindle of the group is in WAIT_ROVING. -/
def anyWaiting (s : State) (g : Nat) : Bool :=
  (groupSpindles s g).any fun sp =>
    match sp.state with
    | .waitRoving _ => true
    | _ => false

/-- R124: a change that ended without being completed: the active change record becomes absent, the transport IDLE, and the group
is listed again with its queued time and origin, unless it has become wholly withheld. -/
def relist (c : ActiveChange) (atTimeout : Bool) (s : State) : State :=
  let g := c.call.group
  let urgency : CallUrgency := if atTimeout || anyWaiting s g then .urgent else c.call.urgency
  if whollyWithheld s g then updPlanner (fun p => { p with transport := .idle }) s
  else
    updPlanner
      (fun p => { p with transport := .idle, calls := insertCall { c.call with urgency := urgency } p.calls }) s

/-- R107, R127: the claim of the active change ended, in the states in which it may have one. -/
def endClaimOfChange (s : State) : State :=
  match s.planner.transport with
  | .waiting c => endClaim (sectorOfGroup c.call.group) s
  | .changing c => endClaim (sectorOfGroup c.call.group) s
  | _ => s

/-- R125: the transport timer started again from now, with the value of the call, and the accepted flag set. -/
def ActiveChange.acceptedAt (c : ActiveChange) (now : Nat) : ActiveChange :=
  { c with accepted := true, deadline := now + c.timeout }

/-- R102: urgency of a claim: 1 for PLANNED, 2 for URGENT. -/
def claimUrgency (u : CallUrgency) : Nat :=
  match u with
  | .planned => 1
  | .urgent => 2

/-- R102, R127: the sector of the active change claimed: granted when FREE (or when already the transport's), waiting when a
carriage holds it. A claim already waiting stands as it is. -/
def claimSector (c : ActiveChange) (s : State) : State :=
  let k := sectorOfGroup c.call.group
  match (lockOf s k).holder with
  | .free => plannerGranted (updLock k (fun l => { l.pass .transport with carryOver := 0 }) s)
  | .transport => plannerGranted s
  | .carriage record none =>
    updPlanner (fun p => { p with transport := .waiting c })
      (updLock k
        (fun l =>
          { l with
            holder :=
              .carriage record
                (some
                  { tag := c.tag, group := c.call.group, urgency := claimUrgency c.call.urgency,
                    waitStart := s.delivery.now, waitLimit := some (s.delivery.now + s.settings.working.waitLimit) })
            carryOver := 0 })
        s)
  | .carriage _ (some _) => updPlanner (fun p => { p with transport := .waiting c }) s

/-- R126, R160: the residue of a change in whole metres: the eight positions converted one by one and added, those of a void estimate
among them (assumption log entry 41). -/
def residueOf (s : State) (g : Nat) : Nat :=
  ((groupSpindles s g).map fun sp => residueMetres s.delivery s.doff.lot (remaining s sp)).sum

/-- R126: a position whose bobbin has been changed. -/
def Spindle.renewed (sp : Spindle) : Spindle := { sp with rovingUsed := 0, estimateValid := true }

/-- R126: what the completion of a change does to a spindle of the group, after its estimate is renewed. -/
def releaseFromRoving (n : Nat) (s : State) : State :=
  match (spindle s n).state with
  | .waitRoving t => takeIn n .none (changeState n (.broken .rovingOut t) s)
  | .settling .pieced _ => enterState n (.settling .roving s.delivery.now) s
  | _ => s

/-- R126: a change completed, from the settle of the eight spindles to the count of the change, with its residue in metres. -/
def renewGroup (g : Nat) (s : State) : State :=
  let s1 := settleEach (spindlesOfGroup g) s
  let left := residueOf s1 g
  let s2 := (spindlesOfGroup g).foldl (fun acc n => updSpindle n Spindle.renewed acc) s1
  let s3 := (spindlesOfGroup g).foldl (fun acc n => releaseFromRoving n acc) s2
  countChange left s3

/-- R126: the residue of the change about to be completed, as `renewGroup` will book it. -/
def residueAtChange (g : Nat) (s : State) : Nat := residueOf (settleEach (spindlesOfGroup g) s) g

/-- R126: the active change completed by its CHANGED. -/
def completeChange (c : ActiveChange) (s : State) : State :=
  let g := c.call.group
  let s1 := endClaimOfChange (renewGroup g s)
  let s2 := updPlanner (fun p => { p with transport := .idle }) s1
  let s3 := raiseNotice .rovingChanged .info (.group g) (.residue (residueAtChange g s)) (evaluateGroup g s2)
  callTest s3

/-- R129: a late CHANGED honoured: the group's entry is removed, and the change is completed without touching claim or transport. -/
def honourLate (g : Nat) (s : State) : State :=
  let s1 := evaluateGroup g (renewGroup g (removeCall g s))
  let s2 := raiseNotice .lateChange .warning (.group g) (.residue (residueAtChange g s)) s1
  updPlanner (fun p => { p with lastTimedOut := none }) s2

end Sys2Proof.Machine
end

