-- ==== Sys2Proof/Machine/Frame.lean ====
section
/-! DEFINITION. Frames of the supervisor line (R200, R208): the check, the frame of a reply, and the judgement of a complete frame as
the command it is. -/

namespace Sys2Proof.Machine

open Sys2Proof

/-- R208: one bit of the check: the generator polynomial is 0x1021, most significant bit first. -/
def crcShift (crc : BitVec 16) : BitVec 16 := if crc.msb then (crc <<< 1) ^^^ 0x1021#16 else crc <<< 1

/-- R208: one byte of the check. -/
def crcByte (crc : BitVec 16) (b : Byte) : BitVec 16 :=
  crcShift (crcShift (crcShift (crcShift (crcShift (crcShift (crcShift (crcShift (crc ^^^ (b.zeroExtend 16 <<< 8)))))))))

/-- R208: CRC-16, starting value 0xFFFF, not reflected or inverted. -/
def crc16 (bytes : List Byte) : BitVec 16 := bytes.foldl crcByte 0xFFFF#16

/-- R208: the address, length, kind and body of a frame, over which its check is computed. -/
def checkedPart (address kind : Nat) (body : List Byte) : List Byte :=
  BitVec.ofNat 8 address :: BitVec.ofNat 8 body.length :: BitVec.ofNat 8 kind :: body

/-- R208: a whole frame. -/
def frameOf (address kind : Nat) (body : List Byte) : List Byte :=
  Config.startMark :: checkedPart address kind body ++ bytesOf 2 (crc16 (checkedPart address kind body)).toNat

/-- Section 11.6: the request of a kind code, with its body. -/
def requestOfKind (kind : Nat) (body : List Byte) : Option Instr :=
  match kind with
  | 0x01 => some (.identify body)
  | 0x02 => some (.readStatus body)
  | 0x03 => some (.fetchNotices body)
  | 0x04 => some (.readSpindles body)
  | 0x05 => some (.readPiecingList body)
  | 0x06 => some (.readGroups body)
  | 0x07 => some (.readRovingCalls body)
  | 0x08 => some (.readCarriages body)
  | 0x09 => some (.readDoffState body)
  | 0x0A => some (.readDoffLog body)
  | 0x0B => some (.readShift body)
  | 0x0C => some (.readFaults body)
  | 0x0D => some (.clearFaults body)
  | 0x0E => some (.readSettings body)
  | 0x0F => some (.writeSettings body)
  | 0x10 => some (.writeLot body)
  | 0x11 => some (.readZones body)
  | 0x12 => some (.writeZone body)
  | 0x13 => some (.pieceSpindle body)
  | 0x14 => some (.lockSpindle body)
  | 0x15 => some (.releaseSpindle body)
  | 0x16 => some (.callRoving body)
  | 0x17 => some (.declareRoving body)
  | 0x18 => some (.holdDoff body)
  | 0x19 => some (.resumeDoff body)
  | 0x1A => some (.doffNow body)
  | 0x1B => some (.setDoffProgress body)
  | 0x1C => some (.releaseCarriage body)
  | 0x1D => some (.closeShift false body)
  | 0x1E => some (.setClock false body)
  | 0x1F => some (.restart body)
  | _ => none

/-- Section 11.6: the kind code of a request sent to the unit's address. -/
def kindOfRequest (c : Instr) : Option Nat :=
  match c with
  | .identify _ => some 0x01
  | .readStatus _ => some 0x02
  | .fetchNotices _ => some 0x03
  | .readSpindles _ => some 0x04
  | .readPiecingList _ => some 0x05
  | .readGroups _ => some 0x06
  | .readRovingCalls _ => some 0x07
  | .readCarriages _ => some 0x08
  | .readDoffState _ => some 0x09
  | .readDoffLog _ => some 0x0A
  | .readShift _ => some 0x0B
  | .readFaults _ => some 0x0C
  | .clearFaults _ => some 0x0D
  | .readSettings _ => some 0x0E
  | .writeSettings _ => some 0x0F
  | .writeLot _ => some 0x10
  | .readZones _ => some 0x11
  | .writeZone _ => some 0x12
  | .pieceSpindle _ => some 0x13
  | .lockSpindle _ => some 0x14
  | .releaseSpindle _ => some 0x15
  | .callRoving _ => some 0x16
  | .declareRoving _ => some 0x17
  | .holdDoff _ => some 0x18
  | .resumeDoff _ => some 0x19
  | .doffNow _ => some 0x1A
  | .setDoffProgress _ => some 0x1B
  | .releaseCarriage _ => some 0x1C
  | .closeShift false _ => some 0x1D
  | .setClock false _ => some 0x1E
  | .restart _ => some 0x1F
  | _ => none

/-- The body a request carries. -/
def bodyOfRequest (c : Instr) : List Byte :=
  match c with
  | .identify b | .readStatus b | .fetchNotices b | .readSpindles b | .readPiecingList b | .readGroups b | .readRovingCalls b
  | .readCarriages b | .readDoffState b | .readDoffLog b | .readShift b | .readFaults b | .clearFaults b | .readSettings b
  | .writeSettings b | .writeLot b | .readZones b | .writeZone b | .pieceSpindle b | .lockSpindle b | .releaseSpindle b
  | .callRoving b | .declareRoving b | .holdDoff b | .resumeDoff b | .doffNow b | .setDoffProgress b | .releaseCarriage b
  | .closeShift _ b | .setClock _ b | .restart b => b
  | _ => []

/-- R203: the broadcast of a kind code: Close Shift with an empty body and Set Clock with four bytes are honoured. -/
def broadcastOfKind (kind : Nat) (body : List Byte) : Instr :=
  if kind = 0x1D ∧ body.length = 0 then .closeShift true body
  else if kind = 0x1E ∧ body.length = 4 then .setClock true body
  else .broadcastIgnored

/-- R200, R201, R203: the command that a frame which passes is, judged by its address and kind at a unit of this address. -/
def judgePassed (unit address kind : Nat) (body : List Byte) : Instr :=
  if 0x80 ≤ kind then .frameIgnored
  else if address = 0 then broadcastOfKind kind body
  else if address = unit then
    match requestOfKind kind body with
    | some c => c
    | none => .unknownKind (BitVec.ofNat 8 kind)
  else .frameIgnored

/-- R200, R208: the command that the bytes of a frame taken whole are (address, length, kind, body and check bytes, after the start
mark): discarded when the length byte is above 250 or the check does not match. -/
def judgeFrame (unit : Nat) (bytes : List Byte) : Instr :=
  match bytes with
  | address :: length :: kind :: rest =>
    let body := rest.take length.toNat
    let check := numberOf ((rest.drop length.toNat).take 2)
    if Config.maxBody < length.toNat then .frameDiscarded
    else if check = (crc16 (address :: length :: kind :: body)).toNat then
      judgePassed unit address.toNat kind.toNat body
    else .frameDiscarded
  | _ => .frameSilenceTimeout

end Sys2Proof.Machine
end

