-- ==== Sys2Proof/Machine/Layouts.lean ====
section
/-! DEFINITION. The bodies of replies (R68, R96, R109, R130, R131, R143, R146, R155, R170, R174, R183, R193, R204 to R211). Widths
and codes that the rules give only in words follow assumption log entry 19. -/

namespace Sys2Proof.Machine

open Sys2Proof

/-! ## Outcomes (R202) -/

/-- R202: the outcome codes. -/
inductive RequestOutcome where
  | ok
  | clamped
  | unknownKind
  | badLength
  | outOfRange
  | wrongState
  | withheld
  | doffInProgress
  | storeBusy
  deriving DecidableEq, Repr, Inhabited

/-- R202: code of an outcome. -/
def RequestOutcome.code (o : RequestOutcome) : Nat :=
  match o with
  | .ok => 0
  | .clamped => 1
  | .unknownKind => 2
  | .badLength => 3
  | .outOfRange => 4
  | .wrongState => 5
  | .withheld => 6
  | .doffInProgress => 7
  | .storeBusy => 8

/-- R201: the first byte of a reply's body is its outcome. -/
def outcomeByte (o : RequestOutcome) : List Byte := field 1 o.code

/-- R202: a CLAMPED reply body: the outcome, the number of fields clamped and their numbers. -/
def clampedBody (fields : List Nat) : List Byte :=
  outcomeByte .clamped ++ field 1 fields.length ++ fields.flatMap (field 1)

/-- How many of the leading items fit in `room` bytes. -/
def fitCount (room : Nat) : List (List Byte) → Nat
  | [] => 0
  | x :: rest => if x.length ≤ room then 1 + fitCount (room - x.length) rest else 0

/-- R201: a paged reply body: the outcome and what stands before the items, as many whole items as fit within the reply size
limit, and the more flag after them. -/
def pagedBody (s : State) (before : List Byte) (items : List (List Byte)) : List Byte :=
  let opening := outcomeByte .ok ++ before
  let k := fitCount (s.settings.working.replyLimit - (opening.length + 1)) items
  opening ++ (items.take k).flatten ++ flag (k < items.length)

/-! ## Codes -/

/-- R74, R76: UP 0, DOWN 1. -/
def directionCode (d : Direction) : Nat :=
  match d with
  | .up => 0
  | .down => 1

/-- R76: the ability set, PIECES at bit 0. -/
def abilityCode (a : AbilitySet) : Nat :=
  (if a.pieces then 1 else 0) + (if a.parks then 2 else 0) + (if a.cleans then 4 else 0)

/-- R209: settle origins. -/
def originCode (o : SettleOrigin) : Nat :=
  match o with
  | .driveStart => 0
  | .pieced => 1
  | .hand => 2
  | .roving => 3

/-- R209: lock reasons. -/
def lockReasonCode (r : LockReason) : Nat :=
  match r with
  | .rogue => 0
  | .fails => 1
  | .byRequest => 2

/-- R210: refusal reasons, in the order of R73. -/
def refuseCode (r : RefuseReason) : Nat :=
  match r with
  | .noSide => 0
  | .noAbility => 1
  | .sideHeld => 2
  | .noRoom => 3
  | .released => 4
  | .restarted => 5

/-- R76: carriage record states, ABSENT 0 to REJECTED 6. -/
def CarriageLink.code (l : CarriageLink) : Nat :=
  match l with
  | .absent => 0
  | .enrolled _ _ _ _ .ready => 1
  | .enrolled _ _ _ _ (.busy _) => 2
  | .enrolled _ _ _ _ .parking => 3
  | .enrolled _ _ _ _ .parked => 4
  | .enrolled _ _ _ _ .suspect => 5
  | .rejected _ _ => 6

/-- R99: holders. -/
def Holder.code (h : Holder) : Nat :=
  match h with
  | .free => 0
  | .carriage _ _ => 1
  | .transport => 2

/-- R99: last holders. -/
def LastHolder.code (h : LastHolder) : Nat :=
  match h with
  | .none => 0
  | .free => 1
  | .carriage => 2
  | .transport => 3

/-- R112: call states. -/
def CallState.code (c : CallState) : Nat :=
  match c with
  | .none => 0
  | .listed => 1
  | .active => 2

/-- R115: urgencies. -/
def CallUrgency.code (u : CallUrgency) : Nat :=
  match u with
  | .planned => 0
  | .urgent => 1

/-- R115: origins. -/
def CallOrigin.code (o : CallOrigin) : Nat :=
  match o with
  | .plan => 0
  | .out => 1
  | .request => 2

/-- R122: transport states. -/
def Transport.code (t : Transport) : Nat :=
  match t with
  | .idle => 0
  | .called _ => 1
  | .waiting _ => 2
  | .changing _ => 3

/-- R174: anchors. -/
def anchorCode (a : Anchor) : Nat :=
  match a with
  | .low => 0
  | .high => 1

/-- R185: writer states. -/
def Writer.code (w : Writer) : Nat :=
  match w with
  | .idle => 0
  | .writing _ _ => 1

/-- R136: call flags as a set, EARLY at bit 0. -/
def callFlagBits (early forced held : Bool) : Nat :=
  (if early then 1 else 0) + (if forced then 2 else 0) + (if held then 4 else 0)

/-- R194, R210: code of a notice kind, the fault classes 1 to 11. -/
def NoticeKind.code (k : NoticeKind) : Nat :=
  match k with
  | .fault cls => cls.bit + 1
  | .spindleLocked => 16
  | .carriageEnrolled => 17
  | .rovingChanged => 18
  | .lateChange => 19
  | .doffDone => 20
  | .doffForced => 21
  | .shiftClosed => 22
  | .headBack => 23
  | .pulseResumed => 24

/-- R210: subject type and subject, 3 bytes. -/
def subjectBytes (x : Subject) : List Byte :=
  match x with
  | .none => field 1 0 ++ field 2 0
  | .spindle n => field 1 1 ++ field 2 n
  | .sector n => field 1 2 ++ field 2 n
  | .side side => field 1 3 ++ field 2 (sideCode side)
  | .group n => field 1 4 ++ field 2 n
  | .doff n => field 1 5 ++ field 2 n
  | .shift n => field 1 6 ++ field 2 n

/-- R210: the bytes of a detail that are used, from its first byte. -/
def detailUsed (d : Detail) : List Byte :=
  match d with
  | .none => []
  | .lock reason count => field 1 (lockReasonCode reason) ++ field 1 count
  | .station n => field 1 n
  | .conflict station reason => field 1 station ++ field 1 (refuseCode reason)
  | .spindle n => field 2 n
  | .tag n => field 1 n
  | .residue m => field 4 m
  | .doffDone cops short lot =>
    field 2 cops ++ field 2 short ++
      field 1 (match lot with | .nonePending => 0 | .applied => 1 | .deferred => 2)
  | .progress p => field 4 p
  | .shiftClosed mass eff =>
    field 4 mass ++ (match eff with | none => field 2 0xFFFF | some e => field 2 e)
  | .signal sg ph => field 1 (match sg with | .dofferActiveRise => 0 | .doffComplete => 1) ++ field 1 ph
  | .sequence n => field 4 n

/-- R210: a detail in 6 bytes, unused bytes 0. -/
def detailBytes (d : Detail) : List Byte :=
  let used := detailUsed d
  used ++ List.replicate (6 - used.length) 0

/-- R210: a notice in 15 bytes. -/
def noticeBytes (n : Notice) : List Byte :=
  field 1 n.kind.code ++ field 1 n.level.rank ++ field 4 n.stamp ++ subjectBytes n.subject ++ detailBytes n.detail

/-! ## Identify and Status (R205, R206) -/

/-- R206: the Identify reply. -/
def identifyBody (s : State) : List Byte :=
  outcomeByte .ok ++ field 2 Config.vendorCode ++ field 2 Config.partCode ++ field 1 Config.designRevision ++
    field 1 s.delivery.sides ++ field 1 s.delivery.sectors ++ field 2 (spindleCount s) ++ field 1 s.line.address ++
    field 1 s.line.speed

/-- R205: the number of spindles in the state of a code. -/
def countInState (s : State) (code : Nat) : Nat := (s.spindles.filter fun sp => sp.state.code == code).length

/-- R205: the Status reply. -/
def statusBody (s : State) : List Byte :=
  let sides := configuredSides s
  outcomeByte .ok ++ field 1 s.line.address ++ field 1 s.delivery.sides ++ field 1 s.delivery.sectors ++
    field 1 s.doff.phase.code ++ flag s.doff.overdue ++ flag s.delivery.driving ++ flag s.doff.request ++ flag s.doff.clear ++
    flag s.faults.alarm ++ flag s.drowse.drowsing ++ flag s.delivery.pulseLost ++ field 6 s.delivery.phi ++
    field 4 s.delivery.mill ++ flag s.delivery.clockSet ++ (List.range 8).flatMap (fun c => field 2 (countInState s c)) ++
    sides.flatMap (fun x => field 1 (pieceList s x).length ++ field 2 (unlistedOf s x).length) ++
    field 1 s.planner.calls.length ++ field 1 s.planner.transport.code ++ field 1 s.car1.link.code ++ field 1 s.car2.link.code ++
    field 1 s.notices.queue.length ++ field 1 s.notices.latches.toNat ++ field 2 s.faults.status.toNat ++
    field 1 s.store.writer.code ++ flag s.store.rewrite ++ field 2 s.line.discardedFrames ++ field 2 s.line.badRequests ++
    sides.flatMap (fun x => field 2 (railOf s x).discarded)

/-! ## Spindles (R204, R209) -/

/-- R209: the reason byte. -/
def reasonCode (st : SpindleState) : Nat :=
  match st with
  | .settling o _ => originCode o
  | .broken c _ => c.code
  | .piecing c _ => c.code
  | .waitRoving _ => BreakCause.rovingOut.code
  | .locked r => lockReasonCode r
  | .withheld => 0xFF
  | .idle => 0xFF
  | .running => 0xFF

/-- R209: the time field: seconds since the settle start, or the age of the break. -/
def timeField (now : Nat) (st : SpindleState) : Nat :=
  match st with
  | .settling _ start => now - start
  | .broken _ t => now - t
  | .piecing _ t => now - t
  | .waitRoving t => now - t
  | .withheld => 0xFFFFFFFF
  | .idle => 0xFFFFFFFF
  | .running => 0xFFFFFFFF
  | .locked _ => 0xFFFFFFFF

/-- R209: the flags byte. -/
def spindleFlags (s : State) (n : Nat) (sp : Spindle) : Nat :=
  (if listed s n then 1 else 0) + (if sp.unlisted then 2 else 0) + (if unsensed s n then 4 else 0) +
    (if sp.stopEngaged then 8 else 0) + (if sp.withholdPending then 16 else 0) + (if sp.estimateValid then 32 else 0)

/-- R209: a spindle record in 40 bytes. -/
def spindleBytes (s : State) (n : Nat) : List Byte :=
  let sp := spindle s n
  let ring := sp.breakRing.map fun x => min 65534 (s.delivery.now - x)
  field 2 n ++ field 1 sp.state.code ++ field 1 (spindleFlags s n sp) ++ field 1 sp.streak ++ field 1 sp.attempts ++
    field 1 sp.failures ++ field 1 (reasonCode sp.state) ++ field 4 (timeField s.delivery.now sp.state) ++
    (ring ++ List.replicate (Config.breakRingSize - ring.length) 0xFFFF).flatMap (field 2) ++ field 4 (copRead s sp) ++
    field 4 (usedRead s sp) ++ field 4 (shiftPulsesRead s sp) ++ field 4 (shiftSecondsRead s sp) ++ field 4 sp.shiftEndBreaks

/-- R204: first and last spindle of the range of a read that starts at `start`. -/
def readRange (s : State) (start scope : Nat) : Nat × Nat :=
  match scope with
  | 0 => (1, spindleCount s)
  | 1 => (Config.sectorSpindles * (sectorOf start - 1) + 1, Config.sectorSpindles * sectorOf start)
  | _ => (firstSpindle s (sideOf s start), lastSpindle s (sideOf s start))

/-- R204: the spindles of a read, in the order in which they are taken. -/
def readOrder (s : State) (start scope : Nat) : List Nat :=
  let range := readRange s start scope
  match scope with
  | 0 => span start range.2
  | _ => span start range.2 ++ span range.1 (start - 1)

/-- R204: how many records a read returns. -/
def readCount (s : State) (start limit scope : Nat) : Nat :=
  let fit := (s.settings.working.replyLimit - 6) / 40
  min (readOrder s start scope).length (if limit = 0 then fit else min limit fit)

/-- R204: the cursor after a read. -/
def nextCursor (s : State) (start limit scope : Nat) : Nat :=
  let range := readRange s start scope
  match ((readOrder s start scope).take (readCount s start limit scope)).getLast? with
  | none => start
  | some last => if last = range.2 then range.1 else last + 1

/-- R204, R209: the Read Spindles reply. -/
def readSpindlesBody (s : State) (start limit scope : Nat) : List Byte :=
  let order := readOrder s start scope
  let k := readCount s start limit scope
  outcomeByte .ok ++ field 1 scope ++ field 1 k ++ flag (k < order.length) ++ field 2 (nextCursor s start limit scope) ++
    (order.take k).flatMap (spindleBytes s)

/-! ## Piecing lists (R68) -/

/-- R68: an entry as read. -/
def entryBytes (s : State) (e : Entry) : List Byte :=
  field 2 e.spindle ++ field 1 e.cause.code ++ flag e.urgent ++ field 4 (s.delivery.now - e.time) ++
    field 1 (spindle s e.spindle).attempts

/-- R68: the Read Piecing List reply. -/
def piecingListBody (s : State) (side : Side) (first : Nat) : List Byte :=
  let l := pieceList s side
  pagedBody s
    (field 1 (sideCode side) ++ field 1 l.length ++ field 1 (l.filter (·.urgent)).length ++ field 2 (unlistedOf s side).length ++
      optional ((oldestUnlisted s side).map fun n => s.delivery.now - breakTimeOf s n) (field 4))
    ((l.filter fun e => first ≤ e.spindle).map (entryBytes s))

/-! ## Groups and roving calls (R109, R130, R131) -/

/-- R109: a lock record as read. The claim's tag, urgency and wait, absent together, have one presence byte (assumption log entry 46). -/
def lockBytes (s : State) (k : Nat) : List Byte :=
  let l := lockOf s k
  field 1 l.holder.code ++
    optional (match l.holder with | .carriage r _ => some (recordCode r) | _ => none) (field 1) ++ field 1 l.last.code ++
    field 1 l.carryOver ++
    optional l.claim fun c => field 1 c.tag ++ field 1 c.urgency ++ field 4 (s.delivery.now - c.waitStart)

/-- R130: the least remaining roving among a group's eligible positions, in metres, when its estimate is valid. -/
def leastRemaining (s : State) (g : Nat) : Option Nat :=
  if estimateValid s g then
    ((((groupSpindles s g).filter fun sp => sp.state.eligible).map (remaining s)).min?).map
      (residueMetres s.delivery s.doff.lot)
  else none

/-- R130: a change group as read. -/
def groupBytes (s : State) (g : Nat) : List Byte :=
  field 1 g ++ field 1 (callState s g).code ++ flag (estimateValid s g) ++
    optional ((callPointOf s g).map fun point => point - s.delivery.phi) (field 4) ++ optional (leastRemaining s g) (field 2) ++
    field 1 ((groupSpindles s g).filter fun sp => sp.state.eligible).length ++
    field 1 ((groupSpindles s g).filter fun sp => sp.state.code == 6).length ++ lockBytes s (sectorOfGroup g)

/-- R130: the Read Groups reply. -/
def groupsBody (s : State) (first : Nat) : List Byte :=
  pagedBody s [] ((span (max 1 first) (groupCount s)).map (groupBytes s))

/-- R131: the active change record as read. -/
def changeBytes (s : State) (c : ActiveChange) : List Byte :=
  field 1 c.call.group ++ field 1 c.call.urgency.code ++ field 1 c.call.origin.code ++ field 1 c.tag ++ flag c.accepted ++
    field 4 (s.delivery.now - c.callTime)

/-- R131: an entry of the roving call list as read. -/
def callBytes (s : State) (c : Call) : List Byte :=
  field 1 c.group ++ field 1 c.urgency.code ++ field 1 c.origin.code ++ field 4 (s.delivery.now - c.queued)

/-- R131: the Read Roving Calls reply. -/
def rovingCallsBody (s : State) (first : Nat) : List Byte :=
  let p := s.planner
  pagedBody s
    (field 1 p.transport.code ++ optional p.transport.change (changeBytes s) ++
      optional p.backOff (fun deadline => field 4 (deadline - s.delivery.now)) ++
      optional p.lastTimedOut (fun x => field 1 x.1 ++ field 1 x.2) ++ field 2 p.discarded)
    ((p.calls.drop first).map (callBytes s))

/-! ## Carriages (R96) -/

/-- R96: an outstanding order as read. -/
def orderBytes (s : State) (o : Order) : List Byte :=
  field 2 o.spindle ++ field 1 o.tag ++ field 4 (s.delivery.now - o.issued) ++ flag o.arrived ++ flag o.parkPending

/-- R96: the side or claimed side of a record. -/
def CarriageLink.sideRead (l : CarriageLink) : Option Side :=
  match l with
  | .absent => none
  | .rejected _ claimed => some claimed
  | .enrolled _ side _ _ _ => some side

/-- R96: last position and direction of a record. -/
def CarriageLink.place (l : CarriageLink) : Option (Nat × Direction) :=
  match l with
  | .enrolled _ _ pos dir _ => some (pos, dir)
  | _ => none

/-- R96: a carriage record as read. -/
def carriageBytes (s : State) (record : RecordNo) : List Byte :=
  let c := carriage s record
  let st := c.link.station?
  field 1 (recordCode record) ++ field 1 c.link.code ++ optional (st.map (·.number)) (field 1) ++
    optional c.link.sideRead (fun x => field 1 (sideCode x)) ++ optional (st.map (·.abilities)) (fun a => field 1 (abilityCode a)) ++
    optional (st.map (·.revision)) (field 1) ++ optional (c.link.place.map (·.1)) (field 2) ++
    optional (c.link.place.map (·.2)) (fun d => field 1 (directionCode d)) ++ field 1 c.tag ++ field 4 c.counters.orders ++
    field 4 c.counters.pieced ++ field 4 c.counters.failed ++ field 4 c.counters.notReached ++ field 4 c.counters.timeouts ++
    field 4 c.counters.late ++ optional c.link.order? (orderBytes s)

/-- R96: the Read Carriages reply. -/
def carriagesBody (s : State) : List Byte :=
  outcomeByte .ok ++ carriageBytes s .one ++ carriageBytes s .two ++ field 2 s.carDiscards

/-! ## Doff (R146, R155) -/

/-- R143, R146: a doff record as read, with its delivered length. -/
def doffRecordBytes (s : State) (r : DoffRecord) : List Byte :=
  field 2 r.number ++ field 4 r.callStamp ++ field 4 r.clearStamp ++ optional r.completion (field 4) ++ field 6 r.delivered ++
    field 2 r.cops ++ field 2 r.shortCops ++ field 2 r.empty ++ field 2 r.lot ++ optional r.appliedLot (field 2) ++
    field 1 (callFlagBits r.early r.forced r.held) ++ field 6 (metres s.delivery r.delivered)

/-- R155: a lot as read. -/
def lotBytes (l : Lot) : List Byte :=
  field 2 l.number ++ field 2 l.t ++ field 2 l.r ++ field 2 l.ls ++ field 2 l.lw ++ field 2 l.lr ++ field 1 l.ps

/-- R155: the pulses left to the next point that the state acts on. -/
def pulsesToPoint (s : State) : Option Nat :=
  let p := doffProgress s
  let d := s.doff
  match d.phase with
  | .spinning => some (d.dPulses - d.wPulses - p)
  | .warned => some (if p < d.dPulses then d.dPulses - p else d.overrun - p)
  | .restarting => some (d.rwPulses - p)
  | _ => none

/-- R155: the Read Doff State reply, with the levels that R155 names; the frame alarm of R135 is given by Read Status alone (assumption
log entry 47). -/
def doffStateBody (s : State) : List Byte :=
  let d := s.doff
  outcomeByte .ok ++ field 1 d.phase.code ++ flag d.hold ++ flag d.overdue ++ field 2 d.number ++ field 6 s.delivery.phi ++
    field 6 d.phiD ++ field 6 (doffProgress s) ++ field 6 (metres s.delivery (doffProgress s)) ++ field 3 d.dPulses ++
    field 3 d.wPulses ++ field 3 d.overrun ++ field 3 d.rwPulses ++ optional (pulsesToPoint s) (field 3) ++
    optional d.phase.callInfo (fun c => field 1 (callFlagBits c.early c.forced c.held)) ++
    optional d.phase.callInfo (fun c => field 4 c.stamp) ++
    optional (match d.phase with | .doffing _ r => some r | _ => none) (doffRecordBytes s) ++ lotBytes d.lot ++
    optional d.pendingLot lotBytes ++ flag s.delivery.driving ++ flag d.dofferActive ++ flag d.request ++ flag d.clear

/-- R146: the Read Doff Log reply. -/
def doffLogBody (s : State) (first : Nat) : List Byte := pagedBody s [] ((s.doff.log.drop first).map (doffRecordBytes s))

/-! ## Shifts (R170, R211) -/

/-- A shift record as it is read: the record, its close stamp and seconds, and its derived figures. -/
structure ShiftView where
  shift : Shift
  closed : Option Nat
  seconds : Nat
  spindleCount : Nat
  derived : Derived
  deriving DecidableEq, Repr, Inhabited

/-- R170, R171: the open shift as read now. -/
def openView (s : State) : ShiftView :=
  { shift := { s.shift with categories := categoriesRead s, segments := segmentsRead s }
    closed := none
    seconds := s.delivery.now - s.shift.openSecond
    spindleCount := spindleCount s
    derived := openDerived s }

/-- R170: a closed shift as stored. -/
def closedView (c : ClosedShift) : ShiftView :=
  { shift := c.shift, closed := some c.closeStamp, seconds := c.duration, spindleCount := c.spindleCount, derived := c.derived }

/-- R170: the record of an index. -/
def shiftView (s : State) (index : Nat) : Option ShiftView :=
  match index with
  | 0 => some (openView s)
  | k + 1 => (s.ring[k]?).map closedView

/-- R211, part 1. -/
def partIdentity (v : ShiftView) : List Byte :=
  field 2 v.shift.number ++
    field 1 ((if v.shift.interrupted then 1 else 0) + (if v.shift.clockUnset then 2 else 0) + (if v.closed.isSome then 4 else 0)) ++
    field 4 v.shift.openStamp ++ field 4 (v.closed.getD 0) ++ field 4 v.seconds ++ field 2 v.spindleCount ++
    field 2 v.shift.restarts ++ field 1 v.shift.segments.length

/-- R211, part 2. -/
def partTimes (v : ShiftView) : List Byte :=
  let c := v.shift.categories
  field 6 c.running ++ field 6 c.settling ++ field 6 c.broken ++ field 6 c.piecing ++ field 6 c.waitRoving ++ field 6 c.locked ++
    field 6 c.stopped ++ field 6 c.withheld

/-- R211, part 3. -/
def partBreaks (v : ShiftView) : List Byte :=
  let b := v.shift.breaks
  let p := v.shift.piecing
  field 4 b.yarn ++ field 4 b.start ++ field 4 b.notHeld ++ field 4 b.noStart ++ field 4 b.rovingOut ++ field 4 v.shift.handPieced ++
    field 4 p.issued ++ field 4 p.pieced ++ field 4 p.failed ++ field 4 p.notReached ++ field 4 p.cancelled ++ field 4 p.timedOut

/-- R211, part 4. -/
def partOutput (v : ShiftView) : List Byte :=
  field 4 v.shift.doffs ++ field 4 v.shift.cops ++ field 4 v.shift.shortCops ++ field 4 v.shift.changes ++ field 4 v.shift.residue

/-- R211, part 5. -/
def partDerived (v : ShiftView) : List Byte :=
  let d := v.derived
  field 1
      ((if d.spindleEfficiency.isSome then 1 else 0) + (if d.frameEfficiency.isSome then 2 else 0) +
        (if d.breakRate.isSome then 4 else 0)) ++
    field 6 d.totalLength ++ field 6 d.totalMass ++ field 2 (d.spindleEfficiency.getD 0) ++ field 2 (d.frameEfficiency.getD 0) ++
    field 4 (d.breakRate.getD 0)

/-- R211, parts 6 to 9: the segment of place `i` (from 0). -/
def partSegment (v : ShiftView) (i : Nat) (g : Segment) : List Byte :=
  field 2 g.lot ++ field 2 g.t ++ field 6 g.pulses ++ field 6 (v.derived.segmentLengths.getD i 0) ++
    field 6 (v.derived.segmentMasses.getD i 0)

/-- R170, R211: the parts of a record from `first` on, each opened by its part number. -/
def shiftParts (v : ShiftView) (first : Nat) : List (List Byte) :=
  let fixed : List (Nat × List Byte) :=
    [(1, partIdentity v), (2, partTimes v), (3, partBreaks v), (4, partOutput v), (5, partDerived v)]
  let segments : List (Nat × List Byte) := v.shift.segments.zipIdx.map fun (g, i) => (6 + i, partSegment v i g)
  ((fixed ++ segments).filter fun x => first ≤ x.1).map fun x => field 1 x.1 ++ x.2

/-- R170, R211: the Read Shift reply. -/
def readShiftBody (s : State) (index first : Nat) (v : ShiftView) : List Byte :=
  let items := shiftParts v first
  let k := fitCount (s.settings.working.replyLimit - 5) items
  outcomeByte .ok ++ field 1 index ++ field 2 v.shift.number ++ flag (k < items.length) ++ (items.take k).flatten

/-! ## Faults, notices, settings, zones (R174, R183, R193, R198) -/

/-- R193: one class as read; severities are coded SERIOUS 0, MINOR 1, in the order of R188. -/
def faultClassBytes (s : State) (c : FaultClass) : List Byte :=
  flag (s.faults.status.getLsbD c.bit) ++ field 4 (s.faults.counts.getD c.bit 0) ++ flag (s.settings.working.masks.getLsbD c.bit) ++
    field 1 (if s.settings.working.severities.getLsbD c.bit then 0 else 1)

/-- R208: the first-fault record as read. -/
def firstFaultBytes (f : FirstFault) : List Byte :=
  field 1 (f.cls.bit + 1) ++ field 4 f.stamp ++ subjectBytes f.subject ++ detailBytes f.detail

/-- R193: the Read Faults reply. -/
def faultsBody (s : State) : List Byte :=
  outcomeByte .ok ++ allFaultClasses.flatMap (faultClassBytes s) ++ optional s.faults.first firstFaultBytes ++ flag s.faults.alarm

/-- R198: the queue in fetch order: CRITICAL, then WARNING, then INFO, each oldest first. -/
def fetchOrder (q : List Notice) : List Notice :=
  (q.filter fun n => n.level == .critical) ++ (q.filter fun n => n.level == .warning) ++ (q.filter fun n => n.level == .info)

/-- R198: how many notices a fetch returns. -/
def fetchCount (s : State) (limit : Nat) : Nat :=
  let fit := (s.settings.working.replyLimit - 4) / 15
  min s.notices.queue.length (if limit = 0 then fit else min limit fit)

/-- The notices of the queue with the first `c` CRITICAL, `w` WARNING and `i` INFO ones marked as returned. -/
def markFetched (c w i : Nat) : List Notice → List Notice
  | [] => []
  | n :: rest =>
    match n.level with
    | .critical =>
      match c with
      | 0 => n :: markFetched 0 w i rest
      | k + 1 => { n with fetched := true } :: markFetched k w i rest
    | .warning =>
      match w with
      | 0 => n :: markFetched c 0 i rest
      | k + 1 => { n with fetched := true } :: markFetched c k i rest
    | .info =>
      match i with
      | 0 => n :: markFetched c w 0 rest
      | k + 1 => { n with fetched := true } :: markFetched c w k rest

/-- R198: the queue with the `k` notices first in fetch order marked as returned. -/
def markFirst (k : Nat) (q : List Notice) : List Notice :=
  let c := min k (q.filter fun n => n.level == .critical).length
  let w := min (k - c) (q.filter fun n => n.level == .warning).length
  markFetched c w (k - c - w) q

/-- R198, R210: the Fetch Notices reply. -/
def fetchBody (s : State) (limit : Nat) : List Byte :=
  let k := fetchCount s limit
  outcomeByte .ok ++ field 1 s.notices.lost ++ field 1 k ++ field 1 (s.notices.queue.length - k) ++
    ((fetchOrder s.notices.queue).take k).flatMap noticeBytes

/-- R208: bytes of the value of a settings field: four for a figure in seconds, and otherwise the fewest that hold its range (assumption
log entry 19). -/
def settingWidth (number : Nat) : Nat :=
  match number with
  | 16 | 17 | 20 | 21 | 25 | 27 | 29 => 4
  | 3 | 5 | 6 | 7 | 8 | 9 | 10 | 12 | 14 | 33 | 34 => 2
  | _ => 1

/-- R183: the value of a field of the named copy; from WORKING, fields 1 to 11 give what is in force. -/
def settingValue (s : State) (retained : Bool) (number : Nat) : Nat :=
  if retained then s.settings.retained.get number
  else
    match number with
    | 1 => s.delivery.sides
    | 2 => s.delivery.sectors
    | 3 => s.delivery.d
    | 4 => s.delivery.p
    | _ => if number ≤ 11 then s.doff.lot.get number else s.settings.working.get number

/-- R183: the Read Settings reply. -/
def settingsBody (s : State) (retained : Bool) (first : Nat) : List Byte :=
  pagedBody s [] ((span first 34).map fun k => field 1 k ++ field (settingWidth k) (settingValue s retained k))

/-- R174: a zone record as read. -/
def zoneBytes (z : Zone) : List Byte := flag z.enabled ++ field 1 (anchorCode z.anchor) ++ field 1 z.extent ++ flag z.complement

/-- R174, R208: the withheld set of a side as a bitmap, bit 0 for the side's first sector. -/
def withheldBits (s : State) (side : Side) : Nat :=
  ((sectorsOfSide s side).map fun k => if s.zones.withheld.contains k then 2 ^ (k - firstSector s side) else 0).sum

/-- R174: the Read Zones reply. -/
def zonesBody (s : State) (side : Side) : List Byte :=
  let pair := s.zones.records.ofSide side
  outcomeByte .ok ++ zoneBytes pair.1 ++ zoneBytes pair.2 ++ field ((s.delivery.sectors + 7) / 8) (withheldBits s side)

end Sys2Proof.Machine
end

