-- ==== Sys2Proof/Machine/Resets.lean ====
section
/-! DEFINITION. Power-on reset (R186 and the reset rule of each chapter), the loss of power, and the making of Restart (R207). -/

namespace Sys2Proof.Machine

open Sys2Proof

/-! ## Power-on reset -/

/-- R186: what the store gives at power-on: the newest valid image, or the defaults. -/
def loadedImage (st : Store) : Image :=
  match newestCopy st with
  | some (_, image) => image
  | none => defaultImage

/-- R47, R48: the state the zones and the drive give a spindle at a reset. -/
def rebuiltState (withheld : List Nat) (driving : Bool) (now n : Nat) : SpindleState :=
  if withheld.contains (sectorOf n) then .withheld else if driving then .settling .driveStart now else .idle

/-- R21, R47: a spindle's record after power-on reset. -/
def spindleAtPowerOn (withheld : List Nat) (driving : Bool) (n : Nat) : Spindle :=
  freshSpindle (rebuiltState withheld driving 0 n) (engagedOnEntry (rebuiltState withheld driving 0 n))

/-- R3 to R9: the delivery counter after power-on reset. -/
def deliveryAtPowerOn (r : Retained) (driving : Bool) : Delivery :=
  { sides := r.sides, sectors := r.sectors, d := r.d, p := r.p, phi := 0, now := 0, mill := 0, clockSet := false,
    driving := driving, pulseTimer := if driving then some r.working.pulseLossTime else none, pulseLost := false }

/-- R27: the drowse timer and state right after power-on reset or Restart. -/
def drowseAtReset (driving : Bool) (delay now : Nat) : Drowse :=
  { timer := if driving || delay == 0 then none else some (now + delay), deferred := false, drowsing := false }

/-- R156: the doff sequencer after power-on reset. -/
def doffAtPowerOn (r : Retained) (dl : Delivery) (dofferActive : Bool) : Doff :=
  Doff.computed
    { phase := .spinning, phiD := 0, dPulses := 0, wPulses := 0, overrun := 0, rwPulses := 0, hold := false, overdue := false,
      number := 0, lot := r.lot, pendingLot := none, log := [], dofferActive := dofferActive, request := false, clear := false }
    dl r.working

/-- R169: the number of the shift opened at power-on. -/
def shiftNumberAtPowerOn (ring : List ClosedShift) : Nat :=
  match ring with
  | [] => 1
  | c :: _ => nextShiftNumber c.shift.number

/-- R199: the fault unit before the store is loaded. -/
def clearedFaults : Faults := { status := 0#11, counts := List.replicate 11 0, first := none, alarm := false }

/-- R186: every block at its reset state, with an image loaded from a store that is idle. -/
def blocksAtPowerOn (image : Image) (store : Store) (address speed : Nat) (driving dofferActive : Bool) (pending : List Instr) :
    State :=
  let r := image.settings
  let withheld := withheldSet image.zones r.sides r.sectors
  let dl := deliveryAtPowerOn r driving
  { powered := true
    pending := pending
    emitted := []
    delivery := dl
    railA := freshRail r.sectors
    railB := freshRail (if r.sides = 2 then r.sectors else 0)
    drowse := drowseAtReset driving r.working.drowseDelay 0
    spindles := (List.range' 1 (Config.sectorSpindles * (r.sides * r.sectors))).map (spindleAtPowerOn withheld driving)
    lamps := List.replicate (r.sides * r.sectors) freshLamp
    listA := []
    listB := []
    car1 := freshCarriage
    car2 := freshCarriage
    carDiscards := 0
    locks := List.replicate (r.sides * r.sectors) freshLock
    planner := freshPlanner
    doff := doffAtPowerOn r dl dofferActive
    shift := freshShift (shiftNumberAtPowerOn image.ring) 0 0 true true r.lot
    ring := image.ring
    zones := { records := image.zones, withheld := withheld }
    settings := { working := r.working, retained := r }
    store := store
    faults := clearedFaults
    notices := { latches := 0#6, queue := [], lost := 0, latchedSince := 0#6, lostSince := 0 }
    line :=
      { address := address, speed := speed, receiver := .hunting, reply := none, discardedFrames := 0, badRequests := 0,
        cursor := 1 } }

/-- R186, R199: power-on reset from a store: STORE_INVALID and the write of the default image where no copy is valid. -/
def powerOn (store : Store) (address speed : Nat) (driving dofferActive : Bool) (pending : List Instr) : State :=
  let idle := store.cutOff
  let s := blocksAtPowerOn (loadedImage idle) idle address speed driving dofferActive pending
  match newestCopy idle with
  | some _ => s
  | none => beginWrite (raiseFault .storeInvalid .none .none s)

/-- POWER_LOSS, R185: a board without power: only the retained store (and the queue of commands) is left. -/
def powerOff (s : State) : State :=
  { (default : State) with powered := false, pending := s.pending, store := s.store.cutOff }

/-! ## Restart (R207) -/

/-- R98: one record at Restart: REFUSE with reason RESTARTED to its station, and the record ABSENT. -/
def refuseAtRestart (record : RecordNo) (s : State) : State :=
  match (carriage s record).link.station? with
  | none => s
  | some st => updCarriage record Carriage.absented (emit (.carriage st.number (.refuse .restarted)) s)

/-- R110: a lock record after Restart. -/
def Lock.restarted (l : Lock) : Lock :=
  match l.holder with
  | .carriage _ (some _) => { l.pass .transport with carryOver := 0 }
  | .carriage _ none => l.pass .free
  | _ => l

/-- R110, R133: the carriage-held locks released at Restart; a claim that waited is granted. -/
def releaseAtRestart (s : State) : State :=
  let s1 := { s with locks := s.locks.map Lock.restarted }
  if s.locks.any fun l => l.claim.isSome then plannerGranted s1 else s1

/-- R48: a spindle's record rebuilt at Restart, after its settle; no rebuilt state is RUNNING, so the pulse mark is absent (R31). -/
def Spindle.rebuilt (sp : Spindle) (st : SpindleState) : Spindle :=
  { sp with
    state := st, pulseMark := none, streak := 0, attempts := 0, failures := 0, breakRing := [], unlisted := false, withholdPending := false,
    stopEngaged := engagedOnEntry st }

/-- R48: every spindle rebuilt from the zones in force and the level of drive running. -/
def rebuildSpindles (s : State) : State :=
  { s with
    spindles :=
      s.spindles.zipIdx.map fun (sp, i) =>
        sp.rebuilt (rebuiltState s.zones.withheld s.delivery.driving s.delivery.now (i + 1)) }

/-- R30: a rail at Restart. -/
def Rail.restarted (r : Rail) : Rail := { freshRail r.heads.length with discarded := r.discarded }

/-- R9, R27, R30, R46, R71: rails, drowse, lamps, lists and pulse-loss detection at Restart. -/
def resetSensing (s : State) : State :=
  { s with
    delivery :=
      { s.delivery with
        pulseLost := false
        pulseTimer :=
          if s.delivery.driving then some (s.delivery.now + s.settings.working.pulseLossTime) else none }
    railA := s.railA.restarted
    railB := s.railB.restarted
    drowse := drowseAtReset s.delivery.driving s.settings.working.drowseDelay s.delivery.now
    lamps := s.lamps.map fun _ => freshLamp
    listA := []
    listB := [] }

/-- R115, R118: the entries of groups that are wholly withheld removed from the roving call list. -/
def dropWithheldCalls (s : State) : State :=
  updPlanner (fun p => { p with calls := p.calls.filter fun c => !whollyWithheld s c.group }) s

/-- R115, R118, R133: the planner after the spindles have been rebuilt: a group that the rebuild left wholly withheld loses its entry
(assumption log entry 43), and the call-point list is emptied and built again. -/
def rebuildPoints (s : State) : State :=
  evaluateGroups (allGroups s) (updPlanner (fun p => { p with points := [] }) (dropWithheldCalls s))

/-- R157: the doff sequencer's part of Restart. -/
def doffAtRestart (s : State) : State :=
  match s.doff.phase with
  | .called call => if s.delivery.driving then s else enterParking call s
  | .parking _ => testClear s
  | _ => s

/-- R173, R207: the restart count and the receiver. -/
def countRestart (s : State) : State :=
  { s with
    shift := { s.shift with restarts := satAdd Config.top16 s.shift.restarts 1 }
    line := { s.line with receiver := .hunting } }

/-- R207: Restart made, as one event of every block. The levels of drive running and doffer active are those held (assumption log
entry 26); REFUSE goes to record 1 before record 2 (entry 39); a DOFFING entered here counts its cops after the spindles have been
rebuilt (entry 45). -/
def makeRestart (s : State) : State :=
  let s1 := refuseAtRestart .two (refuseAtRestart .one (settleAll s))
  let s2 := releaseAtRestart s1
  let s3 := rebuildPoints (resetSensing (rebuildSpindles s2))
  doffAtRestart (countRestart s3)

end Sys2Proof.Machine
end

