-- ==== Sys2Proof/Machine/LineOps.lean ====
section
/-! DEFINITION. Shared operations of the line interface (R200 to R203, R207): what an arriving frame does to a waiting reply, the
checks of a request, and the sending of a reply. -/

namespace Sys2Proof.Machine

open Sys2Proof

/-- The line interface's record changed. -/
def updLine (f : Line → Line) (s : State) : State := { s with line := f s.line }

/-- R200: the receiver takes bytes: it is HUNTING or in a frame. -/
def Receiver.takes (r : Receiver) : Bool :=
  match r with
  | .hunting => true
  | .inFrame => true
  | .resync => false
  | .replying => false

/-- R201: a bad request counted. -/
def countBadRequest (s : State) : State :=
  updLine (fun l => { l with badRequests := satAdd Config.top16 l.badRequests 1 }) s

/-- R200: a frame discarded: counted, and the receiver enters RESYNC. -/
def discardFrame (s : State) : State :=
  updLine (fun l => { l with discardedFrames := satAdd Config.top16 l.discardedFrames 1, receiver := .resync }) s

/-- R198: notices no longer marked as standing in a reply. -/
def unmarkNotices (s : State) : State :=
  { s with notices := { s.notices with queue := s.notices.queue.map fun n => { n with fetched := false } } }

/-- R207: the Restart that a reply brings about. -/
def restartOf (effect : ReplyEffect) (s : State) : State :=
  match effect with
  | .restart => makeRestart s
  | _ => s

/-- R201, R207: a reply that has not begun is withheld: it has none of the effects of its sending, and a Restart is made. -/
def withholdReply (s : State) : State :=
  match s.line.reply with
  | none => s
  | some r => restartOf r.effect (updLine (fun l => { l with reply := none }) (unmarkNotices s))

/-- R200, R201: bytes of a frame arrive: received unless the unit is in RESYNC or REPLYING, and a reply that has not begun is
withheld by them (assumption log entries 6 and 7). -/
def receive (act : State → State) (s : State) : State :=
  if s.line.receiver.takes then act (withholdReply s) else s

/-- R200: the receiver back in HUNTING. -/
def hunt (s : State) : State := updLine (fun l => { l with receiver := .hunting }) s

/-- R201: what a block gives for a request: the body of the reply, what its sending brings about, and the state. -/
structure Answer where
  body : List Byte
  effect : ReplyEffect
  state : State
  deriving DecidableEq, Repr, Inhabited

/-- R201, R202: a request refused: the outcome alone, and nothing changed. -/
def refuse (o : RequestOutcome) (s : State) : Answer := { body := outcomeByte o, effect := .none, state := s }

/-- A request taken with outcome OK and no further body. -/
def taken (s : State) : Answer := { body := outcomeByte .ok, effect := .none, state := s }

/-- A reading, which changes nothing. -/
def reading (body : List Byte) (s : State) : Answer := { body := body, effect := .none, state := s }

/-- R202: a request taken, CLAMPED where some field was. -/
def takenClamped (fields : List Nat) (s : State) : Answer :=
  { body := if fields.isEmpty then outcomeByte .ok else clampedBody fields, effect := .none, state := s }

/-- R201: the reply of an answer waits to be sent. -/
def hold (kind : Nat) (a : Answer) : State :=
  updLine (fun l => { l with reply := some { kind := kind, body := a.body, effect := a.effect }, receiver := .hunting }) a.state

/-- R201: a request from the unit's own address: its length is checked, and its block answers. A unit strapped to address 0 takes no
addressed request (R187). -/
def takeRequest (kind : Nat) (lengthOk : Bool) (answer : State → Answer) (s : State) : State :=
  receive
    (fun t =>
      if t.line.address = 0 then hunt t
      else if lengthOk then hold kind (answer t)
      else hold kind (refuse .badLength (countBadRequest t)))
    s

/-- R203: a broadcast that is honoured when its length is right, and otherwise ignored and counted. -/
def takeBroadcast (lengthOk : Bool) (act : State → State) (s : State) : State :=
  receive (fun t => hunt (if lengthOk then act t else countBadRequest t)) s

/-- R195, R198, R204: what takes place when the first byte of a reply goes onto the line. A latch set again since the Status reply was
built stays set, and a notice lost since the Fetch Notices reply was built stays counted for the next one (assumption log entry 18). -/
def applySending (effect : ReplyEffect) (s : State) : State :=
  match effect with
  | .none => s
  | .fetch =>
    { s with
      notices := { s.notices with queue := s.notices.queue.filter fun n => !n.fetched, lost := s.notices.lostSince } }
  | .latches reported =>
    { s with
      notices := { s.notices with latches := s.notices.latches &&& ~~~(reported &&& ~~~s.notices.latchedSince) } }
  | .cursor next => updLine (fun l => { l with cursor := next }) s
  | .restart => s

/-- R201, R208: a reply begun: its frame goes onto the line, its effects take place, and the receiver is REPLYING. -/
def beginReply (r : Reply) (s : State) : State :=
  updLine (fun l => { l with receiver := .replying })
    (applySending r.effect (emit (.frame (frameOf s.line.address (r.kind + 0x80) r.body)) s))

/-- R200, R207: a reply sent whole: the receiver is HUNTING, and a Restart is made. -/
def endReply (s : State) : State :=
  let s1 := updLine (fun l => { l with receiver := .hunting, reply := none }) s
  match s.line.reply with
  | none => s1
  | some r => restartOf r.effect s1

/-! ## How a command acts -/

/-- A command taken by a powered board: what the command before sent is no longer on the links, and the command acts. A board without
power takes nothing (assumption log entries 9 and 30). -/
def live (act : State → State) (s : State) : Host.Outcome State Fault Refusal :=
  .next (if s.powered then act { s with emitted := [] } else s)

end Sys2Proof.Machine
end

