-- ==== Sys2Proof/Machine/ClockDrive.lean ====
section
/-! DEFINITION. Commands of the supply, the clocks and the drive: POWER_ON_RESET, POWER_LOSS, RUN_SECOND, FRONT_ROLLER_PULSE,
DRIVE_RUNNING_RISE, DRIVE_RUNNING_FALL, PULSE_LOSS. -/

namespace Sys2Proof.Machine

open Sys2Proof

/-- The delivery counter's record changed. -/
def updDelivery (f : Delivery → Delivery) (s : State) : State := { s with delivery := f s.delivery }

/-! ## Clocks and odometer -/

/-- R6, R7: one second on both clocks. The mill clock goes on where the run-seconds clock has stopped at its top (assumption log
entry 36). -/
def Delivery.second (dl : Delivery) : Delivery :=
  { dl with now := satAdd Config.top32 dl.now 1, mill := (dl.mill + 1) % 4294967296 }

/-- R4: one pulse on the odometer. -/
def Delivery.pulse (dl : Delivery) : Delivery := { dl with phi := satAdd Config.top48 dl.phi 1 }

/-- R9: a pulse seen by pulse-loss detection. -/
def pulseSeen (s : State) : State :=
  if s.delivery.driving then
    let s1 :=
      updDelivery
        (fun dl => { dl with pulseLost := false, pulseTimer := some (dl.now + s.settings.working.pulseLossTime) }) s
    if s.delivery.pulseLost then raiseNotice .pulseResumed .info .none .none s1 else s1
  else s

/-- R4, R5, R9: a front-roller pulse: odometer, pulse-loss detection, the doff sequencer's points, the planner's points (assumption
log entry 35). -/
def rollerPulse (s : State) : State := reachPoints (doffPoints (pulseSeen (updDelivery Delivery.pulse s)))

/-! ## Edges of drive running -/

/-- R29: the heads of a rail after a wake. -/
def Head.woken (h : Head) : Head := { h with state := .settlingHead Config.discardStart, misses := 0 }

/-- R29: a rail woken: from ASLEEP at head 1, from a sleep round at its poll position, and unchanged otherwise. -/
def Rail.wake (r : Rail) : Rail :=
  if !r.awake then { r with awake := true, sleepRound := false, position := 1, heads := r.heads.map Head.woken }
  else if r.sleepRound then { r with sleepRound := false, heads := r.heads.map Head.woken }
  else r

/-- R37: an IDLE spindle at a rise of drive running. -/
def startSpindle (n : Nat) (s : State) : State :=
  match (spindle s n).state with
  | .idle => enterState n (.settling .driveStart s.delivery.now) s
  | _ => s

/-- R38: a RUNNING or SETTLING spindle at a fall of drive running. -/
def stopSpindle (n : Nat) (s : State) : State :=
  match (spindle s n).state with
  | .running => enterState n .idle s
  | .settling _ _ => enterState n .idle s
  | _ => s

/-- R8, R9, R29: the level, the pulse-loss timer, the rails and drowse at a rise. -/
def assertDrive (s : State) : State :=
  { s with
    delivery :=
      { s.delivery with
        driving := true, pulseTimer := some (s.delivery.now + s.settings.working.pulseLossTime) }
    railA := s.railA.wake
    railB := s.railB.wake
    drowse := { timer := none, deferred := false, drowsing := false } }

/-- R8, R37, R81: a rise of drive running. -/
def driveRise (s : State) : State :=
  let s1 := assertDrive (settleAll s)
  attemptBoth ((allSpindles s1).foldl (fun acc n => startSpindle n acc) s1)

/-- R8, R9, R27: the level, pulse-loss detection and the drowse delay at a fall. -/
def dropDrive (s : State) : State :=
  { s with
    delivery := { s.delivery with driving := false, pulseTimer := none, pulseLost := false }
    drowse := drowseAtReset false s.settings.working.drowseDelay s.delivery.now }

/-- R141: the doff sequencer at a fall of drive running. -/
def doffAtFall (s : State) : State :=
  match s.doff.phase with
  | .called call => enterParking call s
  | _ => s

/-- R8, R38, R141: a fall of drive running. -/
def driveFall (s : State) : State :=
  let s1 := dropDrive (settleAll s)
  doffAtFall ((allSpindles s1).foldl (fun acc n => stopSpindle n acc) s1)

/-- R9: expiry of the pulse-loss timer. -/
def losePulses (s : State) : State :=
  if expired s.delivery.pulseTimer s.delivery.now then
    raiseFault .pulseLoss .none .none (updDelivery (fun dl => { dl with pulseLost := true, pulseTimer := none }) s)
  else s

/-! ## Meanings -/

/-- POWER_ON_RESET (R186): power is applied. On a powered board it is a power cycle (assumption log entry 10). -/
def execPowerOnReset (address speed : Nat) (driving dofferActive : Bool) (s : State) : Host.Outcome State Fault Refusal :=
  .next (powerOn s.store address speed driving dofferActive s.pending)

/-- POWER_LOSS (R185): all state but the retained store is lost. -/
def execPowerLoss (s : State) : Host.Outcome State Fault Refusal := .next (powerOff s)

/-- RUN_SECOND (R6). -/
def execRunSecond (s : State) : Host.Outcome State Fault Refusal := live (updDelivery Delivery.second) s

/-- FRONT_ROLLER_PULSE (R4). -/
def execFrontRollerPulse (s : State) : Host.Outcome State Fault Refusal := live rollerPulse s

/-- DRIVE_RUNNING_RISE (R8). -/
def execDriveRunningRise (s : State) : Host.Outcome State Fault Refusal :=
  live (fun t => if t.delivery.driving then t else driveRise t) s

/-- DRIVE_RUNNING_FALL (R8). -/
def execDriveRunningFall (s : State) : Host.Outcome State Fault Refusal :=
  live (fun t => if t.delivery.driving then driveFall t else t) s

/-- PULSE_LOSS (R9). -/
def execPulseLoss (s : State) : Host.Outcome State Fault Refusal := live losePulses s

end Sys2Proof.Machine
end

