-- ==== Sys2Proof/Machine/Rails.lean ====
section
/-! DEFINITION. Commands of the sensing rails and of the spindle table's timers (chapter 2): HEAD_POLL, POLL_ANSWER,
ANSWER_WAIT_EXPIRY, DROWSE_DELAY_EXPIRY, SLEEP_POLL, SETTLE_LIMIT_REACHED, LAMP_HOLD_EXPIRY. -/

namespace Sys2Proof.Machine

open Sys2Proof

/-! ## Polls (R22, R28) -/

/-- R22: the poll position after head `h` of a rail of `n` heads. -/
def nextHead (n h : Nat) : Nat := if n ≤ h then 1 else h + 1

/-- R22: the roving stops a poll carries, in position order. -/
def stopsOf (s : State) (sector : Nat) : List Bool := (spindlesOfSector sector).map fun n => (spindle s n).stopEngaged

/-- R22: the head at the poll position of a rail. -/
def Rail.due (r : Rail) : Head := nth r.heads r.position freshHead

/-- R22: an ordinary poll of a rail that is AWAKE, in no sleep round and with no poll in flight. -/
def pollHead (side : Side) (s : State) : State :=
  let r := railOf s side
  if sideConfigured s side && r.awake && !r.sleepRound && r.inFlight.isNone && r.due.state != .asleep then
    let sector := sectorOfHead s side r.position
    updRail side (fun x => { x with inFlight := some x.position, position := nextHead x.heads.length x.position })
      (emit (.poll side r.position (stopsOf s sector) (lampOf s sector).state false) s)
  else s

/-- R28: a rail after its sleep poll. -/
def Rail.sleepPolled (r : Rail) : Rail :=
  let heads := modifyNth r.heads r.position fun h => { h with state := .asleep }
  if r.heads.length ≤ r.position then { r with heads := heads, awake := false, sleepRound := false, position := 1 }
  else { r with heads := heads, position := r.position + 1 }

/-- R28: a poll of a sleep round, once the poll in flight is finished. It awaits no answer (assumption log entry 15). -/
def sleepPoll (side : Side) (s : State) : State :=
  let r := railOf s side
  if sideConfigured s side && r.awake && r.sleepRound && r.inFlight.isNone then
    updRail side Rail.sleepPolled
      (emit (.poll side r.position (stopsOf s (sectorOfHead s side r.position)) .off true) s)
  else s

/-! ## Outcomes of a poll (R23 to R26) -/

/-- The head `h` of a side's rail changed. -/
def updHead (side : Side) (h : Nat) (f : Head → Head) (s : State) : State :=
  updRail side (fun r => { r with heads := modifyNth r.heads h f }) s

/-- The head `h` of a side's rail. -/
def headAt (s : State) (side : Side) (h : Nat) : Head := nth (railOf s side).heads h freshHead

/-- R25: the head is ACTIVE or SETTLING-HEAD, from which it can fall SILENT. -/
def HeadState.canFallSilent (st : HeadState) : Bool :=
  match st with
  | .active => true
  | .settlingHead _ => true
  | .silent => false
  | .asleep => false

/-- R23: a head's miss count after a miss. -/
def Head.missed (h : Head) : Head := { h with misses := satAdd Config.missLimit h.misses 1 }

/-- R25: a head that has become SILENT. -/
def Head.silenced (h : Head) : Head := { h with state := .silent, returnMark := true }

/-- R23: a miss counted on the rail. -/
def countMiss (side : Side) (s : State) : State :=
  updRail side (fun r => { r with discarded := satAdd Config.top16 r.discarded 1 }) s

/-- R23, R25: a miss of head `h`. -/
def missPoll (side : Side) (h : Nat) (s : State) : State :=
  let s1 := updHead side h Head.missed (countMiss side s)
  if (headAt s1 side h).state.canFallSilent && Config.missLimit ≤ (headAt s1 side h).misses then
    raiseFault .headSilent (.sector (sectorOfHead s side h)) .none (updHead side h Head.silenced s1)
  else s1

/-- R26: a spindle whose head enters ACTIVE: streak 0, and the settle start of a SETTLING spindle renewed. -/
def Spindle.sensed (sp : Spindle) (now : Nat) : Spindle :=
  { sp with
    streak := 0
    state :=
      match sp.state with
      | .settling o _ => .settling o now
      | other => other }

/-- R26: head `h` enters ACTIVE. -/
def activateHead (side : Side) (h : Nat) (s : State) : State :=
  let sector := sectorOfHead s side h
  let marked := (headAt s side h).returnMark
  let s1 := updHead side h (fun x => { x with state := .active, returnMark := false }) s
  let s2 := (spindlesOfSector sector).foldl (fun acc n => updSpindle n (fun sp => sp.sensed s.delivery.now) acc) s1
  if marked then raiseNotice .headBack .info (.sector sector) .none s2 else s2

/-! ## Accepted reports (R32, R39, R41, R43) -/

/-- R32: the report a spindle's state awaits: yarn present (true), yarn absent (false), or none. -/
def SpindleState.awaits (st : SpindleState) : Option Bool :=
  match st with
  | .settling _ _ => some true
  | .broken _ _ => some true
  | .waitRoving _ => some true
  | .running => some false
  | .idle => none
  | .piecing _ _ => none
  | .locked _ => none
  | .withheld => none

/-- R41: the cause of a break confirmed at a RUNNING spindle. -/
def breakCauseOf (s : State) (n : Nat) : BreakCause :=
  if rovingOut s n then .rovingOut
  else
    match s.doff.phase with
    | .restarting => .start
    | _ => .yarn

/-- R43: one hand piecing counted in the open shift. -/
def countHandPieced (s : State) : State :=
  { s with shift := { s.shift with handPieced := satAdd Config.top32 s.shift.handPieced 1 } }

/-- R39, R41, R43: what a streak at or above its count brings about. The refill and the dispatch come when every spindle of the report
has been changed (R55, `acceptReport`). -/
def actOnStreak (n : Nat) (s : State) : State :=
  let sp := spindle s n
  let w := s.settings.working
  match sp.state with
  | .settling _ _ => if w.settleCount ≤ sp.streak then enterState n .running s else s
  | .running => if w.breakConfirm ≤ sp.streak then breakSpindle n (breakCauseOf s n) s else s
  | .broken _ _ => if w.settleCount ≤ sp.streak then leaveBroken n (settlingOrIdle s .hand) (countHandPieced s) else s
  | .waitRoving _ => if w.settleCount ≤ sp.streak then enterState n (settlingOrIdle s .hand) (countHandPieced s) else s
  | _ => s

/-- R32: an accepted report of one spindle. -/
def reportSpindle (n : Nat) (present : Bool) (s : State) : State :=
  match (spindle s n).state.awaits with
  | none => s
  | some kind =>
    if present = kind then
      actOnStreak n (updSpindle n (fun sp => { sp with streak := satAdd Config.topStreak sp.streak 1 }) s)
    else updSpindle n (fun sp => { sp with streak := 0 }) s

/-- R23, R32: the spindles of a sector changed by an accepted report, in ascending order (assumption log entry 11). -/
def reportEach (sector : Nat) (present : PresenceFlags) (s : State) : State :=
  (spindlesOfSector sector).foldl (fun acc n => reportSpindle n (present.getLsbD (positionOf n - 1)) acc) s

/-- R55, R81: a side's list has an entry of a spindle that was not listed in `before`. -/
def newlyListed (before s : State) (side : Side) : Bool := (pieceList s side).any fun e => !listed before e.spindle

/-- R23, R55, R81: an accepted report of a sector: every spindle is changed first, then the places freed are refilled together, and
dispatch is attempted once where an entry was made (assumption log entry 37). -/
def acceptReport (sector : Nat) (present : PresenceFlags) (s : State) : State :=
  let side := sideOfSector s sector
  let s1 := refill side (reportEach sector present s)
  if newlyListed s s1 side then attemptSide side s1 else s1

/-- R26: a valid answer of a SETTLING-HEAD head with discard count `k`. -/
def discardReport (side : Side) (h k : Nat) (s : State) : State :=
  if k ≤ 1 then activateHead side h s else updHead side h (fun x => { x with state := .settlingHead (k - 1) }) s

/-- R23, R26: a valid answer of head `h`, dealt with by the head state. -/
def validAnswer (side : Side) (h : Nat) (present : PresenceFlags) (s : State) : State :=
  let s1 := updHead side h (fun x => { x with misses := 0 }) s
  match (headAt s side h).state with
  | .active => acceptReport (sectorOfHead s side h) present s1
  | .settlingHead k => discardReport side h k s1
  | .silent => updHead side h (fun x => { x with state := .settlingHead 1 }) s1
  | .asleep => s

/-- R23: the poll in flight on a side's rail is finished by `act` on its head; nothing happens where none is in flight. -/
def finishPoll (side : Side) (act : Nat → State → State) (s : State) : State :=
  match (railOf s side).inFlight with
  | none => s
  | some h => act h (updRail side (fun r => { r with inFlight := none }) s)

/-! ## Timers (R27, R40, R46) -/

/-- R27: the drowse delay timer expires. -/
def drowseExpiry (s : State) : State :=
  if expired s.drowse.timer s.delivery.now then
    if s.doff.phase.inDoff then { s with drowse := { s.drowse with timer := none, deferred := true } } else takeDrowse s
  else s

/-- R40: the cause of a break by the settle limit. -/
def settleCause (s : State) (n : Nat) (origin : SettleOrigin) : BreakCause :=
  if rovingOut s n then .rovingOut else if origin = .pieced then .notHeld else .noStart

/-- R40: a sensed SETTLING spindle reaches the settle limit. -/
def settleLimit (n : Nat) (s : State) : State :=
  match (spindle s n).state with
  | .settling origin start =>
    if isSpindle s n && !unsensed s n && start + s.settings.working.settleLimit ≤ s.delivery.now then
      confirmBreak n (settleCause s n origin) s
    else s
  | _ => s

/-- R46: a lamp hold timer expires. -/
def lampExpiry (sector : Nat) (s : State) : State :=
  if expired (lampOf s sector).hold s.delivery.now then updLamp sector (fun _ => { state := .off, hold := none }) s else s

/-! ## Meanings -/

/-- HEAD_POLL (R22). -/
def execHeadPoll (side : Side) (s : State) : Host.Outcome State Fault Refusal := live (pollHead side) s

/-- POLL_ANSWER (R23). -/
def execPollAnswer (side : Side) (checkOk headOk : Bool) (present : PresenceFlags) (s : State) :
    Host.Outcome State Fault Refusal :=
  live (finishPoll side fun h => if checkOk && headOk then validAnswer side h present else missPoll side h) s

/-- ANSWER_WAIT_EXPIRY (R23). -/
def execAnswerWaitExpiry (side : Side) (s : State) : Host.Outcome State Fault Refusal :=
  live (finishPoll side fun h => missPoll side h) s

/-- DROWSE_DELAY_EXPIRY (R27). -/
def execDrowseDelayExpiry (s : State) : Host.Outcome State Fault Refusal := live drowseExpiry s

/-- SLEEP_POLL (R28). -/
def execSleepPoll (side : Side) (s : State) : Host.Outcome State Fault Refusal := live (sleepPoll side) s

/-- SETTLE_LIMIT_REACHED (R40). -/
def execSettleLimitReached (n : Nat) (s : State) : Host.Outcome State Fault Refusal := live (settleLimit n) s

/-- LAMP_HOLD_EXPIRY (R46). -/
def execLampHoldExpiry (sector : Nat) (s : State) : Host.Outcome State Fault Refusal := live (lampExpiry sector) s

end Sys2Proof.Machine
end

