-- ==== Sys2Proof/Machine/CarriageLinkCmds.lean ====
section
/-! DEFINITION. Commands of the carriage link and of the carriage controller's timers (chapter 4): ABILITY, POSITION, ARRIVED,
RESULT, PARKED, CARRIAGE_STATUS, CARRIAGE_LINK_DISCARD, ORDER_TIMER_EXPIRY, LINK_LOSS_TIMER_EXPIRY, PARK_TIMER_EXPIRY. -/

namespace Sys2Proof.Machine

open Sys2Proof

/-! ## Messages of a station (R72, R77) -/

/-- R72, R91: a message of a station: discarded where the station holds no record, and otherwise a sign of life that `act` takes. -/
def fromStation (station : Nat) (act : RecordNo → State → State) (s : State) : State :=
  match recordOfStation s station with
  | none => discardCarriage s
  | some record => act record (signOfLife record s)

/-- R78: an ABILITY; one with a station or a revision outside its range is discarded (R72, assumption log entry 23). -/
def takeAbility (station : Nat) (side : Side) (abilities : AbilitySet) (revision : Nat) (s : State) : State :=
  if stationOk station && revision ≤ 255 then
    enrolStation { number := station, abilities := abilities, revision := revision } side (heard station s)
  else discardCarriage (heard station s)

/-- R84, R90: a POSITION of a record. -/
def takePosition (n : Nat) (direction : Direction) (record : RecordNo) (s : State) : State :=
  match (carriage s record).link with
  | .enrolled _ side _ _ _ =>
    if isSpindle s n && sideOf s n == side then
      leaveSuspect record (updCarriage record (fun c => { c with link := c.link.moved n direction }) s)
    else discardCarriage s
  | _ => discardCarriage s

/-- R84: a current ARRIVED. -/
def arriveAt (record : RecordNo) (o : Order) (s : State) : State :=
  if o.arrived then s
  else
    updSpindle o.spindle (fun sp => { sp with stopEngaged := false })
      (updCarriage record (fun c => { c with link := c.link.arrivedAt o }) s)

/-- R72, R75, R89: a message whose tag is not current: late where the tag is one of 0 to 15, and discarded where it is out of its
range. -/
def staleTag (tag : Nat) (record : RecordNo) (s : State) : State :=
  if tag ≤ 15 then countLate record s else discardCarriage s

/-- R72, R84, R89: an ARRIVED of a record. -/
def takeArrived (tag : Nat) (record : RecordNo) (s : State) : State :=
  match (carriage s record).link with
  | .enrolled _ _ _ _ (.busy o) => if o.tag = tag then arriveAt record o s else staleTag tag record s
  | .enrolled _ _ _ _ _ => staleTag tag record s
  | _ => discardCarriage s

/-- R72, R85, R86, R89: a RESULT of a record. -/
def takeResult (tag : Nat) (outcome : OrderOutcome) (record : RecordNo) (s : State) : State :=
  match (carriage s record).link with
  | .enrolled _ _ _ _ (.busy o) => if o.tag = tag then handleResult record o outcome s else staleTag tag record s
  | .enrolled _ _ _ _ _ => staleTag tag record s
  | _ => discardCarriage s

/-- R94: a PARKED of a record. -/
def takeParked (record : RecordNo) (s : State) : State :=
  match (carriage s record).link with
  | .enrolled _ _ _ _ .parking => reachPark record s
  | .enrolled _ _ _ _ (.busy o) =>
    if o.parkPending then reachPark record (handleResult record o .cancelled s) else discardCarriage s
  | .enrolled _ _ _ _ .parked => s
  | _ => discardCarriage s

/-- R77, R90: a STATUS of a record. -/
def takeStatus (record : RecordNo) (s : State) : State :=
  match (carriage s record).link with
  | .enrolled _ _ _ _ _ => leaveSuspect record s
  | _ => discardCarriage s

/-- R72, R91: a message discarded before its kind acts. It is a sign of life where its check passes (assumption log entry 23). -/
def takeDiscard (cause : LinkDiscard) (s : State) : State :=
  match cause with
  | .badCheck => discardCarriage s
  | .unknownKind station => discardCarriage (heard station s)
  | .badField station => discardCarriage (heard station s)

/-! ## Timers (R88, R91, R94) -/

/-- R88: a record's order timer expires. -/
def orderExpiry (record : RecordNo) (s : State) : State :=
  match (carriage s record).link with
  | .enrolled st side _ _ (.busy o) => if o.deadline ≤ s.delivery.now then timeOutOrder record st side o s else s
  | _ => s

/-- R91: a record's link-loss timer expires. -/
def linkLossExpiry (record : RecordNo) (s : State) : State :=
  if expired (carriage s record).linkTimer s.delivery.now then makeAbsent record true s else s

/-- R94: the record is PARKING, or BUSY with park pending. -/
def CarriageLink.awaitsPark (l : CarriageLink) : Bool :=
  match l with
  | .enrolled _ _ _ _ .parking => true
  | .enrolled _ _ _ _ (.busy o) => o.parkPending
  | _ => false

/-- R94: a record's park timer expires. -/
def parkExpiry (record : RecordNo) (s : State) : State :=
  match (carriage s record).link with
  | .enrolled st side _ _ _ =>
    if expired (carriage s record).parkTimer s.delivery.now && (carriage s record).link.awaitsPark then
      raiseFault .parkTimeout (.side side) (.station st.number)
        (updCarriage record (fun c => { c with parkTimer := none }) s)
    else s
  | _ => s

/-! ## Meanings -/

/-- ABILITY (R78). -/
def execAbility (station : Nat) (side : Side) (abilities : AbilitySet) (revision : Nat) (s : State) :
    Host.Outcome State Fault Refusal :=
  live (takeAbility station side abilities revision) s

/-- POSITION (R84). -/
def execPosition (station n : Nat) (direction : Direction) (s : State) : Host.Outcome State Fault Refusal :=
  live (fromStation station (takePosition n direction)) s

/-- ARRIVED (R84). -/
def execArrived (station tag : Nat) (s : State) : Host.Outcome State Fault Refusal :=
  live (fromStation station (takeArrived tag)) s

/-- RESULT (R85). -/
def execResult (station tag : Nat) (outcome : OrderOutcome) (s : State) : Host.Outcome State Fault Refusal :=
  live (fromStation station (takeResult tag outcome)) s

/-- PARKED (R94). -/
def execParked (station : Nat) (s : State) : Host.Outcome State Fault Refusal := live (fromStation station takeParked) s

/-- CARRIAGE_STATUS (R77, R90). -/
def execCarriageStatus (station : Nat) (s : State) : Host.Outcome State Fault Refusal :=
  live (fromStation station takeStatus) s

/-- CARRIAGE_LINK_DISCARD (R72). -/
def execCarriageLinkDiscard (cause : LinkDiscard) (s : State) : Host.Outcome State Fault Refusal := live (takeDiscard cause) s

/-- ORDER_TIMER_EXPIRY (R88). -/
def execOrderTimerExpiry (record : RecordNo) (s : State) : Host.Outcome State Fault Refusal := live (orderExpiry record) s

/-- LINK_LOSS_TIMER_EXPIRY (R91). -/
def execLinkLossTimerExpiry (record : RecordNo) (s : State) : Host.Outcome State Fault Refusal :=
  live (linkLossExpiry record) s

/-- PARK_TIMER_EXPIRY (R94). -/
def execParkTimerExpiry (record : RecordNo) (s : State) : Host.Outcome State Fault Refusal := live (parkExpiry record) s

end Sys2Proof.Machine
end

