-- ==== Sys2Proof/Machine/TransportCmds.lean ====
section
/-! DEFINITION. Commands of the sector locks and of the transport link (chapters 5 and 6): WAIT_LIMIT_EXPIRY, TRANSPORT_ACCEPT,
DECLINE, AT_SECTOR, CHANGED, ABORTED, TRANSPORT_LINK_DISCARD, TRANSPORT_TIMER_EXPIRY, BACK_OFF_EXPIRY. -/

namespace Sys2Proof.Machine

open Sys2Proof

/-- R105: a waiting claim whose wait limit has run. -/
def Claim.pressed (c : Claim) : Claim := { c with urgency := 3, waitLimit := none }

/-- R105: the wait-limit timer of the claim waiting on a sector expires. -/
def waitExpiry (sector : Nat) (s : State) : State :=
  match (lockOf s sector).holder with
  | .carriage record (some c) =>
    if expired c.waitLimit s.delivery.now then
      updLock sector (fun l => { l with holder := .carriage record (some c.pressed) }) s
    else s
  | _ => s

/-- R122, R125: an ACCEPT. -/
def takeAccept (tag : Nat) (s : State) : State :=
  match s.planner.transport with
  | .called c =>
    if c.tag = tag then
      if c.accepted then s else updPlanner (fun p => { p with transport := .called (c.acceptedAt s.delivery.now) }) s
    else discardTransport s
  | _ => discardTransport s

/-- R122, R125: a DECLINE. -/
def takeDecline (tag : Nat) (s : State) : State :=
  match s.planner.transport with
  | .called c =>
    if c.tag = tag then
      updPlanner (fun p => { p with backOff := some (s.delivery.now + Config.backOffTime) }) (relist c false s)
    else discardTransport s
  | _ => discardTransport s

/-- R127: an AT_SECTOR bearing the current tag. -/
def standAtSector (s : State) : State :=
  match s.planner.transport with
  | .called c => claimSector (if c.accepted then c else c.acceptedAt s.delivery.now)
      (updPlanner
        (fun p => { p with transport := .called (if c.accepted then c else c.acceptedAt s.delivery.now) }) s)
  | .waiting c => claimSector c s
  | .changing c => claimSector c s
  | .idle => s

/-- R122, R127: an AT_SECTOR. -/
def takeAtSector (tag : Nat) (s : State) : State :=
  match currentChange s tag with
  | some _ => standAtSector s
  | none => discardTransport s

/-- R129: the group of the last timed-out call, when a late CHANGED with this tag is to be honoured. -/
def lateGroup (s : State) (tag : Nat) : Option Nat :=
  match s.planner.lastTimedOut with
  | some (g, t) => if t = tag ∧ callState s g = .listed then some g else none
  | none => none

/-- R126, R129: a CHANGED. -/
def takeChanged (tag : Nat) (s : State) : State :=
  match currentChange s tag with
  | some c => completeChange c s
  | none =>
    match lateGroup s tag with
    | some g => honourLate g s
    | none => discardTransport s

/-- R128: an ABORTED. -/
def takeAborted (tag : Nat) (s : State) : State :=
  match currentChange s tag with
  | some c => callTest (relist c false (endClaimOfChange s))
  | none => discardTransport s

/-- R129: the transport timer of the active change expires. -/
def transportExpiry (s : State) : State :=
  match s.planner.transport.change with
  | some c =>
    if c.deadline ≤ s.delivery.now then
      let s1 := raiseFault .transportTimeout (.group c.call.group) (.tag c.tag) s
      let s2 := endClaimOfChange (emit (.transport (.cancel c.tag)) s1)
      callTest (relist c true (updPlanner (fun p => { p with lastTimedOut := some (c.call.group, c.tag) }) s2))
    else s
  | none => s

/-- R125: the back-off expires. -/
def backOffExpiry (s : State) : State :=
  if expired s.planner.backOff s.delivery.now then callTest (updPlanner (fun p => { p with backOff := none }) s) else s

/-! ## Meanings -/

/-- WAIT_LIMIT_EXPIRY (R105). -/
def execWaitLimitExpiry (sector : Nat) (s : State) : Host.Outcome State Fault Refusal := live (waitExpiry sector) s

/-- ACCEPT from the transport (R125). -/
def execTransportAccept (tag : Nat) (s : State) : Host.Outcome State Fault Refusal := live (takeAccept tag) s

/-- DECLINE (R125). -/
def execDecline (tag : Nat) (s : State) : Host.Outcome State Fault Refusal := live (takeDecline tag) s

/-- AT_SECTOR (R127). -/
def execAtSector (tag : Nat) (s : State) : Host.Outcome State Fault Refusal := live (takeAtSector tag) s

/-- CHANGED (R126, R129). -/
def execChanged (tag : Nat) (s : State) : Host.Outcome State Fault Refusal := live (takeChanged tag) s

/-- ABORTED (R128). -/
def execAborted (tag : Nat) (s : State) : Host.Outcome State Fault Refusal := live (takeAborted tag) s

/-- TRANSPORT_LINK_DISCARD (R121). -/
def execTransportLinkDiscard (s : State) : Host.Outcome State Fault Refusal := live discardTransport s

/-- TRANSPORT_TIMER_EXPIRY (R129). -/
def execTransportTimerExpiry (s : State) : Host.Outcome State Fault Refusal := live transportExpiry s

/-- BACK_OFF_EXPIRY (R125). -/
def execBackOffExpiry (s : State) : Host.Outcome State Fault Refusal := live backOffExpiry s

end Sys2Proof.Machine
end

