-- ==== Sys2Proof/Machine/FrameLineCmds.lean ====
section
/-! DEFINITION. Commands of the doffer and of the store writer (chapters 7 and 9): DOFFER_ACTIVE_RISE, DOFFER_ACTIVE_FALL,
DOFF_COMPLETE, STORE_WRITE_DONE, STORE_WRITE_FAILED. -/

namespace Sys2Proof.Machine

open Sys2Proof

/-- R144: a doffer signal that the doff state does not expect. -/
def unexpectedSignal (signal : FrameSignal) (s : State) : State :=
  raiseFault .frameSignal .none (.signal signal s.doff.phase.code) s

/-- R144: a rise of doffer active. -/
def dofferRise (s : State) : State :=
  let s1 := updDoff (fun d => { d with dofferActive := true }) s
  match s1.doff.phase with
  | .doffing _ _ => s1
  | _ => unexpectedSignal .dofferActiveRise s1

/-- R144, R145: a doff complete pulse. -/
def doffPulse (s : State) : State :=
  match s.doff.phase with
  | .doffing _ record => completeDoff record s
  | _ => unexpectedSignal .doffComplete s

/-- R185: a store write ends done. -/
def writeDone (s : State) : State :=
  match s.store.writer with
  | .idle => s
  | .writing copy image => afterWrite { s with store := s.store.setCopy copy (some image) }

/-- R185: a store write ends failed: the copy written does not pass its check. -/
def writeFailed (s : State) : State :=
  match s.store.writer with
  | .idle => s
  | .writing copy image =>
    afterWrite (raiseFault .storeWrite .none (.sequence image.sequence) { s with store := s.store.setCopy copy none })

/-! ## Meanings -/

/-- DOFFER_ACTIVE_RISE (R144). -/
def execDofferActiveRise (s : State) : Host.Outcome State Fault Refusal :=
  live (fun t => if t.doff.dofferActive then t else dofferRise t) s

/-- DOFFER_ACTIVE_FALL (R144): only the level changes. -/
def execDofferActiveFall (s : State) : Host.Outcome State Fault Refusal :=
  live (updDoff fun d => { d with dofferActive := false }) s

/-- DOFF_COMPLETE (R144, R145). -/
def execDoffComplete (s : State) : Host.Outcome State Fault Refusal := live doffPulse s

/-- STORE_WRITE_DONE (R185). -/
def execStoreWriteDone (s : State) : Host.Outcome State Fault Refusal := live writeDone s

/-- STORE_WRITE_FAILED (R185). -/
def execStoreWriteFailed (s : State) : Host.Outcome State Fault Refusal := live writeFailed s

end Sys2Proof.Machine
end

