-- ==== Sys2Proof/Machine/LineCmds.lean ====
section
/-! DEFINITION. Commands of the supervisor line that are no requests (chapter 11): FRAME_SILENCE_TIMEOUT, FRAME_DISCARDED,
RESYNC_SILENCE, FRAME_IGNORED, UNKNOWN_KIND, BROADCAST_IGNORED, REPLY_SEND, REPLY_WITHHELD, REPLY_END. -/

namespace Sys2Proof.Machine

open Sys2Proof

/-- R201: an addressed request whose kind is not a request kind. A kind with its top bit set is no request (R200), and a request kind
is not unknown. -/
def takeUnknown (kind : Byte) (s : State) : State :=
  if s.line.address = 0 || 0x80 ≤ kind.toNat || (requestOfKind kind.toNat []).isSome then hunt s
  else hold kind.toNat (refuse .unknownKind (countBadRequest s))

/-- R200: the silence after a discarded frame. -/
def endResync (s : State) : State :=
  match s.line.receiver with
  | .resync => hunt s
  | _ => s

/-- R201: a reply that waits is begun; nothing happens where none waits or one is being sent. -/
def sendReply (s : State) : State :=
  match s.line.reply with
  | some r => if s.line.receiver.takes then beginReply r s else s
  | none => s

/-- R200: the last byte of a reply leaves the line. -/
def finishReply (s : State) : State :=
  match s.line.receiver with
  | .replying => endReply s
  | _ => s

/-! ## Meanings -/

/-- FRAME_SILENCE_TIMEOUT (R200). -/
def execFrameSilenceTimeout (s : State) : Host.Outcome State Fault Refusal := live (fun t => receive discardFrame t) s

/-- FRAME_DISCARDED (R200). -/
def execFrameDiscarded (s : State) : Host.Outcome State Fault Refusal := live (receive discardFrame) s

/-- RESYNC_SILENCE (R200). -/
def execResyncSilence (s : State) : Host.Outcome State Fault Refusal := live endResync s

/-- FRAME_IGNORED (R200). -/
def execFrameIgnored (s : State) : Host.Outcome State Fault Refusal := live (receive hunt) s

/-- UNKNOWN_KIND (R201). -/
def execUnknownKind (kind : Byte) (s : State) : Host.Outcome State Fault Refusal := live (receive (takeUnknown kind)) s

/-- BROADCAST_IGNORED (R203). -/
def execBroadcastIgnored (s : State) : Host.Outcome State Fault Refusal :=
  live (receive fun t => hunt (countBadRequest t)) s

/-- REPLY_SEND (R201). -/
def execReplySend (s : State) : Host.Outcome State Fault Refusal := live sendReply s

/-- REPLY_WITHHELD (R201): a byte arrives before the reply has begun. -/
def execReplyWithheld (s : State) : Host.Outcome State Fault Refusal := live (receive id) s

/-- REPLY_END (R200, R207). -/
def execReplyEnd (s : State) : Host.Outcome State Fault Refusal := live finishReply s

end Sys2Proof.Machine
end

