-- ==== Sys2Proof/Machine/SpindleRequests.lean ====
section
/-! DEFINITION. Requests about one spindle or one change group (chapters 3 and 6): PIECE_SPINDLE, LOCK_SPINDLE, RELEASE_SPINDLE,
CALL_ROVING, DECLARE_ROVING. -/

namespace Sys2Proof.Machine

open Sys2Proof

/-! ## Piece Spindle (R59, R60) -/

/-- R59: the urgent mark set on a spindle's entry. -/
def markUrgent (n : Nat) (s : State) : State :=
  setPieceList (sideOf s n)
    ((pieceList s (sideOf s n)).map fun e => if e.spindle = n then { e with urgent := true } else e) s

/-- R60: the younger of two entries: the later break time, the higher spindle number where two share it. -/
def youngerEntry (a b : Entry) : Bool := b.time < a.time || (b.time == a.time && b.spindle < a.spindle)

/-- R60: the youngest non-urgent entry of a side's list. -/
def youngestEntry (s : State) (side : Side) : Option Entry := pick youngerEntry ((pieceList s side).filter fun e => !e.urgent)

/-- R60: an entry displaced: removed, and its spindle left unlisted. -/
def displaceEntry (e : Entry) (s : State) : State :=
  updSpindle e.spindle (fun x => { x with unlisted := true }) (dropFromList e.spindle s)

/-- R59: Piece Spindle of a BROKEN spindle. -/
def pieceBroken (n : Nat) (s : State) : Answer :=
  if listed s n then taken (markUrgent n s)
  else
    match youngestEntry s (sideOf s n) with
    | some e => taken (makeEntry n true (displaceEntry e s))
    | none => refuse .wrongState s

/-- R59: Piece Spindle. -/
def answerPiece (n : Nat) (s : State) : Answer :=
  if isSpindle s n then
    match (spindle s n).state with
    | .withheld => refuse .withheld s
    | .broken _ _ => pieceBroken n s
    | _ => refuse .wrongState s
  else refuse .outOfRange s

/-! ## Lock Spindle and Release Spindle (R66, R67) -/

/-- R66: Lock Spindle. -/
def answerLock (n : Nat) (s : State) : Answer :=
  if isSpindle s n then
    match (spindle s n).state with
    | .withheld => refuse .withheld s
    | .piecing _ _ => refuse .wrongState s
    | .locked _ => taken (updSpindle n (fun x => { x with state := .locked .byRequest }) s)
    | _ => taken (leaveList n (.locked .byRequest) s)
  else refuse .outOfRange s

/-- R67: what Release Spindle clears. -/
def Spindle.pardoned (sp : Spindle) : Spindle := { sp with breakRing := [], attempts := 0, failures := 0 }

/-- R67: a LOCKED spindle released to BROKEN with cause YARN and break time now. -/
def releaseLocked (n : Nat) (s : State) : State :=
  takeIn n .none (changeState n (.broken .yarn s.delivery.now) (updSpindle n Spindle.pardoned s))

/-- R67: Release Spindle. -/
def answerRelease (n : Nat) (s : State) : Answer :=
  if isSpindle s n then
    match (spindle s n).state with
    | .withheld => refuse .withheld s
    | .locked _ => taken (releaseLocked n s)
    | _ => refuse .wrongState s
  else refuse .outOfRange s

/-! ## Call Roving and Declare Roving (R119, R120) -/

/-- R119: Call Roving. -/
def answerCall (g : Nat) (s : State) : Answer :=
  if !isGroup s g then refuse .outOfRange s
  else if whollyWithheld s g then refuse .withheld s
  else if callState s g = .active then refuse .wrongState s
  else taken (listGroup g .urgent .request s)

/-- R120: a position declared, after its settle. -/
def Spindle.declared (sp : Spindle) (used : Nat) : Spindle := { sp with rovingUsed := used, estimateValid := true }

/-- R120: a group's eight positions declared at `e` eighths of a full bobbin, and the group evaluated. -/
def declareGroup (g e : Nat) (s : State) : State :=
  let used := figC s * (8 - e) / 8
  evaluateGroup g
    ((spindlesOfGroup g).foldl (fun acc n => updSpindle n (fun sp => sp.declared used) acc) (settleEach (spindlesOfGroup g) s))

/-- R120: Declare Roving. -/
def answerDeclare (g e : Nat) (s : State) : Answer :=
  if !isGroup s g || 8 < e then refuse .outOfRange s
  else if callState s g = .active then refuse .wrongState s
  else taken (declareGroup g e s)

/-! ## Meanings -/

/-- PIECE_SPINDLE (R59, R60). -/
def execPieceSpindle (body : List Byte) (s : State) : Host.Outcome State Fault Refusal :=
  live (takeRequest 0x13 (body.length == 2) (answerPiece (bodyNumber body 0 2))) s

/-- LOCK_SPINDLE (R66). -/
def execLockSpindle (body : List Byte) (s : State) : Host.Outcome State Fault Refusal :=
  live (takeRequest 0x14 (body.length == 2) (answerLock (bodyNumber body 0 2))) s

/-- RELEASE_SPINDLE (R67). -/
def execReleaseSpindle (body : List Byte) (s : State) : Host.Outcome State Fault Refusal :=
  live (takeRequest 0x15 (body.length == 2) (answerRelease (bodyNumber body 0 2))) s

/-- CALL_ROVING (R119). -/
def execCallRoving (body : List Byte) (s : State) : Host.Outcome State Fault Refusal :=
  live (takeRequest 0x16 (body.length == 1) (answerCall (bodyNumber body 0 1))) s

/-- DECLARE_ROVING (R120). -/
def execDeclareRoving (body : List Byte) (s : State) : Host.Outcome State Fault Refusal :=
  live (takeRequest 0x17 (body.length == 2) (answerDeclare (bodyNumber body 0 1) (bodyNumber body 1 1))) s

end Sys2Proof.Machine
end

