-- ==== Sys2Proof/Machine/DoffRequests.lean ====
section
/-! DEFINITION. Requests of the doff sequencer and the other single-step requests (chapters 1, 4, 7, 8, 10, 11): HOLD_DOFF,
RESUME_DOFF, DOFF_NOW, SET_DOFF_PROGRESS, WRITE_LOT, RELEASE_CARRIAGE, CLEAR_FAULTS, CLOSE_SHIFT, SET_CLOCK, RESTART. -/

namespace Sys2Proof.Machine

open Sys2Proof

/-! ## The doff (R148 to R153) -/

/-- R148: Hold Doff. -/
def answerHold (s : State) : Answer :=
  if s.doff.phase.inDoff then refuse .doffInProgress s else taken (updDoff (fun d => { d with hold := true }) s)

/-- R150: the hold flag cleared, and the table of R138 applied in SPINNING and WARNED; nothing changes where it is clear already. -/
def resumeDoff (s : State) : State :=
  if s.doff.hold then followProgress (updDoff (fun d => { d with hold := false }) s) else s

/-- R150: Resume Doff. -/
def answerResume (s : State) : Answer :=
  if s.doff.phase.inDoff then refuse .doffInProgress s else taken (resumeDoff s)

/-- R151: Doff Now. -/
def answerDoffNow (s : State) : Answer :=
  match s.doff.phase with
  | .spinning => taken (enterCalled (doffProgress s < s.doff.dPulses) false s)
  | .warned => taken (enterCalled (doffProgress s < s.doff.dPulses) false s)
  | .restarting => refuse .wrongState s
  | _ => refuse .doffInProgress s

/-- R152: cop pulses held to the progress. -/
def Spindle.capped (sp : Spindle) (progress : Nat) : Spindle := { sp with copPulses := min sp.copPulses progress }

/-- R152: the doff progress set to a percentage of D. -/
def setProgress (percent : Nat) (s : State) : State :=
  let s1 := updDoff (fun d => { d with phiD := s.delivery.phi - d.dPulses * percent / 100 }) s
  let s2 := settleAll s1
  let s3 := { s2 with spindles := s2.spindles.map fun sp => sp.capped (doffProgress s2) }
  followProgress
    (if doffProgress s3 < s3.doff.dPulses then updDoff (fun d => { d with overdue := false }) s3 else s3)

/-- R152: Set Doff Progress. A percentage above 100 is refused OUT_OF_RANGE in every doff state (assumption log entry 44). -/
def answerProgress (percent : Nat) (s : State) : Answer :=
  if 100 < percent then refuse .outOfRange s
  else
    match s.doff.phase with
    | .spinning => taken (setProgress percent s)
    | .warned => taken (setProgress percent s)
    | _ => refuse .doffInProgress s

/-- R153: the lot fields of a Write Lot body by their field numbers, as sent. -/
def lotItems (body : List Byte) : List (Nat × Nat) :=
  [(5, bodyNumber body 0 2), (6, bodyNumber body 2 2), (7, bodyNumber body 4 2), (8, bodyNumber body 6 2),
   (9, bodyNumber body 8 2), (10, bodyNumber body 10 2), (11, bodyNumber body 12 1)]

/-- R181: the field numbers of the items whose values are clamped, in the order sent (assumption log entry 21). -/
def clampedFields (items : List (Nat × Nat)) : List Nat :=
  (items.filter fun it => clampField it.1 it.2 != it.2).map (·.1)

/-- R153: the lot that items stand for, each value clamped. -/
def lotOf (items : List (Nat × Nat)) : Lot := items.foldl (fun l it => l.set it.1 (clampField it.1 it.2)) defaultLot

/-- R153: Write Lot. -/
def answerLot (items : List (Nat × Nat)) (s : State) : Answer :=
  takenClamped (clampedFields items) (updDoff (fun d => { d with pendingLot := some (lotOf items) }) s)

/-! ## Carriages, faults, shifts, clock, Restart -/

/-- R92: a record that is not ABSENT released. -/
def releaseRecord (record : RecordNo) (s : State) : State :=
  match (carriage s record).link.station? with
  | none => s
  | some st => makeAbsent record false (emit (.carriage st.number (.refuse .released)) s)

/-- R92: Release Carriage. -/
def answerReleaseCarriage (code : Nat) (s : State) : Answer :=
  match recordOfCode code with
  | none => refuse .outOfRange s
  | some record => taken (releaseRecord record s)

/-- R192: Clear Faults. -/
def answerClear (set : Nat) (s : State) : Answer :=
  if 2048 ≤ set then refuse .outOfRange s else taken (clearFaultSet (BitVec.ofNat 11 set) s)

/-- R7: the mill clock loaded and the clock-set flag set. -/
def loadClock (value : Nat) (s : State) : State := updDelivery (fun dl => { dl with mill := value, clockSet := true }) s

/-- R207: Restart taken; it is made when its reply has been sent whole, or withheld. -/
def answerRestart (s : State) : Answer := { body := outcomeByte .ok, effect := .restart, state := s }

/-! ## Meanings -/

/-- HOLD_DOFF (R148). -/
def execHoldDoff (body : List Byte) (s : State) : Host.Outcome State Fault Refusal :=
  live (takeRequest 0x18 (body.length == 0) answerHold) s

/-- RESUME_DOFF (R150). -/
def execResumeDoff (body : List Byte) (s : State) : Host.Outcome State Fault Refusal :=
  live (takeRequest 0x19 (body.length == 0) answerResume) s

/-- DOFF_NOW (R151). -/
def execDoffNow (body : List Byte) (s : State) : Host.Outcome State Fault Refusal :=
  live (takeRequest 0x1A (body.length == 0) answerDoffNow) s

/-- SET_DOFF_PROGRESS (R152). -/
def execSetDoffProgress (body : List Byte) (s : State) : Host.Outcome State Fault Refusal :=
  live (takeRequest 0x1B (body.length == 1) (answerProgress (bodyNumber body 0 1))) s

/-- WRITE_LOT (R153). -/
def execWriteLot (body : List Byte) (s : State) : Host.Outcome State Fault Refusal :=
  live (takeRequest 0x10 (body.length == 13) (answerLot (lotItems body))) s

/-- RELEASE_CARRIAGE (R92). -/
def execReleaseCarriage (body : List Byte) (s : State) : Host.Outcome State Fault Refusal :=
  live (takeRequest 0x1C (body.length == 1) (answerReleaseCarriage (bodyNumber body 0 1))) s

/-- CLEAR_FAULTS (R192). -/
def execClearFaults (body : List Byte) (s : State) : Host.Outcome State Fault Refusal :=
  live (takeRequest 0x0D (body.length == 2) (answerClear (bodyNumber body 0 2))) s

/-- CLOSE_SHIFT (R164, R165), to the unit's address or by broadcast. -/
def execCloseShift (broadcast : Bool) (body : List Byte) (s : State) : Host.Outcome State Fault Refusal :=
  if broadcast then live (takeBroadcast (body.length == 0) closeShiftNow) s
  else live (takeRequest 0x1D (body.length == 0) fun t => taken (closeShiftNow t)) s

/-- SET_CLOCK (R7), to the unit's address or by broadcast. -/
def execSetClock (broadcast : Bool) (body : List Byte) (s : State) : Host.Outcome State Fault Refusal :=
  if broadcast then live (takeBroadcast (body.length == 4) (loadClock (bodyNumber body 0 4))) s
  else live (takeRequest 0x1E (body.length == 4) fun t => taken (loadClock (bodyNumber body 0 4) t)) s

/-- RESTART (R207). -/
def execRestart (body : List Byte) (s : State) : Host.Outcome State Fault Refusal :=
  live (takeRequest 0x1F (body.length == 0) answerRestart) s

end Sys2Proof.Machine
end

