-- ==== Sys2Proof/Machine/SettingsRequests.lean ====
section
/-! DEFINITION. The requests of chapter 9 that write: WRITE_SETTINGS and WRITE_ZONE. -/

namespace Sys2Proof.Machine

open Sys2Proof

/-! ## Write Settings (R180 to R182) -/

/-- Section 11.6: the items of a Write Settings body after its target, `count` of them: a field number (1) and a value (4). -/
def itemsFrom (body : List Byte) (offset : Nat) : Nat → List (Nat × Nat)
  | 0 => []
  | k + 1 => (bodyNumber body offset 1, bodyNumber body (offset + 1) 4) :: itemsFrom body (offset + 5) k

/-- Section 11.6: every item of a Write Settings body. -/
def settingItems (body : List Byte) : List (Nat × Nat) := itemsFrom body 1 ((body.length - 1) / 5)

/-- Section 11.6: the body is a target and a whole number of items, at least one. -/
def settingsLengthOk (body : List Byte) : Bool := 6 ≤ body.length && body.length % 5 == 1

/-- No field is named twice. -/
def namedOnce : List (Nat × Nat) → Bool
  | [] => true
  | it :: rest => rest.all (fun x => x.1 != it.1) && namedOnce rest

/-- R180, first check: the field numbers are 1 to 34, none is named twice, and the arbitration mode is one of its four values. -/
def itemsInRange (items : List (Nat × Nat)) : Bool :=
  items.all (fun it => 1 ≤ it.1 && it.1 ≤ 34 && (it.1 != 28 || it.2 ≤ 3)) && namedOnce items

/-- R180: every item written, clamped, into the working copy; a retained-only field changes nothing there. -/
def writeWorking (items : List (Nat × Nat)) (w : Working) : Working :=
  items.foldl (fun w it => w.set it.1 (clampField it.1 it.2)) w

/-- R180: every item written, clamped, into the retained copy. -/
def writeRetained (items : List (Nat × Nat)) (r : Retained) : Retained :=
  items.foldl (fun r it => r.set it.1 (clampField it.1 it.2)) r

/-- The items name one of these fields. -/
def names (items : List (Nat × Nat)) (fields : List Nat) : Bool := items.any fun it => fields.contains it.1

/-- R180, R185: the fields written at one instant, and the store write begun. -/
def storeItems (retained : Bool) (items : List (Nat × Nat)) (s : State) : State :=
  let s1 :=
    { s with
      settings :=
        { working := writeWorking items s.settings.working
          retained := if retained then writeRetained items s.settings.retained else s.settings.retained } }
  if retained then beginWrite s1 else s1

/-- R12, R149: the overrun distance moved at once. -/
def moveOverrun (s : State) : State :=
  followProgress (updDoff (fun d => { d with overrun := overrunDistance d.dPulses s.settings.working.overrunLimit }) s)

/-- R182: what acts at the write: the alarm (R191), the groups' evaluation (R113), the overrun distance (R149), in this order
(assumption log entry 28). -/
def actOnWrite (items : List (Nat × Nat)) (s : State) : State :=
  let s1 := if names items [33, 34] then workOutAlarm s else s
  let s2 := if names items [12, 13] then evaluateGroups (allGroups s1) s1 else s1
  if names items [15] then moveOverrun s2 else s2

/-- R185: the store writer is WRITING. -/
def Store.writing (st : Store) : Bool :=
  match st.writer with
  | .idle => false
  | .writing _ _ => true

/-- R180: Write Settings, its checks in order. -/
def answerSettings (target : Nat) (items : List (Nat × Nat)) (s : State) : Answer :=
  if 1 < target || !itemsInRange items then refuse .outOfRange s
  else if target == 0 && items.any (fun it => it.1 ≤ 11) then refuse .wrongState s
  else if target == 1 && s.store.writing then refuse .storeBusy s
  else takenClamped (clampedFields items) (actOnWrite items (storeItems (target == 1) items s))

/-! ## Write Zone (R176 to R178) -/

/-- R177: a spindle of a sector that has entered the withheld set; the planner is told afterwards. -/
def withholdSpindle (n : Nat) (s : State) : State :=
  match (spindle s n).state with
  | .piecing _ _ => updSpindle n (fun x => { x with withholdPending := true }) s
  | _ => changeState n .withheld (dropFromList n s)

/-- R177: a spindle of a sector that has left the withheld set; the planner is told afterwards. -/
def unwithholdSpindle (n : Nat) (s : State) : State :=
  match (spindle s n).state with
  | .withheld => changeState n (settlingOrIdle s .driveStart) s
  | .piecing _ _ => updSpindle n (fun x => { x with withholdPending := false }) s
  | _ => s

/-- R178: the sectors of `a` that are not in `b`. -/
def sectorsGone (a b : List Nat) : List Nat := a.filter fun k => !b.contains k

/-- R2: the three change groups of a sector. -/
def groupsOfSector (k : Nat) : List Nat := [(k - 1) * 3 + 1, (k - 1) * 3 + 2, (k - 1) * 3 + 3]

/-- R177: the spindles of the sectors that entered and of those that left the withheld set changed. -/
def changeZone (entered left : List Nat) (s : State) : State :=
  let s1 := (entered.flatMap spindlesOfSector).foldl (fun acc n => withholdSpindle n acc) s
  (left.flatMap spindlesOfSector).foldl (fun acc n => unwithholdSpindle n acc) s1

/-- The states of a group's spindles. -/
def groupStates (s : State) (g : Nat) : List SpindleState := (groupSpindles s g).map (·.state)

/-- R178: one Write Zone: the record and the withheld set, every spindle, the refill, the groups whose spindles changed, dispatch where
the refill made an entry, and the store write. The groups are taken sector by sector, those that entered the withheld set before those
that left it (assumption log entry 49). -/
def writeZone (side : Side) (record : RecordNo) (z : Zone) (s : State) : State :=
  let records := s.zones.records.set side record z
  let new := withheldSet records s.delivery.sides s.delivery.sectors
  let entered := sectorsGone new s.zones.withheld
  let left := sectorsGone s.zones.withheld new
  let s1 := changeZone entered left { s with zones := { records := records, withheld := new } }
  let s2 := refill side s1
  let changedGroups := ((entered ++ left).flatMap groupsOfSector).filter fun g => groupStates s g != groupStates s1 g
  let s3 := changedGroups.foldl (fun acc g => tellPlanner g acc) s2
  let s4 := if (pieceList s1 side).length < (pieceList s2 side).length then attemptSide side s3 else s3
  askWrite s4

/-- R174: the zone record of a Write Zone body; the extent is held to 6 (R176). -/
def zoneOf (enabled anchor extent complement : Nat) : Zone :=
  { enabled := enabled != 0, anchor := if anchor = 0 then .low else .high, extent := min extent 6, complement := complement != 0 }

/-- R176: Write Zone. -/
def answerZone (sideNo recordNo enabled anchor extent complement : Nat) (s : State) : Answer :=
  match configuredSideOfCode s sideNo, recordOfCode recordNo with
  | some side, some record =>
    if 1 < anchor then refuse .outOfRange s
    else
      takenClamped (if 6 < extent then [5] else [])
        (writeZone side record (zoneOf enabled anchor extent complement) s)
  | _, _ => refuse .outOfRange s

/-! ## Meanings -/

/-- WRITE_SETTINGS (R180, R181). -/
def execWriteSettings (body : List Byte) (s : State) : Host.Outcome State Fault Refusal :=
  live (takeRequest 0x0F (settingsLengthOk body) (answerSettings (bodyNumber body 0 1) (settingItems body))) s

/-- WRITE_ZONE (R176). -/
def execWriteZone (body : List Byte) (s : State) : Host.Outcome State Fault Refusal :=
  live
    (takeRequest 0x12 (body.length == 6)
      (answerZone (bodyNumber body 0 1) (bodyNumber body 1 1) (bodyNumber body 2 1) (bodyNumber body 3 1) (bodyNumber body 4 1)
        (bodyNumber body 5 1)))
    s

end Sys2Proof.Machine
end

