-- ==== Sys2Proof/Machine/Readings.lean ====
section
/-! DEFINITION. The requests that read: IDENTIFY, READ_STATUS, FETCH_NOTICES, READ_SPINDLES, READ_PIECING_LIST, READ_GROUPS,
READ_ROVING_CALLS, READ_CARRIAGES, READ_DOFF_STATE, READ_DOFF_LOG, READ_SHIFT, READ_FAULTS, READ_SETTINGS, READ_ZONES. -/

namespace Sys2Proof.Machine

open Sys2Proof

/-- R205: Read Status; the latches it reports set are cleared when its reply is sent (R195). -/
def answerStatus (s : State) : Answer :=
  { body := statusBody s
    effect := .latches s.notices.latches
    state := { s with notices := { s.notices with latchedSince := 0#6 } } }

/-- R198: Fetch Notices; the notices returned are marked, to be removed when the reply is sent. -/
def answerFetch (limit : Nat) (s : State) : Answer :=
  if 32 < limit then refuse .outOfRange s
  else
    { body := fetchBody s limit
      effect := .fetch
      state :=
        { s with
          notices := { s.notices with queue := markFirst (fetchCount s limit) s.notices.queue, lostSince := 0 } } }

/-- R204: Read Spindles; the cursor moves when its reply is sent. -/
def answerSpindles (first limit scope : Nat) (s : State) : Answer :=
  if spindleCount s < first || 2 < scope then refuse .outOfRange s
  else
    let start := if first = 0 then s.line.cursor else first
    { body := readSpindlesBody s start limit scope, effect := .cursor (nextCursor s start limit scope), state := s }

/-- R68: Read Piecing List. -/
def answerPiecingList (sideNo first : Nat) (s : State) : Answer :=
  match configuredSideOfCode s sideNo with
  | none => refuse .outOfRange s
  | some side =>
    if first = 0 || (firstSpindle s side ≤ first && first ≤ lastSpindle s side) then reading (piecingListBody s side first) s
    else refuse .outOfRange s

/-- R130: Read Groups. -/
def answerGroups (first : Nat) (s : State) : Answer :=
  if first = 0 || isGroup s first then reading (groupsBody s first) s else refuse .outOfRange s

/-- R146: Read Doff Log. -/
def answerDoffLog (first : Nat) (s : State) : Answer :=
  if 16 ≤ first then refuse .outOfRange s else reading (doffLogBody s first) s

/-- R170: Read Shift. -/
def answerShift (index first : Nat) (s : State) : Answer :=
  if first = 0 || 9 < first || 3 < index then refuse .outOfRange s
  else
    match shiftView s index with
    | some v => reading (readShiftBody s index first v) s
    | none => refuse .outOfRange s

/-- R183: Read Settings. -/
def answerReadSettings (source first : Nat) (s : State) : Answer :=
  if 1 < source || first = 0 || 34 < first then refuse .outOfRange s
  else reading (settingsBody s (source == 1) first) s

/-- R174: Read Zones. -/
def answerZones (sideNo : Nat) (s : State) : Answer :=
  match configuredSideOfCode s sideNo with
  | none => refuse .outOfRange s
  | some side => reading (zonesBody s side) s

/-! ## Meanings -/

/-- IDENTIFY (R206). -/
def execIdentify (body : List Byte) (s : State) : Host.Outcome State Fault Refusal :=
  live (takeRequest 0x01 (body.length == 0) fun t => reading (identifyBody t) t) s

/-- READ_STATUS (R205). -/
def execReadStatus (body : List Byte) (s : State) : Host.Outcome State Fault Refusal :=
  live (takeRequest 0x02 (body.length == 0) answerStatus) s

/-- FETCH_NOTICES (R198). -/
def execFetchNotices (body : List Byte) (s : State) : Host.Outcome State Fault Refusal :=
  live (takeRequest 0x03 (body.length == 1) (answerFetch (bodyNumber body 0 1))) s

/-- READ_SPINDLES (R204). -/
def execReadSpindles (body : List Byte) (s : State) : Host.Outcome State Fault Refusal :=
  live
    (takeRequest 0x04 (body.length == 4)
      (answerSpindles (bodyNumber body 0 2) (bodyNumber body 2 1) (bodyNumber body 3 1)))
    s

/-- READ_PIECING_LIST (R68). -/
def execReadPiecingList (body : List Byte) (s : State) : Host.Outcome State Fault Refusal :=
  live (takeRequest 0x05 (body.length == 3) (answerPiecingList (bodyNumber body 0 1) (bodyNumber body 1 2))) s

/-- READ_GROUPS (R130). -/
def execReadGroups (body : List Byte) (s : State) : Host.Outcome State Fault Refusal :=
  live (takeRequest 0x06 (body.length == 1) (answerGroups (bodyNumber body 0 1))) s

/-- READ_ROVING_CALLS (R131). -/
def execReadRovingCalls (body : List Byte) (s : State) : Host.Outcome State Fault Refusal :=
  live (takeRequest 0x07 (body.length == 1) fun t => reading (rovingCallsBody t (bodyNumber body 0 1)) t) s

/-- READ_CARRIAGES (R96). -/
def execReadCarriages (body : List Byte) (s : State) : Host.Outcome State Fault Refusal :=
  live (takeRequest 0x08 (body.length == 0) fun t => reading (carriagesBody t) t) s

/-- READ_DOFF_STATE (R155). -/
def execReadDoffState (body : List Byte) (s : State) : Host.Outcome State Fault Refusal :=
  live (takeRequest 0x09 (body.length == 0) fun t => reading (doffStateBody t) t) s

/-- READ_DOFF_LOG (R146). -/
def execReadDoffLog (body : List Byte) (s : State) : Host.Outcome State Fault Refusal :=
  live (takeRequest 0x0A (body.length == 1) (answerDoffLog (bodyNumber body 0 1))) s

/-- READ_SHIFT (R170). -/
def execReadShift (body : List Byte) (s : State) : Host.Outcome State Fault Refusal :=
  live (takeRequest 0x0B (body.length == 2) (answerShift (bodyNumber body 0 1) (bodyNumber body 1 1))) s

/-- READ_FAULTS (R193). -/
def execReadFaults (body : List Byte) (s : State) : Host.Outcome State Fault Refusal :=
  live (takeRequest 0x0C (body.length == 0) fun t => reading (faultsBody t) t) s

/-- READ_SETTINGS (R183). -/
def execReadSettings (body : List Byte) (s : State) : Host.Outcome State Fault Refusal :=
  live (takeRequest 0x0E (body.length == 2) (answerReadSettings (bodyNumber body 0 1) (bodyNumber body 1 1))) s

/-- READ_ZONES (R174). -/
def execReadZones (body : List Byte) (s : State) : Host.Outcome State Fault Refusal :=
  live (takeRequest 0x11 (body.length == 1) (answerZones (bodyNumber body 0 1))) s

end Sys2Proof.Machine
end

