-- ==== Sys2Proof/Machine/Dispatch.lean ====
section
/-! DEFINITION. The meaning of every command: one arm per constructor of `Instr`, in the order of the table. -/

namespace Sys2Proof.Machine

open Sys2Proof

/-- What a command does to everything but the queue. -/
def exec (i : Instr) (s : State) : Host.Outcome State Fault Refusal :=
  match i with
  | .powerOnReset address speed driving doffer => Sys2Proof.Machine.execPowerOnReset address speed driving doffer s
  | .runSecond => Sys2Proof.Machine.execRunSecond s
  | .frontRollerPulse => Sys2Proof.Machine.execFrontRollerPulse s
  | .driveRunningRise => Sys2Proof.Machine.execDriveRunningRise s
  | .driveRunningFall => Sys2Proof.Machine.execDriveRunningFall s
  | .pulseLoss => Sys2Proof.Machine.execPulseLoss s
  | .headPoll side => Sys2Proof.Machine.execHeadPoll side s
  | .pollAnswer side checkOk headOk present => Sys2Proof.Machine.execPollAnswer side checkOk headOk present s
  | .answerWaitExpiry side => Sys2Proof.Machine.execAnswerWaitExpiry side s
  | .drowseDelayExpiry => Sys2Proof.Machine.execDrowseDelayExpiry s
  | .sleepPoll side => Sys2Proof.Machine.execSleepPoll side s
  | .settleLimitReached n => Sys2Proof.Machine.execSettleLimitReached n s
  | .lampHoldExpiry k => Sys2Proof.Machine.execLampHoldExpiry k s
  | .ability st side abilities rev => Sys2Proof.Machine.execAbility st side abilities rev s
  | .position st n dir => Sys2Proof.Machine.execPosition st n dir s
  | .arrived st tag => Sys2Proof.Machine.execArrived st tag s
  | .result st tag outcome => Sys2Proof.Machine.execResult st tag outcome s
  | .parked st => Sys2Proof.Machine.execParked st s
  | .carriageStatus st => Sys2Proof.Machine.execCarriageStatus st s
  | .orderTimerExpiry r => Sys2Proof.Machine.execOrderTimerExpiry r s
  | .linkLossTimerExpiry r => Sys2Proof.Machine.execLinkLossTimerExpiry r s
  | .parkTimerExpiry r => Sys2Proof.Machine.execParkTimerExpiry r s
  | .waitLimitExpiry k => Sys2Proof.Machine.execWaitLimitExpiry k s
  | .transportAccept tag => Sys2Proof.Machine.execTransportAccept tag s
  | .decline tag => Sys2Proof.Machine.execDecline tag s
  | .atSector tag => Sys2Proof.Machine.execAtSector tag s
  | .changed tag => Sys2Proof.Machine.execChanged tag s
  | .aborted tag => Sys2Proof.Machine.execAborted tag s
  | .transportTimerExpiry => Sys2Proof.Machine.execTransportTimerExpiry s
  | .backOffExpiry => Sys2Proof.Machine.execBackOffExpiry s
  | .dofferActiveRise => Sys2Proof.Machine.execDofferActiveRise s
  | .dofferActiveFall => Sys2Proof.Machine.execDofferActiveFall s
  | .doffComplete => Sys2Proof.Machine.execDoffComplete s
  | .storeWriteDone => Sys2Proof.Machine.execStoreWriteDone s
  | .storeWriteFailed => Sys2Proof.Machine.execStoreWriteFailed s
  | .frameSilenceTimeout => Sys2Proof.Machine.execFrameSilenceTimeout s
  | .frameDiscarded => Sys2Proof.Machine.execFrameDiscarded s
  | .resyncSilence => Sys2Proof.Machine.execResyncSilence s
  | .frameIgnored => Sys2Proof.Machine.execFrameIgnored s
  | .unknownKind kind => Sys2Proof.Machine.execUnknownKind kind s
  | .broadcastIgnored => Sys2Proof.Machine.execBroadcastIgnored s
  | .replySend => Sys2Proof.Machine.execReplySend s
  | .replyWithheld => Sys2Proof.Machine.execReplyWithheld s
  | .identify b => Sys2Proof.Machine.execIdentify b s
  | .readStatus b => Sys2Proof.Machine.execReadStatus b s
  | .fetchNotices b => Sys2Proof.Machine.execFetchNotices b s
  | .readSpindles b => Sys2Proof.Machine.execReadSpindles b s
  | .readPiecingList b => Sys2Proof.Machine.execReadPiecingList b s
  | .readGroups b => Sys2Proof.Machine.execReadGroups b s
  | .readRovingCalls b => Sys2Proof.Machine.execReadRovingCalls b s
  | .readCarriages b => Sys2Proof.Machine.execReadCarriages b s
  | .readDoffState b => Sys2Proof.Machine.execReadDoffState b s
  | .readDoffLog b => Sys2Proof.Machine.execReadDoffLog b s
  | .readShift b => Sys2Proof.Machine.execReadShift b s
  | .readFaults b => Sys2Proof.Machine.execReadFaults b s
  | .clearFaults b => Sys2Proof.Machine.execClearFaults b s
  | .readSettings b => Sys2Proof.Machine.execReadSettings b s
  | .writeSettings b => Sys2Proof.Machine.execWriteSettings b s
  | .writeLot b => Sys2Proof.Machine.execWriteLot b s
  | .readZones b => Sys2Proof.Machine.execReadZones b s
  | .writeZone b => Sys2Proof.Machine.execWriteZone b s
  | .pieceSpindle b => Sys2Proof.Machine.execPieceSpindle b s
  | .lockSpindle b => Sys2Proof.Machine.execLockSpindle b s
  | .releaseSpindle b => Sys2Proof.Machine.execReleaseSpindle b s
  | .callRoving b => Sys2Proof.Machine.execCallRoving b s
  | .declareRoving b => Sys2Proof.Machine.execDeclareRoving b s
  | .holdDoff b => Sys2Proof.Machine.execHoldDoff b s
  | .resumeDoff b => Sys2Proof.Machine.execResumeDoff b s
  | .doffNow b => Sys2Proof.Machine.execDoffNow b s
  | .setDoffProgress b => Sys2Proof.Machine.execSetDoffProgress b s
  | .releaseCarriage b => Sys2Proof.Machine.execReleaseCarriage b s
  | .closeShift broadcast b => Sys2Proof.Machine.execCloseShift broadcast b s
  | .setClock broadcast b => Sys2Proof.Machine.execSetClock broadcast b s
  | .restart b => Sys2Proof.Machine.execRestart b s
  | .replyEnd => Sys2Proof.Machine.execReplyEnd s
  | .carriageLinkDiscard cause => Sys2Proof.Machine.execCarriageLinkDiscard cause s
  | .transportLinkDiscard => Sys2Proof.Machine.execTransportLinkDiscard s
  | .powerLoss => Sys2Proof.Machine.execPowerLoss s

end Sys2Proof.Machine
end

