-- ==== Sys2Proof/Safety.lean ====
section
/-! DEFINITION. What a sound state of the 2416 is, in the terms the statements use: the geometry in range, the outputs following the
state, the capacities, the time books, the cops, and the piecing lists; and the shape of a state that has just taken a request. -/

namespace Sys2Proof.Machine

open Sys2Proof

/-! ## Geometry (R1, R179) -/

/-- R1: sides and sectors of a settings record are in range. -/
def Retained.geometryOk (r : Retained) : Prop := (r.sides = 1 ∨ r.sides = 2) ∧ 1 ≤ r.sectors ∧ r.sectors ≤ 42

/-- The image in a copy of the store, if it is valid, has its geometry in range. -/
def imageOk (image : Option Image) : Prop := ∀ x, image = some x → x.settings.geometryOk

/-- The image being written, if any. -/
def Writer.image (w : Writer) : Option Image :=
  match w with
  | .idle => none
  | .writing _ image => some image

/-- Every settings record the store holds or is about to hold has its geometry in range. -/
def storeOk (st : Store) : Prop := imageOk st.copy1 ∧ imageOk st.copy2 ∧ imageOk st.writer.image

/-- R1: the geometry in force is in range, and the spindle table holds one record for each configured spindle. -/
def tableOk (s : State) : Prop :=
  (s.delivery.sides = 1 ∨ s.delivery.sides = 2) ∧ 1 ≤ s.delivery.sectors ∧ s.delivery.sectors ≤ 42 ∧
    s.spindles.length = spindleCount s

/-- The geometry is in range wherever the board holds one; the tables follow it while the board is powered. -/
def geometrySound (s : State) : Prop :=
  storeOk s.store ∧ (s.powered = true → tableOk s ∧ s.settings.retained.geometryOk)

/-! ## Outputs (R135, R137, R191) -/

/-- R135, R137, R191: doff request, carriages clear and frame alarm stand at the levels their rules give. -/
def outputsSound (s : State) : Prop :=
  (s.doff.request = true ↔ ∃ c, s.doff.phase = .called c ∨ s.doff.phase = .parking c ∨ ∃ r, s.doff.phase = .doffing c r) ∧
    (s.doff.clear = true ↔ ∃ c r, s.doff.phase = .doffing c r) ∧
    (s.faults.alarm = true ↔
      ∃ cls : FaultClass,
        s.faults.status.getLsbD cls.bit = true ∧ s.settings.working.masks.getLsbD cls.bit = false ∧
          s.settings.working.severities.getLsbD cls.bit = true)

/-- R135: carriages clear is asserted only while every carriage is PARKED, ABSENT or REJECTED. -/
def clearSound (s : State) : Prop :=
  (∃ c r, s.doff.phase = .doffing c r) → s.car1.link.isClear = true ∧ s.car2.link.isClear = true

/-! ## Capacities (R31, R32, R33, R49, R146, R159, R167, R196) -/

/-- R167: a retained ring holds at most 3 records. -/
def ringOk (image : Option Image) : Prop := ∀ x, image = some x → x.ring.length ≤ 3

/-- R31, R32, R33: the counts of a spindle record. -/
def spindleCountsOk (sp : Spindle) : Prop :=
  sp.streak ≤ 16 ∧ sp.attempts ≤ 7 ∧ sp.failures ≤ 7 ∧ sp.breakRing.length ≤ 4

/-- R31 to R33, R49, R146, R159, R167, R196: nothing outgrows its place. R49: an entry is of its list's side. R175: the withheld set names
sectors, counted from 1. -/
def capacitiesSound (s : State) : Prop :=
  s.listA.length ≤ 96 ∧ s.listB.length ≤ 96 ∧ s.notices.queue.length ≤ 32 ∧ s.doff.log.length ≤ 16 ∧ s.ring.length ≤ 3 ∧
    s.shift.segments.length ≤ 4 ∧ (∀ sp ∈ s.spindles, spindleCountsOk sp) ∧ ringOk s.store.copy1 ∧ ringOk s.store.copy2 ∧
    ringOk s.store.writer.image ∧ (∀ k ∈ s.zones.withheld, 1 ≤ k) ∧ (∀ e ∈ s.listA, sideOf s e.spindle = .a) ∧
    ∀ e ∈ s.listB, sideOf s e.spindle = .b

/-! ## The time books (R18, R19) -/

/-- R19: the eight categories of the open shift as read add up to the spindle count times the seconds since it opened; no mark lies
in the future. -/
def booksSound (s : State) : Prop :=
  geometrySound s ∧
    (s.powered = true →
      s.delivery.now ≤ 4294967295 ∧ s.shift.openSecond ≤ s.delivery.now ∧
        (∀ sp ∈ s.spindles, sp.secondsMark ≤ s.delivery.now) ∧
        (categoriesRead s).total = s.spindles.length * (s.delivery.now - s.shift.openSecond))

/-! ## The drive and the cops (R34, R152) -/

/-- R34: SETTLING and RUNNING exist only while drive running is asserted. -/
def drivenSound (s : State) : Prop :=
  ∀ sp ∈ s.spindles, (sp.state.code = 2 ∨ sp.state.code = 3) → s.delivery.driving = true

/-- R4, R152: the odometer is within its range, and every spindle's cop pulses, as read, are at most the doff progress. -/
def copsSound (s : State) : Prop :=
  geometrySound s ∧ drivenSound s ∧ s.delivery.phi ≤ 281474976710655 ∧ s.doff.phiD ≤ s.delivery.phi ∧
    ∀ sp ∈ s.spindles, copRead s sp ≤ s.delivery.phi - s.doff.phiD

/-! ## The piecing lists (R49, R50, R52 to R55) -/

/-- R50: entries in ascending spindle order, no spindle twice. -/
def ascending (l : List Entry) : Prop := l.Pairwise fun a b => a.spindle < b.spindle

/-- The spindle is BROKEN. -/
def SpindleState.isBroken (st : SpindleState) : Bool :=
  match st with
  | .broken _ _ => true
  | _ => false

/-- R49, R50: an entry is of a BROKEN spindle of its list's side that is not left unlisted. -/
def entrySound (s : State) (side : Side) (e : Entry) : Prop :=
  isSpindle s e.spindle = true ∧ sideOf s e.spindle = side ∧ (spindle s e.spindle).state.isBroken = true ∧
    (spindle s e.spindle).unlisted = false

/-- R52: a BROKEN spindle is listed or left unlisted, and no other spindle is. -/
def listedSound (s : State) (n : Nat) : Prop :=
  if (spindle s n).state.isBroken = true then (listed s n = true ↔ (spindle s n).unlisted = false)
  else (spindle s n).unlisted = false

/-- R53, R55: a side has unlisted spindles only while its list is full. -/
def overflowSound (s : State) (side : Side) : Prop := unlistedOf s side = [] ∨ (pieceList s side).length = 96

/-- R49, R50, R52 to R55: the two piecing lists hold what they should. R175: the withheld set is that of the zone records. -/
def listsSound (s : State) : Prop :=
  geometrySound s ∧
    (s.powered = true →
      ascending s.listA ∧ ascending s.listB ∧ s.listA.length ≤ 96 ∧ s.listB.length ≤ 96 ∧
        (∀ e ∈ s.listA, entrySound s .a e) ∧ (∀ e ∈ s.listB, entrySound s .b e) ∧
        (∀ n ∈ allSpindles s, listedSound s n) ∧ (∀ side ∈ configuredSides s, overflowSound s side) ∧
        s.zones.withheld = withheldSet s.zones.records s.delivery.sides s.delivery.sectors)

/-! ## A request just taken (R201) -/

/-- R200, R201: a powered unit with an address of its own, its receiver HUNTING and no reply waiting. -/
def lineReady (s : State) : Prop :=
  s.powered = true ∧ s.line.address ≠ 0 ∧ s.line.receiver = .hunting ∧ s.line.reply = none

/-- R201: the state after a request has been taken: nothing sent, and its reply waiting. -/
def withReply (kind : Nat) (body : List Byte) (effect : ReplyEffect) (s : State) : State :=
  { s with
    emitted := []
    line := { s.line with receiver := .hunting, reply := some { kind := kind, body := body, effect := effect } } }

/-- R202: outcome 0, OK, alone. -/
def okBody : List Byte := [0]

/-- The state after a command that sent these messages and changed nothing else. -/
def sending (messages : List Output) (s : State) : State := { s with emitted := messages }

/-- Nothing changed in what the tables of the frame leave alone: supply, queue, delivery counter, rails, drowse, closed ring, zones,
settings, store and supervisor line. -/
def keepsBoard (s t : State) : Prop :=
  t.powered = s.powered ∧ t.pending = s.pending ∧ t.delivery = s.delivery ∧ t.railA = s.railA ∧ t.railB = s.railB ∧
    t.drowse = s.drowse ∧ t.ring = s.ring ∧ t.zones = s.zones ∧ t.settings = s.settings ∧ t.store = s.store ∧ t.line = s.line

/-- The same, with the doff sequencer and the carriage link's discard counter. -/
def keepsOuter (s t : State) : Prop := keepsBoard s t ∧ t.doff = s.doff ∧ t.carDiscards = s.carDiscards

/-- The faults and the notices stand. -/
def keepsReports (s t : State) : Prop := t.faults = s.faults ∧ t.notices = s.notices

/-- Nothing changed among the frame's tables: spindles, lamps, piecing lists, carriages, locks, planner and open shift. -/
def keepsTables (s t : State) : Prop :=
  t.spindles = s.spindles ∧ t.lamps = s.lamps ∧ t.listA = s.listA ∧ t.listB = s.listB ∧ t.car1 = s.car1 ∧ t.car2 = s.car2 ∧
    t.locks = s.locks ∧ t.planner = s.planner ∧ t.shift = s.shift

/-- R137, R140: the doff has been called with these flags and this stamp, and what follows at once may have followed. -/
def calledWith (early forced held : Bool) (stamp : Nat) (ph : DoffPhase) : Prop :=
  ph.callInfo = some { early := early, forced := forced, held := held, stamp := stamp }

/-- R138: what the doff state becomes at a progress, in SPINNING and WARNED. -/
def tableOutcome (s : State) (progress : Nat) (t : State) : Prop :=
  if s.doff.overrun ≤ progress ∧ s.doff.hold = true then calledWith false true true s.delivery.mill t.doff.phase
  else if s.doff.dPulses ≤ progress then
    if s.doff.hold = true then t.doff.phase = .warned ∧ t.doff.overdue = true
    else calledWith false false s.doff.overdue s.delivery.mill t.doff.phase
  else if s.doff.dPulses - s.doff.wPulses ≤ progress then t.doff.phase = .warned
  else t.doff.phase = .spinning ∧ t.doff.overdue = false

/-- R138, R147: a pulse reaches no point of the doff sequencer. -/
def noDoffPoint (s : State) : Prop :=
  let progress := min 281474976710655 (s.delivery.phi + 1) - s.doff.phiD
  match s.doff.phase with
  | .spinning => progress < s.doff.dPulses - s.doff.wPulses ∧ progress < s.doff.overrun
  | .warned => s.doff.dPulses - s.doff.wPulses ≤ progress ∧ progress < s.doff.dPulses ∧ progress < s.doff.overrun
  | .restarting => progress < s.doff.rwPulses
  | _ => True

/-- R143: the doff record opened by an entry to DOFFING from the doff sequencer of `s`, its cops counted on the spindles of `t`. -/
def doffRecordOf (s t : State) (call : CallInfo) : DoffRecord :=
  let cops := (t.spindles.filter fun sp => sp.state.code != 0).map (copRead t)
  { number := (s.doff.number + 1) % 65536, callStamp := call.stamp, clearStamp := s.delivery.mill, completion := none
    delivered := s.delivery.phi - s.doff.phiD, cops := (cops.filter fun c => c != 0).length
    shortCops := (cops.filter fun c => c != 0 && c * 100 < s.doff.lot.ps * s.doff.dPulses).length
    empty := (cops.filter fun c => c == 0).length, lot := s.doff.lot.number, appliedLot := none, early := call.early
    forced := call.forced, held := call.held }

/-- R93: what entry to PARKING does to both carriage records: PARK to READY, SUSPECT and BUSY ones, whose park timer starts; the first two
are PARKING and the third has its park pending; every other record stands. -/
def parkSent (s t : State) : Prop :=
  ∀ r : RecordNo,
    let sentTo := fun (st : Station) (link : CarriageLink) =>
      carriage t r =
          { carriage s r with link := link, parkTimer := some (s.delivery.now + s.settings.working.parkTimeout) } ∧
        .carriage st.number .park ∈ t.emitted
    match (carriage s r).link with
    | .enrolled st side pos dir .ready => sentTo st (.enrolled st side pos dir .parking)
    | .enrolled st side pos dir .suspect => sentTo st (.enrolled st side pos dir .parking)
    | .enrolled st side pos dir (.busy o) => sentTo st (.enrolled st side pos dir (.busy { o with parkPending := true }))
    | _ => carriage t r = carriage s r

/-- R43: the spindles of a sector at which a report shows that yarn has been pieced by hand. -/
def handPiecedIn (s : State) (sector : Nat) (present : PresenceFlags) : List Nat :=
  (List.range 24).filterMap fun p =>
    let sp := spindle s (24 * (sector - 1) + p + 1)
    if (sp.state.code = 4 ∨ sp.state.code = 6) ∧ present.getLsbD p = true ∧
        s.settings.working.settleCount ≤ min 16 (sp.streak + 1) then some (24 * (sector - 1) + p + 1)
    else none

/-- R116, R123: a call made now stands in the roving call list, or has been issued at once. -/
def calledNow (call : Call) (s t : State) : Prop :=
  call ∈ t.planner.calls ∨ ∃ a, t.planner.transport = .called a ∧ a.call = call ∧ a.callTime = s.delivery.now

/-- Section 11.6: the body length of a request kind suits it. -/
def lengthSuits (kind : Nat) (body : List Byte) : Bool :=
  match kind with
  | 0x03 | 0x06 | 0x07 | 0x0A | 0x11 | 0x16 | 0x1B | 0x1C => body.length == 1
  | 0x0B | 0x0D | 0x0E | 0x13 | 0x14 | 0x15 | 0x17 => body.length == 2
  | 0x05 => body.length == 3
  | 0x04 | 0x1E => body.length == 4
  | 0x12 => body.length == 6
  | 0x10 => body.length == 13
  | 0x0F => 6 ≤ body.length && body.length % 5 == 1
  | _ => body.length == 0

/-- R201: one more bad request counted. -/
def oneBadRequest (s : State) : State :=
  { s with line := { s.line with badRequests := min 65535 (s.line.badRequests + 1) } }

/-- R91: a record's link-loss timer started again, everything sent before being gone from the links. -/
def heardFrom (record : RecordNo) (s : State) : State :=
  updCarriage record (fun c => { c with linkTimer := some (s.delivery.now + 5) }) { s with emitted := [] }

end Sys2Proof.Machine
end

