-- ==== Sys2Proof/Certificates/Slice0/Obligations.lean ====
section
/-! DEFINITION. The statements for the provers. Each is over every state, or over every state that meets the conditions it names;
each docstring names the rules it rests on. -/

open Sys2Proof Sys2Proof.Machine

/-! ## The step and the whole machine -/

/-- The step takes the command at the front of the queue and carries it out with the queue's rest. The second clause, the idle step
on an empty queue, is the model's choice (assumption log entry 2). -/
def Obligations.StepTakesTheFrontCommand : Prop :=
  (∀ (c : Instr) (rest : List Instr) (s : State), step { s with pending := c :: rest } = exec c { s with pending := rest }) ∧
    ∀ s : State, s.pending = [] → step s = .next s

/-- Every command answers a next state, whatever its operands and the state, and leaves the queue of the commands behind it alone.
That an event that cannot occur answers too, and so does a command at a board without power, is the model's choice (assumption log
entries 3 and 9). -/
def Obligations.EveryCommandAnswers : Prop := ∀ (c : Instr) (s : State), ∃ t, exec c s = .next t ∧ t.pending = s.pending

/-- R3, R4, R6, R7, R8, R187: between power-on resets the geometry, d, P, the address and the speed stand; the odometer moves only by
a front-roller pulse, the run-seconds clock only by a second, the mill clock only by a second and Set Clock, and the level of drive
running only by its edges. -/
def Obligations.GeometryAndClocksStand : Prop :=
  ∀ (c : Instr) (s t : State), (∀ a v d f, c ≠ .powerOnReset a v d f) → c ≠ .powerLoss → exec c s = .next t →
    t.powered = s.powered ∧ t.delivery.sides = s.delivery.sides ∧ t.delivery.sectors = s.delivery.sectors ∧
      t.delivery.d = s.delivery.d ∧ t.delivery.p = s.delivery.p ∧ t.line.address = s.line.address ∧ t.line.speed = s.line.speed ∧
      (c ≠ .frontRollerPulse → t.delivery.phi = s.delivery.phi) ∧ (c ≠ .runSecond → t.delivery.now = s.delivery.now) ∧
      ((∀ b body, c ≠ .setClock b body) → t.delivery.clockSet = s.delivery.clockSet) ∧
      (c ≠ .runSecond → (∀ b body, c ≠ .setClock b body) → t.delivery.mill = s.delivery.mill) ∧
      (c ≠ .driveRunningRise → c ≠ .driveRunningFall → t.delivery.driving = s.delivery.driving)

/-- R135, R137, R191: doff request, carriages clear and frame alarm follow the state after every step, and carriages clear stays asserted
only while every carriage is PARKED, ABSENT or REJECTED. -/
def Obligations.StepKeepsOutputs : Prop :=
  ∀ s t : State, outputsSound s ∧ clearSound s → step s = .next t → outputsSound t ∧ clearSound t

/-- R31, R32, R33, R49, R146, R159, R167, R196: every step keeps the piecing lists within 96 entries, the notice queue within 32, the doff
log within 16, the shift ring and the rings in the store within 3, the segments of the open shift within 4, and each spindle's streak,
attempts, failures and break ring within their ranges. R49: a piecing list has entries of its side alone. R175: the withheld set names
sectors, counted from 1. -/
def Obligations.StepKeepsCapacities : Prop := ∀ s t : State, capacitiesSound s → step s = .next t → capacitiesSound t

/-- R19: the eight categories of the open shift, as read, go on adding up to N times the seconds since it opened. -/
def Obligations.StepKeepsTheBooks : Prop := ∀ s t : State, booksSound s → step s = .next t → booksSound t

/-- R4, R34, R152: the odometer stays within its range, and every spindle's cop pulses, as read, within the doff progress. -/
def Obligations.StepKeepsCopsWithinProgress : Prop := ∀ s t : State, copsSound s → step s = .next t → copsSound t

/-- R49, R50, R52 to R55: the piecing lists stay in order and within 96 entries, hold the BROKEN spindles of their side alone, and
leave a spindle out only while they are full. R175: the withheld set stays that of the zone records. -/
def Obligations.StepKeepsTheLists : Prop := ∀ s t : State, listsSound s → step s = .next t → listsSound t

/-- The state after reset meets every invariant of the statements above, and carriages clear is rightly dropped. -/
def Obligations.ResetMeetsTheInvariants : Prop :=
  outputsSound State.reset ∧ clearSound State.reset ∧ capacitiesSound State.reset ∧ booksSound State.reset ∧ copsSound State.reset ∧
    listsSound State.reset

/-- R200, R208, section 11.6: every request, framed for a unit as R208 lays a frame out and judged by that unit after the start mark,
is taken as that request with that body; no byte of the frame is lost or read twice. -/
def Obligations.FramesRoundTrip : Prop :=
  ∀ (unit kind : Nat) (c : Instr), 1 ≤ unit → unit ≤ 31 → kindOfRequest c = some kind → (bodyOfRequest c).length ≤ 250 →
    judgeFrame unit ((frameOf unit kind (bodyOfRequest c)).drop 1) = c

/-! ## Supply and reset -/

/-- POWER_ON_RESET (R3 to R9, R21, R30, R47, R97, R110, R132, R156, R172, R186, R187) with a valid copy in the store: the newest copy
gives settings, zones, lot and ring, and every block stands as its reset rule says. That the row at a board that has power is a power
cycle, which cuts off a running write, is the model's choice (assumption log entry 10); that
the pulse mark of R21 and R47 is held outside RUNNING is read from them against R31 (entry 38). -/
def Obligations.PowerOnLoadsTheNewestCopy : Prop :=
  ∀ (s : State) (address speed : Nat) (driving dofferActive : Bool) (copy : CopyNo) (image : Image),
    newestCopy s.store.cutOff = some (copy, image) →
    ∃ t, exec (.powerOnReset address speed driving dofferActive) s = .next t ∧ t.powered = true ∧ t.pending = s.pending ∧
      t.delivery.sides = image.settings.sides ∧ t.delivery.sectors = image.settings.sectors ∧ t.delivery.d = image.settings.d ∧
      t.delivery.p = image.settings.p ∧ t.delivery.phi = 0 ∧ t.delivery.now = 0 ∧ t.delivery.mill = 0 ∧
      t.delivery.clockSet = false ∧ t.delivery.driving = driving ∧ t.delivery.pulseLost = false ∧
      t.delivery.pulseTimer = (if driving then some image.settings.working.pulseLossTime else none) ∧
      t.settings = { working := image.settings.working, retained := image.settings } ∧ t.zones.records = image.zones ∧
      t.zones.withheld = withheldSet image.zones image.settings.sides image.settings.sectors ∧ t.ring = image.ring ∧
      t.store = s.store.cutOff ∧ t.spindles.length = 24 * (image.settings.sides * image.settings.sectors) ∧
      (∀ n, 1 ≤ n → n ≤ t.spindles.length →
        spindle t n =
          let st : SpindleState :=
            if t.zones.withheld.contains (sectorOf n) then .withheld else if driving then .settling .driveStart 0 else .idle
          freshSpindle st (engagedOnEntry st)) ∧
      t.listA = [] ∧ t.listB = [] ∧ t.car1 = freshCarriage ∧ t.car2 = freshCarriage ∧ t.planner = freshPlanner ∧
      (∀ l ∈ t.locks, l = freshLock) ∧ t.locks.length = image.settings.sides * image.settings.sectors ∧
      (∀ l ∈ t.lamps, l = freshLamp) ∧ t.lamps.length = image.settings.sides * image.settings.sectors ∧
      t.railA = freshRail image.settings.sectors ∧
      t.railB = freshRail (if image.settings.sides = 2 then image.settings.sectors else 0) ∧
      t.drowse =
        { timer :=
            if driving = true ∨ image.settings.working.drowseDelay = 0 then none else some image.settings.working.drowseDelay
          deferred := false, drowsing := false } ∧
      t.emitted = [] ∧ t.carDiscards = 0 ∧ t.doff.phase = .spinning ∧ t.doff.phiD = 0 ∧
      t.doff.lot = image.settings.lot ∧ t.doff.pendingLot = none ∧ t.doff.number = 0 ∧ t.doff.log = [] ∧ t.doff.hold = false ∧
      t.doff.overdue = false ∧ t.doff.dofferActive = dofferActive ∧ t.doff.dPulses = doffPulses t.delivery image.settings.lot ∧
      t.doff.wPulses = warningPulses t.delivery image.settings.lot ∧
      t.doff.overrun = overrunDistance t.doff.dPulses image.settings.working.overrunLimit ∧
      t.doff.rwPulses = restartPulses t.delivery image.settings.working.restartWindow ∧ t.doff.request = false ∧
      t.doff.clear = false ∧
      t.shift =
        freshShift (match image.ring with | [] => 1 | r :: _ => nextShiftNumber r.shift.number) 0 0 true true image.settings.lot ∧
      t.faults = clearedFaults ∧ t.notices = { latches := 0#6, queue := [], lost := 0, latchedSince := 0#6, lostSince := 0 } ∧
      t.line =
        { address := address, speed := speed, receiver := .hunting, reply := none, discardedFrames := 0, badRequests := 0
          cursor := 1 }

/-- R186, R199: power-on with no valid copy takes the defaults, raises STORE_INVALID with its CRITICAL notice and the frame
alarm, and begins to write the default image to copy 1 with write sequence number 1. The state after reset is the power-on reset
of a board with a blank store, straps at 1 and 0 and both level inputs dropped: which board, is the model's choice (assumption
log entry 1), and so is that the row at a board that has power is a power cycle, which cuts off a running write (entry 10). -/
def Obligations.PowerOnOfAnInvalidStore : Prop :=
  (∀ (s : State) (address speed : Nat) (driving dofferActive : Bool), s.store.cutOff.copy1 = none → s.store.cutOff.copy2 = none →
      ∃ t, exec (.powerOnReset address speed driving dofferActive) s = .next t ∧ t.delivery.sides = 2 ∧ t.delivery.sectors = 42 ∧
        t.delivery.d = 2700 ∧ t.delivery.p = 4 ∧ t.settings = { working := defaultWorking, retained := defaultRetained } ∧
        t.zones.records = defaultZones ∧ t.zones.withheld = [] ∧ t.ring = [] ∧ t.doff.lot = defaultLot ∧
        t.faults.status = 0b10000000000#11 ∧ t.faults.first = some { cls := .storeInvalid, stamp := 0, subject := .none, detail := .none } ∧
        t.faults.alarm = true ∧ t.notices.latches = 0b100000#6 ∧ t.notices.queue.map (fun n => (n.kind, n.level)) =
          [(.fault .storeInvalid, .critical)] ∧
        t.store.copy1 = none ∧ t.store.copy2 = none ∧ t.store.rewrite = false ∧
        t.store.writer = .writing .one { settings := defaultRetained, zones := defaultZones, ring := [], sequence := 1 }) ∧
  (∀ s : State, s.store.cutOff.copy1 = none → s.store.cutOff.copy2 = none → s.pending = [] →
      exec (.powerOnReset 1 0 false false) s = .next State.reset)

/-! ## Clocks, pulses and the drive -/

/-- RUN_SECOND (R6, R7): both clocks move by one second and nothing else changes. The run-seconds clock stops at its top, the mill
clock passes to 0; that the mill clock goes on beside a stopped run-seconds clock is assumption log entry 36. -/
def Obligations.SecondAdvancesBothClocks : Prop :=
  ∀ s : State, s.powered = true →
    exec .runSecond s =
      .next
        { s with
          emitted := []
          delivery :=
            { s.delivery with
              now := min 4294967295 (s.delivery.now + 1), mill := (s.delivery.mill + 1) % 4294967296 } }

/-- FRONT_ROLLER_PULSE (R4, R5, R9, R138): a pulse that reaches no point adds one to the odometer, starts the pulse-loss timer again
while drive running is asserted, and changes nothing else, but for the overdue flag, which is clear below the warning point. R114, R116,
R123: a pulse that reaches the head of the call-point list, and no other point, lists its group PLANNED with origin PLAN and removes its
call point; the call may be issued at once. -/
def Obligations.PulseBetweenThePoints : Prop :=
  ∀ s : State, s.powered = true → s.delivery.pulseLost = false → noDoffPoint s →
    let phi := min 281474976710655 (s.delivery.phi + 1)
    let moved : State :=
      { s with
        emitted := []
        delivery :=
          { s.delivery with
            phi := phi
            pulseTimer :=
              if s.delivery.driving then some (s.delivery.now + s.settings.working.pulseLossTime) else s.delivery.pulseTimer }
        doff := if s.doff.phase = .spinning then { s.doff with overdue := false } else s.doff }
    ((∀ q ∈ s.planner.points, phi < q.1) → exec .frontRollerPulse s = .next moved) ∧
      ∀ (point g : Nat) (rest : List (Nat × Nat)), s.planner.points = (point, g) :: rest → point ≤ phi →
        (∀ q ∈ rest, phi < q.1) → callState s g = .none → whollyWithheld s g = false →
        ∃ t, exec .frontRollerPulse s = .next t ∧ t = { moved with planner := t.planner, emitted := t.emitted } ∧
          calledNow { group := g, urgency := .planned, queued := s.delivery.now, origin := .plan } s t ∧
          ∀ q ∈ t.planner.points, q.2 ≠ g

/-- FRONT_ROLLER_PULSE (R138, R140, R149): in SPINNING and WARNED the doff state after a pulse is the one the table gives for the
progress after that pulse, with its call flags and call stamp. -/
def Obligations.PulseFollowsTheDoffTable : Prop :=
  ∀ s : State, s.powered = true → (s.doff.phase = .spinning ∨ s.doff.phase = .warned) →
    ∃ t, exec .frontRollerPulse s = .next t ∧ t.delivery.phi = min 281474976710655 (s.delivery.phi + 1) ∧
      tableOutcome s (min 281474976710655 (s.delivery.phi + 1) - s.doff.phiD) t ∧ t.doff.phiD = s.doff.phiD ∧
      t.doff.lot = s.doff.lot ∧ t.doff.pendingLot = s.doff.pendingLot ∧ t.doff.log = s.doff.log ∧ t.settings = s.settings ∧
      t.store = s.store ∧ t.ring = s.ring ∧ t.zones = s.zones ∧ t.line = s.line

/-- PULSE_LOSS and the pulse after it (R9): the condition is raised once, with fault PULSE_LOSS and no subject; the next pulse with
drive running asserted clears it with notice PULSE_RESUMED, of level INFO and with no subject, and the timer runs again (where the pulse
forces a held doff, that doff's notice follows). That a PULSE_LOSS of a timer that is not due
changes nothing is the model's choice (assumption log entry 3). -/
def Obligations.PulseLossIsRaisedAndEnds : Prop :=
  (∀ (s : State) (deadline : Nat), s.powered = true → s.delivery.pulseTimer = some deadline → deadline ≤ s.delivery.now →
      exec .pulseLoss s =
        .next
          (raiseFault .pulseLoss .none .none
            { s with emitted := [], delivery := { s.delivery with pulseLost := true, pulseTimer := none } })) ∧
    (∀ s : State, s.powered = true → (s.delivery.pulseTimer = none ∨ ∃ d, s.delivery.pulseTimer = some d ∧ s.delivery.now < d) →
      exec .pulseLoss s = .next { s with emitted := [] }) ∧
    ∀ s : State, s.powered = true → s.delivery.driving = true → s.delivery.pulseLost = true →
      ∃ t, exec .frontRollerPulse s = .next t ∧ t.delivery.pulseLost = false ∧
        t.delivery.pulseTimer = some (s.delivery.now + s.settings.working.pulseLossTime) ∧
        t.notices.latches.getLsbD 5 = true ∧
        (s.doff.hold = false ∨ min 281474976710655 (s.delivery.phi + 1) - s.doff.phiD < s.doff.overrun →
          t.notices = (raiseNotice .pulseResumed .info .none .none s).notices)

/-- DRIVE_RUNNING_RISE (R8, R27, R29, R37, R38, R81): the level and the pulse-loss timer; a rail that is ASLEEP is AWAKE at head 1, one
in a sleep round leaves it where its poll position stands (that this position is that of the round, and that the miss counts fall to 0
there too, is read from R28 and R29, assumption log entry 14), and in both every head is SETTLING-HEAD with 2 to discard, no miss and its return mark kept; a rail that is awake outside a
round stands; an IDLE spindle enters SETTLING with origin DRIVE_START, a BROKEN one stays or is ordered for piecing, the others stand;
what the drive does not touch stands. A rise of a level that is asserted already is no edge. DRIVE_RUNNING_FALL (R8, R9, R27, R38, R93, R141 to R143): the level, pulse-
loss detection and the drowse delay; every RUNNING and SETTLING spindle enters IDLE and the others stand; CALLED passes to
PARKING, where PARK is sent to each carriage that is out (R93), and on to DOFFING with its doff record (R142, R143) where every carriage
is clear. A fall of a level that is dropped already is no edge. That such a command
changes nothing is the model's choice (assumption log entry 3). -/
def Obligations.DriveEdgesStartAndStopTheFrame : Prop :=
  ((∀ s : State, s.powered = true → s.delivery.driving = true → exec .driveRunningRise s = .next { s with emitted := [] }) ∧
      ∀ s : State, s.powered = true → s.delivery.driving = false → s.spindles.length = spindleCount s →
        ∃ t, exec .driveRunningRise s = .next t ∧
          t.delivery =
            { s.delivery with driving := true, pulseTimer := some (s.delivery.now + s.settings.working.pulseLossTime) } ∧
          (∀ side : Side,
            let rail := railOf s side
            let heads := rail.heads.map fun h => { h with state := .settlingHead 2, misses := 0 }
            railOf t side =
              if rail.awake = false then { rail with awake := true, sleepRound := false, position := 1, heads := heads }
              else if rail.sleepRound = true then { rail with sleepRound := false, heads := heads }
              else rail) ∧
          t.drowse = { timer := none, deferred := false, drowsing := false } ∧
          (∀ n, 1 ≤ n → n ≤ s.spindles.length →
            match (spindle s n).state with
            | .idle => (spindle t n).state = .settling .driveStart s.delivery.now ∧ (spindle t n).stopEngaged = false
            | .broken c x => (spindle t n).state = .broken c x ∨ (spindle t n).state = .piecing c x
            | st => (spindle t n).state = st) ∧
          t.powered = s.powered ∧ t.pending = s.pending ∧ t.doff = s.doff ∧ t.ring = s.ring ∧ t.zones = s.zones ∧
          t.settings = s.settings ∧ t.store = s.store ∧ t.line = s.line) ∧
  ((∀ s : State, s.powered = true → s.delivery.driving = false → exec .driveRunningFall s = .next { s with emitted := [] }) ∧
      ∀ s : State, s.powered = true → s.delivery.driving = true → s.spindles.length = spindleCount s →
        ∃ t, exec .driveRunningFall s = .next t ∧
          t.delivery = { s.delivery with driving := false, pulseTimer := none, pulseLost := false } ∧
          t.drowse =
            { timer :=
                if s.settings.working.drowseDelay = 0 then none else some (s.delivery.now + s.settings.working.drowseDelay)
              deferred := false, drowsing := false } ∧
          t.railA = s.railA ∧ t.railB = s.railB ∧
          (∀ n, 1 ≤ n → n ≤ s.spindles.length →
            match (spindle s n).state with
            | .running => (spindle t n).state = .idle
            | .settling _ _ => (spindle t n).state = .idle
            | st => (spindle t n).state = st) ∧
          (match s.doff.phase with
           | .called call =>
             parkSent s t ∧
               (if frameClear s then
                  t.doff.phase = .doffing call (doffRecordOf s t call) ∧ t.doff.number = (s.doff.number + 1) % 65536
                else t.doff.phase = .parking call ∧ t.doff.number = s.doff.number)
           | _ => t.doff = s.doff ∧ t.car1 = s.car1 ∧ t.car2 = s.car2) ∧
          t.listA = s.listA ∧ t.listB = s.listB ∧ t.locks = s.locks ∧ t.powered = s.powered ∧ t.pending = s.pending ∧
          t.ring = s.ring ∧ t.zones = s.zones ∧ t.settings = s.settings ∧ t.store = s.store ∧ t.line = s.line)

/-! ## The rails and the spindle table's timers -/

/-- HEAD_POLL and SLEEP_POLL (R22, R28): the poll sent carries the roving stops and the lamp of the head's sector, or in a sleep round
the lamp OFF and SLEEP; the poll position moves on, and a head told to sleep is ASLEEP. Where no poll of that kind is due nothing
changes (the model's choice, assumption log entry 3); that a sleep poll follows the poll position and awaits no answer is read from R28
(entries 14 and 15). -/
def Obligations.PollsCarryTheSector : Prop :=
  (∀ (s : State) (side : Side), s.powered = true →
      exec (.headPoll side) s =
        .next
          (let r := railOf s side
           if sideConfigured s side = true ∧ r.awake = true ∧ r.sleepRound = false ∧ r.inFlight = none ∧
               (nth r.heads r.position freshHead).state ≠ .asleep then
             updRail side
               (fun x =>
                 { x with inFlight := some r.position, position := if r.heads.length ≤ r.position then 1 else r.position + 1 })
               { s with
                 emitted :=
                   [.poll side r.position
                     ((spindlesOfSector (sectorOfHead s side r.position)).map fun n => (spindle s n).stopEngaged)
                     (lampOf s (sectorOfHead s side r.position)).state false] }
           else { s with emitted := [] })) ∧
    ∀ (s : State) (side : Side), s.powered = true →
      exec (.sleepPoll side) s =
        .next
          (let r := railOf s side
           if sideConfigured s side = true ∧ r.awake = true ∧ r.sleepRound = true ∧ r.inFlight = none then
             updRail side
               (fun x =>
                 { x with
                   heads := modifyNth x.heads r.position fun h => { h with state := .asleep }
                   awake := decide (r.position < r.heads.length), sleepRound := decide (r.position < r.heads.length)
                   position := if r.heads.length ≤ r.position then 1 else r.position + 1 })
               { s with
                 emitted :=
                   [.poll side r.position
                     ((spindlesOfSector (sectorOfHead s side r.position)).map fun n => (spindle s n).stopEngaged) .off true] }
           else { s with emitted := [] })

/-- POLL_ANSWER that fails its check or has head-ok clear, and ANSWER_WAIT_EXPIRY (R23, R25): both are the same miss. It is
counted on the rail and at the head; a third one in ACTIVE or SETTLING-HEAD makes the head SILENT with its return mark, and
raises HEAD_SILENT with the sector; nothing else changes. With no poll awaiting an answer nothing changes. POLL_ANSWER that is
valid, outside ACTIVE (R23, R26): the miss count becomes 0; SILENT gives SETTLING-HEAD with one discard left, SETTLING-HEAD
counts down and enters ACTIVE at 0, where every streak of the sector is 0, every settle start there is now, and a head that had
been SILENT raises HEAD_BACK. The report itself reaches no spindle. That an answer with no poll in flight changes nothing is the
model's choice (assumption log entry 3). -/
def Obligations.HeadsFallSilentAndReturn : Prop :=
  ((∀ (s : State) (side : Side) (checkOk headOk : Bool) (present : PresenceFlags), (checkOk && headOk) = false →
        exec (.pollAnswer side checkOk headOk present) s = exec (.answerWaitExpiry side) s) ∧
      (∀ (s : State) (side : Side), s.powered = true → (railOf s side).inFlight = none →
        exec (.answerWaitExpiry side) s = .next { s with emitted := [] }) ∧
      ∀ (s : State) (side : Side) (h : Nat), s.powered = true → (railOf s side).inFlight = some h → 1 ≤ h →
        h ≤ (railOf s side).heads.length →
        exec (.answerWaitExpiry side) s =
          .next
            (let head := headAt s side h
             let misses := min 3 (head.misses + 1)
             let counted : Rail → Head → Rail := fun r x =>
               { r with inFlight := none, discarded := min 65535 (r.discarded + 1), heads := modifyNth r.heads h fun _ => x }
             if 3 ≤ misses ∧ head.state.canFallSilent = true then
               raiseFault .headSilent (.sector (sectorOfHead s side h)) .none
                 (updRail side (fun r => counted r { state := .silent, misses := misses, returnMark := true })
                   { s with emitted := [] })
             else updRail side (fun r => counted r { head with misses := misses }) { s with emitted := [] })) ∧
  (∀ (s : State) (side : Side) (h : Nat) (present : PresenceFlags), s.powered = true → (railOf s side).inFlight = some h →
      1 ≤ h → h ≤ (railOf s side).heads.length → sectorOfHead s side h * 24 ≤ s.spindles.length →
      ∃ t, exec (.pollAnswer side true true present) s = .next t ∧ (railOf t side).inFlight = none ∧
        (railOf t side).discarded = (railOf s side).discarded ∧
        (∀ k, k ≠ h → headAt t side k = headAt s side k) ∧
        match (headAt s side h).state with
        | .silent =>
          headAt t side h = { headAt s side h with state := .settlingHead 1, misses := 0 } ∧ t.spindles = s.spindles ∧
            keepsReports s t
        | .settlingHead k =>
          if 2 ≤ k then
            headAt t side h = { headAt s side h with state := .settlingHead (k - 1), misses := 0 } ∧ t.spindles = s.spindles ∧
              keepsReports s t
          else
            headAt t side h = { state := .active, misses := 0, returnMark := false } ∧
              (∀ n, 1 ≤ n →
                spindle t n =
                  if sectorOf n = sectorOfHead s side h then
                    { spindle s n with
                      streak := 0
                      state :=
                        match (spindle s n).state with
                        | .settling o _ => .settling o s.delivery.now
                        | other => other }
                  else spindle s n) ∧
              t.faults = s.faults ∧
              (if (headAt s side h).returnMark then
                 t.notices = (raiseNotice .headBack .info (.sector (sectorOfHead s side h)) .none s).notices
               else t.notices = s.notices)
        | _ => True)

/-- POLL_ANSWER that is valid, in ACTIVE (R19, R32, R33, R36, R39, R41, R42, R43, R54, R63): for each spindle of the sector the report
counts or clears its streak; the settle count makes SETTLING into RUNNING with its pulse mark at the odometer and its attempts and
failures 0; the break confirm count breaks a RUNNING spindle, which books its pulses, waits for roving where its roving is out, and
otherwise is BROKEN, already ordered for piecing, or LOCKED as a rogue, with its end break counted and stamped; the settle count at a
BROKEN or WAIT_ROVING spindle shows a hand piecing, which is counted and takes the spindle off its list to SETTLING, or to IDLE on a
stopped frame. (Only BROKEN spindles have entries or are left unlisted, as StepKeepsTheLists keeps it. That a report changes all its spindles before one
refill and one dispatch is read from R55, assumption log entry 37; their order is the model's choice, entry 11.) -/
def Obligations.AcceptedReportDecidesEachSpindle : Prop :=
  ∀ (s : State) (side : Side) (h p : Nat) (present : PresenceFlags), s.powered = true → (railOf s side).inFlight = some h →
    1 ≤ h → h ≤ (railOf s side).heads.length → (headAt s side h).state = .active → p < 24 →
    sectorOfHead s side h * 24 ≤ s.spindles.length →
    ((spindle s (24 * (sectorOfHead s side h - 1) + p + 1)).state.isBroken = false →
      (spindle s (24 * (sectorOfHead s side h - 1) + p + 1)).unlisted = false ∧
        ∀ e ∈ s.listA ++ s.listB, e.spindle ≠ 24 * (sectorOfHead s side h - 1) + p + 1) →
    ∃ t, exec (.pollAnswer side true true present) s = .next t ∧ (headAt t side h).misses = 0 ∧
      (s.shift.handPieced ≤ 4294967295 →
        t.shift.handPieced =
          min 4294967295 (s.shift.handPieced + (handPiecedIn s (sectorOfHead s side h) present).length)) ∧
      let n := 24 * (sectorOfHead s side h - 1) + p + 1
      let before := spindle s n
      let after := spindle t n
      let counted := min 16 (before.streak + 1)
      let byHand :=
        after.state = (if s.delivery.driving then .settling .hand s.delivery.now else .idle) ∧ after.streak = 0 ∧
          after.stopEngaged = false ∧ after.unlisted = false ∧ listed t n = false ∧ after.attempts = before.attempts ∧
          after.failures = before.failures ∧ copRead t after = copRead s before
      match before.state with
      | .settling _ _ =>
        if present.getLsbD p = false then after = { before with streak := 0 }
        else if counted < s.settings.working.settleCount then after = { before with streak := counted }
        else
          after.state = .running ∧ after.pulseMark = some s.delivery.phi ∧ after.streak = 0 ∧ after.attempts = 0 ∧ after.failures = 0 ∧
            after.stopEngaged = false ∧ copRead t after = copRead s before
      | .running =>
        let spun := s.delivery.phi - before.pulseMark.getD s.delivery.phi
        if present.getLsbD p = true then after = { before with streak := 0 }
        else if counted < s.settings.working.breakConfirm then after = { before with streak := counted }
        else
          after.streak = 0 ∧ after.stopEngaged = true ∧
            after.pulseMark = none ∧ after.copPulses = min 4294967295 (before.copPulses + spun) ∧
            after.rovingUsed = min 4294967295 (before.rovingUsed + spun) ∧
            after.shiftPulses = min 4294967295 (before.shiftPulses + spun) ∧
            after.attempts = before.attempts ∧ after.failures = before.failures ∧
            if rovingOut s n = true then
              after.state = .waitRoving s.delivery.now ∧ after.breakRing = before.breakRing ∧
                after.shiftEndBreaks = before.shiftEndBreaks
            else
              after.breakRing = stampRing before.breakRing s.delivery.now ∧
                after.shiftEndBreaks = min 4294967295 (before.shiftEndBreaks + 1) ∧
                (let cause : BreakCause := if s.doff.phase = .restarting then .start else .yarn
                 if s.settings.working.rogueCount ≠ 0 ∧
                     s.settings.working.rogueCount ≤
                       stampsWithin after.breakRing s.delivery.now s.settings.working.rogueWindow then
                   after.state = .locked .rogue
                 else after.state = .broken cause s.delivery.now ∨ after.state = .piecing cause s.delivery.now)
      | .broken cause time =>
        if present.getLsbD p = true ∧ s.settings.working.settleCount ≤ counted then byHand
        else
          (after.state = .broken cause time ∧ after.streak = if present.getLsbD p = true then counted else 0) ∨
            after.state = .piecing cause time
      | .waitRoving _ =>
        if present.getLsbD p = true ∧ s.settings.working.settleCount ≤ counted then byHand
        else after = { before with streak := if present.getLsbD p = true then counted else 0 }
      | .idle => after = before
      | .withheld => after = before
      | .locked _ => after = before
      | .piecing cause time => after.state = .piecing cause time

/-- SETTLE_LIMIT_REACHED (R40, R42): a sensed SETTLING spindle past its limit waits for roving where its roving is out; otherwise its
cause is NOT_HELD after a carriage's join and NO_START else, the break is counted under it, only NOT_HELD is an end break, and the
sector's lamp is lit (R45). A
spindle that is not sensed, not SETTLING or not yet at the limit is left as it is (the model's choice of what such a command does,
assumption log entries 3 and 24). -/
def Obligations.SettleLimitBreaksASpindle : Prop :=
  (∀ (s : State) (n start : Nat) (origin : SettleOrigin), s.powered = true → isSpindle s n = true → n ≤ s.spindles.length →
      (spindle s n).state = .settling origin start → unsensed s n = false →
      start + s.settings.working.settleLimit ≤ s.delivery.now →
      ∃ t, exec (.settleLimitReached n) s = .next t ∧ keepsOuter s t ∧
        let cause : BreakCause := if rovingOut s n then .rovingOut else if origin = .pieced then .notHeld else .noStart
        t.shift.breaks = s.shift.breaks.bump cause ∧ (spindle t n).streak = 0 ∧ (spindle t n).stopEngaged = true ∧
          copRead t (spindle t n) = copRead s (spindle s n) ∧
          (sectorOf n ≤ s.lamps.length → (lampOf t (sectorOf n)).state ≠ .off ∧ (lampOf t (sectorOf n)).hold = none) ∧
          (spindle t n).shiftEndBreaks =
            (if cause = .notHeld then min 4294967295 ((spindle s n).shiftEndBreaks + 1) else (spindle s n).shiftEndBreaks) ∧
          (match cause with
           | .rovingOut => (spindle t n).state = .waitRoving s.delivery.now
           | .notHeld =>
             (spindle t n).state = .broken .notHeld s.delivery.now ∨ (spindle t n).state = .piecing .notHeld s.delivery.now ∨
               (spindle t n).state = .locked .rogue
           | c => (spindle t n).state = .broken c s.delivery.now ∨ (spindle t n).state = .piecing c s.delivery.now)) ∧
    ∀ (s : State) (n : Nat), s.powered = true →
      (unsensed s n = true ∨ isSpindle s n = false ∨
        (∀ o x, (spindle s n).state = .settling o x → s.delivery.now < x + s.settings.working.settleLimit)) →
      exec (.settleLimitReached n) s = .next { s with emitted := [] }

/-- LAMP_HOLD_EXPIRY and DROWSE_DELAY_EXPIRY (R27, R28, R46): at the expiry of its hold timer a lamp goes OFF; at the expiry of the
drowse delay both rails that are AWAKE begin a sleep round at head 1, or the test is put off while a doff is called. A timer that has
not expired changes nothing (the model's choice, assumption log entry 3; the start at head 1 is entry 14). R45, R46: at every change of
state of a spindle its sector's lamp is worked out: FLASHING for a LOCKED spindle, STEADY for one that is broken, in piecing or waiting
for roving, STEADY through the hold time when the last cause has cleared, OFF otherwise; every other lamp stands. -/
def Obligations.SensingTimersExpire : Prop :=
  (∀ (s : State) (n : Nat) (st : SpindleState), 1 ≤ n → n ≤ s.spindles.length → sectorOf n ≤ s.lamps.length →
      let k := sectorOf n
      let t := changeState n st s
      (∀ j, j ≠ k → lampOf t j = lampOf s j) ∧
        lampOf t k =
          if ∃ m ∈ spindlesOfSector k, (spindle t m).state.code = 7 then { state := .flashing, hold := none }
          else if ∃ m ∈ spindlesOfSector k, (spindle t m).state.code ∈ [4, 5, 6] then { state := .steady, hold := none }
          else if ∃ m ∈ spindlesOfSector k, (spindle s m).state.code ∈ [4, 5, 6, 7] then
            if s.settings.working.lampHold = 0 then { state := .off, hold := none }
            else { state := .steady, hold := some (s.delivery.now + s.settings.working.lampHold) }
          else if (lampOf s k).hold = none then { state := .off, hold := none }
          else { state := .steady, hold := (lampOf s k).hold }) ∧
  (∀ (s : State) (k : Nat), s.powered = true →
      exec (.lampHoldExpiry k) s =
        .next
          (if expired (lampOf s k).hold s.delivery.now = true then
             updLamp k (fun _ => { state := .off, hold := none }) { s with emitted := [] }
           else { s with emitted := [] })) ∧
    ∀ s : State, s.powered = true →
      exec .drowseDelayExpiry s =
        .next
          (if expired s.drowse.timer s.delivery.now = true then
             match s.doff.phase.callInfo with
             | some _ => { s with emitted := [], drowse := { s.drowse with timer := none, deferred := true } }
             | none =>
               { s with
                 emitted := []
                 drowse := { timer := none, deferred := false, drowsing := true }
                 railA := if s.railA.awake then { s.railA with sleepRound := true, position := 1 } else s.railA
                 railB :=
                   if s.delivery.sides = 2 ∧ s.railB.awake = true then { s.railB with sleepRound := true, position := 1 }
                   else s.railB }
           else { s with emitted := [] })

/-! ## Requests about one spindle (chapter 3) -/

/-- PIECE_SPINDLE (R59, R60): refused by state and number; a listed spindle's entry becomes urgent and nothing else changes; an unlisted
one takes the place of the youngest entry that is not urgent, whose spindle is left unlisted; with every entry urgent it is refused. The
list of the spindle's side holds spindles of that side alone, as StepKeepsTheLists keeps it. -/
def Obligations.PieceSpindleHurriesOrDisplaces : Prop :=
  ∀ (s : State) (hi lo : Byte), lineReady s →
    (∀ e ∈ pieceList s (sideOf s (hi.toNat * 256 + lo.toNat)),
      sideOf s e.spindle = sideOf s (hi.toNat * 256 + lo.toNat)) →
    let n := hi.toNat * 256 + lo.toNat
    let side := sideOf s n
    let answers := fun t => exec (.pieceSpindle [hi, lo]) s = .next t
    if isSpindle s n = false then answers (withReply 0x13 [4] .none s)
    else
      match (spindle s n).state with
      | .withheld => answers (withReply 0x13 [6] .none s)
      | .broken cause time =>
        if listed s n = true then
          answers
            (withReply 0x13 okBody .none
              (setPieceList side
                ((pieceList s side).map fun e => if e.spindle = n then { e with urgent := true } else e) s))
        else
          (∀ e ∈ pieceList s side, e.urgent = false →
              (∀ f ∈ pieceList s side, f.urgent = false →
                f = e ∨ f.time < e.time ∨ (f.time = e.time ∧ f.spindle < e.spindle)) →
              answers
                (withReply 0x13 okBody .none
                  (setPieceList side
                    (insertEntry { spindle := n, cause := cause, time := time, urgent := true }
                      ((pieceList s side).filter fun f => f.spindle != e.spindle))
                    (updSpindle n (fun x => { x with unlisted := false })
                      (updSpindle e.spindle (fun x => { x with unlisted := true }) s))))) ∧
            ((∀ e ∈ pieceList s side, e.urgent = true) → answers (withReply 0x13 [5] .none s))
      | _ => answers (withReply 0x13 [5] .none s)

/-- LOCK_SPINDLE (R44, R54, R66): refused by number, in WITHHELD and in PIECING; a LOCKED spindle only takes the reason
BY_REQUEST; any other spindle enters LOCKED with its stop engaged, its pulses booked and its entry or unlisted flag gone, and its
sector's lamp flashes (R45). No report is raised. RELEASE_SPINDLE (R52, R67): refused by number, in WITHHELD and outside LOCKED; a LOCKED spindle enters BROKEN
with cause YARN and break time now (a carriage may be ordered to it at once), its ring, attempts and failures cleared, no break is
counted, and the lamp goes on flashing only for another LOCKED spindle of the sector. -/
def Obligations.LockAndReleaseSpindle : Prop :=
  (∀ (s : State) (hi lo : Byte), lineReady s → hi.toNat * 256 + lo.toNat ≤ s.spindles.length →
      let n := hi.toNat * 256 + lo.toNat
      if isSpindle s n = false then exec (.lockSpindle [hi, lo]) s = .next (withReply 0x14 [4] .none s)
      else
        match (spindle s n).state with
        | .withheld => exec (.lockSpindle [hi, lo]) s = .next (withReply 0x14 [6] .none s)
        | .piecing _ _ => exec (.lockSpindle [hi, lo]) s = .next (withReply 0x14 [5] .none s)
        | .locked _ =>
          exec (.lockSpindle [hi, lo]) s =
            .next (withReply 0x14 okBody .none (updSpindle n (fun x => { x with state := .locked .byRequest }) s))
        | _ =>
          ∃ t, exec (.lockSpindle [hi, lo]) s = .next t ∧ keepsOuter (withReply 0x14 okBody .none s) t ∧ keepsReports s t ∧
            (spindle t n).state = .locked .byRequest ∧ (spindle t n).stopEngaged = true ∧ (spindle t n).unlisted = false ∧
            (spindle t n).copPulses = copRead s (spindle s n) ∧ (spindle t n).breakRing = (spindle s n).breakRing ∧
            (spindle t n).attempts = (spindle s n).attempts ∧ (spindle t n).failures = (spindle s n).failures ∧
            listed t n = false ∧ t.shift.breaks = s.shift.breaks ∧
            (sectorOf n ≤ s.lamps.length → lampOf t (sectorOf n) = { state := .flashing, hold := none })) ∧
  (∀ (s : State) (hi lo : Byte), lineReady s → hi.toNat * 256 + lo.toNat ≤ s.spindles.length →
      let n := hi.toNat * 256 + lo.toNat
      if isSpindle s n = false then exec (.releaseSpindle [hi, lo]) s = .next (withReply 0x15 [4] .none s)
      else
        match (spindle s n).state with
        | .withheld => exec (.releaseSpindle [hi, lo]) s = .next (withReply 0x15 [6] .none s)
        | .locked _ =>
          ∃ t, exec (.releaseSpindle [hi, lo]) s = .next t ∧ keepsOuter (withReply 0x15 okBody .none s) t ∧
            ((spindle t n).state = .broken .yarn s.delivery.now ∨ (spindle t n).state = .piecing .yarn s.delivery.now) ∧
            (spindle t n).breakRing = [] ∧ (spindle t n).attempts = 0 ∧ (spindle t n).failures = 0 ∧
            (spindle t n).shiftEndBreaks = (spindle s n).shiftEndBreaks ∧
            copRead t (spindle t n) = copRead s (spindle s n) ∧ t.shift.breaks = s.shift.breaks ∧
            (sectorOf n ≤ s.lamps.length →
              lampOf t (sectorOf n) =
                { state :=
                    if ∃ m ∈ spindlesOfSector (sectorOf n), m ≠ n ∧ (spindle s m).state.code = 7 then .flashing else .steady
                  hold := none })
        | _ => exec (.releaseSpindle [hi, lo]) s = .next (withReply 0x15 [5] .none s))

/-! ## The carriages (chapter 4) -/

/-- ABILITY (R78, R79) at a record that is not enrolled: the checks in their order, with what is answered, the record afterwards and the
conflict raised; with no record left, NO_ROOM. ABILITY of a station that is enrolled, outside DOFFING (R80, R91): the record is first
made ABSENT, with no fault for it, its order dropped and the order's spindle waiting again with its old break; then the claim is accepted
as the doff state says, on the same side or the other. In PARKING the frame may be clear while the record is ABSENT: DOFFING is then
entered and the station is told WAIT. Where the checks then refuse the claim, in any doff state (R79, R80): the record is REJECTED with the claim, its tag and
counters kept and its park timer stopped, REFUSE with the first reason that applies is the last message sent, CARRIAGE_CONFLICT is
raised, the one fault where no order was dropped, and the order's spindle waits again in the same way. -/
def Obligations.EnrolmentChecksInOrder : Prop :=
  (∀ (s : State) (station : Nat) (side : Side) (abilities : AbilitySet) (revision : Nat) (r : RecordNo), s.powered = true →
      1 ≤ station → station ≤ 15 → revision ≤ 255 →
      ((recordOfStation s station = some r ∧ (carriage s r).link.isEnrolled = false) ∨
        (recordOfStation s station = none ∧ absentRecord s = some r)) →
      ∃ t, exec (.ability station side abilities revision) s = .next t ∧ keepsBoard s t ∧
        let st : Station := { number := station, abilities := abilities, revision := revision }
        let held := (carriage s (otherRecord r)).link.side? = some side
        let accept : Output := .carriage station (.accept side (firstSpindle s side) (lastSpindle s side))
        let refusal := fun reason =>
          t.emitted.head? = some (.carriage station (.refuse reason)) ∧
            carriage t r =
              { carriage s r with link := .rejected st side, linkTimer := some (s.delivery.now + 5) } ∧
            t.faults = (raiseFault .carriageConflict (.side side) (.conflict station reason) s).faults
        let stands := fun work => (carriage t r).link = .enrolled st side (firstSpindle s side) .up work
        let heard := (carriage t r).linkTimer = some (s.delivery.now + 5) ∧ t.faults = s.faults
        if sideConfigured s side = false then refusal .noSide
        else if abilities.pieces = false ∨ abilities.parks = false then refusal .noAbility
        else if held then refusal .sideHeld
        else
          match s.doff.phase with
          | .doffing _ _ =>
            t.emitted = [.carriage station .wait] ∧ (carriage t r).link = .absent ∧ t.faults = s.faults ∧ t.notices = s.notices
          | .parking _ =>
            t.emitted = [accept, .carriage station .park] ∧ stands .parking ∧
              (carriage t r).parkTimer = some (s.delivery.now + s.settings.working.parkTimeout) ∧ heard
          | .called _ => t.emitted = [accept, .carriage station .park] ∧ stands .parked ∧ (carriage t r).parkTimer = none ∧ heard
          | _ => t.emitted.head? = some accept ∧ (stands .ready ∨ ∃ o, stands (.busy o)) ∧ heard) ∧
    (∀ (s : State) (station : Nat) (side : Side) (abilities : AbilitySet) (revision : Nat), s.powered = true → 1 ≤ station →
      station ≤ 15 → revision ≤ 255 → recordOfStation s station = none → absentRecord s = none →
      exec (.ability station side abilities revision) s =
        .next
          (raiseFault .carriageConflict (.side side) (.conflict station .noRoom)
            { s with emitted := [.carriage station (.refuse .noRoom)] })) ∧
    (∀ (s : State) (r : RecordNo) (pos revision : Nat) (dir : Direction) (st : Station) (side claimed : Side) (w : CarriageWork)
      (abilities : AbilitySet), s.powered = true → (carriage s r).link = .enrolled st side pos dir w →
      recordOfStation s st.number = some r → 1 ≤ st.number → st.number ≤ 15 → revision ≤ 255 →
      (sideConfigured s claimed = false ∨ abilities.pieces = false ∨ abilities.parks = false ∨
        (carriage s (otherRecord r)).link.side? = some claimed) →
      ∃ t, exec (.ability st.number claimed abilities revision) s = .next t ∧ keepsBoard s t ∧
        carriage t r =
          { carriage s r with
            link := .rejected { number := st.number, abilities := abilities, revision := revision } claimed
            parkTimer := none, linkTimer := some (s.delivery.now + 5) } ∧
        (∀ (o : Order) (cause : BreakCause) (time : Nat), w = .busy o → (spindle s o.spindle).state = .piecing cause time →
          1 ≤ o.spindle → o.spindle ≤ s.spindles.length →
          if (spindle s o.spindle).withholdPending then (spindle t o.spindle).state = .withheld
          else (spindle t o.spindle).state = .broken cause time ∨ (spindle t o.spindle).state = .piecing cause time) ∧
        t.faults.status.getLsbD 2 = s.faults.status.getLsbD 2 ∧ t.faults.status.getLsbD 3 = true ∧
        (let refused := fun reason =>
           t.emitted.getLast? = some (.carriage st.number (.refuse reason)) ∧
             ((∀ o, w ≠ .busy o) →
               t.faults = (raiseFault .carriageConflict (.side claimed) (.conflict st.number reason) s).faults)
         if sideConfigured s claimed = false then refused .noSide
         else if abilities.pieces = false ∨ abilities.parks = false then refused .noAbility
         else refused .sideHeld) ∧
        match s.doff.phase with
        | .parking call =>
          if (carriage s (otherRecord r)).link.isClear = true then ∃ record, t.doff.phase = .doffing call record
          else t.doff = s.doff
        | _ => t.doff = s.doff) ∧
    ∀ (s : State) (r : RecordNo) (pos revision : Nat) (dir : Direction) (st : Station) (side claimed : Side) (w : CarriageWork)
      (abilities : AbilitySet), s.powered = true → (carriage s r).link = .enrolled st side pos dir w →
      recordOfStation s st.number = some r → 1 ≤ st.number → st.number ≤ 15 → revision ≤ 255 → abilities.pieces = true →
      abilities.parks = true → sideConfigured s claimed = true → (carriage s (otherRecord r)).link.side? ≠ some claimed →
      s.doff.phase.code ≠ 4 →
      ∃ t, exec (.ability st.number claimed abilities revision) s = .next t ∧ keepsBoard s t ∧
        t.faults.status.getLsbD 2 = s.faults.status.getLsbD 2 ∧ t.faults.status.getLsbD 3 = s.faults.status.getLsbD 3 ∧
        (∀ (o : Order) (cause : BreakCause) (time : Nat), w = .busy o → (spindle s o.spindle).state = .piecing cause time →
          1 ≤ o.spindle → o.spindle ≤ s.spindles.length →
          if (spindle s o.spindle).withholdPending then (spindle t o.spindle).state = .withheld
          else (spindle t o.spindle).state = .broken cause time ∨ (spindle t o.spindle).state = .piecing cause time) ∧
        let now : Station := { number := st.number, abilities := abilities, revision := revision }
        let stands := fun work =>
          (carriage t r).link = .enrolled now claimed (firstSpindle s claimed) .up work ∧
            (carriage t r).linkTimer = some (s.delivery.now + 5) ∧
            Output.carriage st.number (.accept claimed (firstSpindle s claimed) (lastSpindle s claimed)) ∈ t.emitted
        match s.doff.phase with
        | .called _ => stands .parked ∧ .carriage st.number .park ∈ t.emitted ∧ t.doff = s.doff
        | .parking call =>
          if (carriage s (otherRecord r)).link.isClear = true then
            (carriage t r).link = .absent ∧ .carriage st.number .wait ∈ t.emitted ∧ ∃ record, t.doff.phase = .doffing call record
          else
            stands .parking ∧ .carriage st.number .park ∈ t.emitted ∧
              (carriage t r).parkTimer = some (s.delivery.now + s.settings.working.parkTimeout) ∧ t.doff = s.doff
        | _ => (stands .ready ∨ ∃ o, stands (.busy o)) ∧ t.doff = s.doff

/-- POSITION, ARRIVED, RESULT, PARKED and STATUS (R72, R77, R84, R89, R91): what the state table gives them where they change
neither spindle nor order: discarded and counted without a record or in REJECTED; a sign of life; a late ARRIVED or RESULT
counted, and one whose tag is above 15 discarded as a field out of its range (assumption log entry 34); a place and direction kept;
in SUSPECT a PARKED, and a POSITION off the record's side, discarded and counted, and yet a sign of life.
CARRIAGE_LINK_DISCARD and TRANSPORT_LINK_DISCARD (R72, R91, R121): each adds one to its
link's counter, which stops at 65 535; on the carriage link a message whose check passes is a sign of life as well, which the
model reads from R91 (assumption log entry 23). -/
def Obligations.LinkMessagesByTheStateTable : Prop :=
  ((∀ (s : State) (station n tag : Nat) (d : Direction) (x : OrderOutcome), s.powered = true →
        recordOfStation s station = none →
        ∀ c ∈ [Instr.parked station, .carriageStatus station, .position station n d, .arrived station tag, .result station tag x],
          exec c s = .next { s with emitted := [], carDiscards := min 65535 (s.carDiscards + 1) }) ∧
      (∀ (s : State) (station n tag : Nat) (d : Direction) (x : OrderOutcome) (r : RecordNo), s.powered = true →
        recordOfStation s station = some r → (carriage s r).link.isEnrolled = false →
        ∀ c ∈ [Instr.parked station, .carriageStatus station, .position station n d, .arrived station tag, .result station tag x],
          exec c s = .next { heardFrom r s with carDiscards := min 65535 (s.carDiscards + 1) }) ∧
      (∀ (s : State) (station tag : Nat) (x : OrderOutcome) (r : RecordNo), s.powered = true → recordOfStation s station = some r →
        (carriage s r).link.isEnrolled = true → (∀ o, (carriage s r).link.order? = some o → o.tag ≠ tag) →
        ∀ c ∈ [Instr.arrived station tag, .result station tag x],
          exec c s =
            .next
              (if tag ≤ 15 then
                 updCarriage r
                   (fun c => { c with counters := { c.counters with late := min 4294967295 (c.counters.late + 1) } })
                   (heardFrom r s)
               else { heardFrom r s with carDiscards := min 65535 (s.carDiscards + 1) })) ∧
      (∀ (s : State) (station n pos : Nat) (dir d : Direction) (st : Station) (side : Side) (r : RecordNo), s.powered = true →
        recordOfStation s station = some r → (carriage s r).link = .enrolled st side pos dir .suspect →
        ∀ c ∈ [Instr.parked station, .position station n d],
          (c = .position station n d → isSpindle s n = false ∨ sideOf s n ≠ side) →
          exec c s = .next { heardFrom r s with carDiscards := min 65535 (s.carDiscards + 1) }) ∧
      ∀ (s : State) (station n pos : Nat) (dir d : Direction) (st : Station) (side : Side) (w : CarriageWork) (r : RecordNo),
        s.powered = true → recordOfStation s station = some r → (carriage s r).link = .enrolled st side pos dir w → w ≠ .suspect →
        exec (.carriageStatus station) s = .next (heardFrom r s) ∧
          exec (.position station n d) s =
            .next
              (if isSpindle s n = true ∧ sideOf s n = side then
                 updCarriage r (fun c => { c with link := .enrolled st side n d w }) (heardFrom r s)
               else { heardFrom r s with carDiscards := min 65535 (s.carDiscards + 1) }) ∧
          ((∀ o, w = .busy o → o.parkPending = false) → w ≠ .parking →
            exec (.parked station) s =
              .next
                (if w = .parked then heardFrom r s
                 else { heardFrom r s with carDiscards := min 65535 (s.carDiscards + 1) }))) ∧
  ((∀ s : State, s.powered = true →
        exec (.carriageLinkDiscard .badCheck) s =
          .next { s with emitted := [], carDiscards := min 65535 (s.carDiscards + 1) }) ∧
      (∀ (s : State) (station : Nat), s.powered = true →
        ∀ cause ∈ [LinkDiscard.unknownKind station, .badField station],
          exec (.carriageLinkDiscard cause) s =
            .next
              (match recordOfStation s station with
               | some r => { heardFrom r s with carDiscards := min 65535 (s.carDiscards + 1) }
               | none => { s with emitted := [], carDiscards := min 65535 (s.carDiscards + 1) })) ∧
      ∀ s : State, s.powered = true →
        exec .transportLinkDiscard s =
          .next
            { s with
              emitted := [], planner := { s.planner with discarded := min 65535 (s.planner.discarded + 1) } })

/-- STATUS and POSITION in SUSPECT, PARKED in PARKING and in BUSY (R86, R90, R94): a SUSPECT record that reports is READY again and may be
ordered at once; a PARKING record that reports PARKED is PARKED with its park timer stopped, and a doff that waited for it alone
goes on to DOFFING, where its doff record is opened (R143); a BUSY one whose park is pending ends its order as CANCELLED, its spindle
waiting again or withheld, and is PARKED in the same way. ARRIVED with the current tag (R35, R84): the first releases the roving stop of the order's spindle and sets
the arrived flag and the last position; a second is only a sign of life. -/
def Obligations.CarriageReportsAreTaken : Prop :=
  ((∀ (s : State) (station n pos : Nat) (dir d : Direction) (st : Station) (side : Side) (r : RecordNo), s.powered = true →
        recordOfStation s station = some r → (carriage s r).link = .enrolled st side pos dir .suspect →
        (∃ t, exec (.carriageStatus station) s = .next t ∧ keepsOuter s t ∧ keepsReports s t ∧
          ((carriage t r).link = .enrolled st side pos dir .ready ∨ ∃ o, (carriage t r).link = .enrolled st side pos dir (.busy o))) ∧
        (isSpindle s n = true → sideOf s n = side →
          ∃ t, exec (.position station n d) s = .next t ∧ keepsOuter s t ∧ keepsReports s t ∧
            ((carriage t r).link = .enrolled st side n d .ready ∨ ∃ o, (carriage t r).link = .enrolled st side n d (.busy o)))) ∧
      ∀ (s : State) (station pos : Nat) (dir : Direction) (st : Station) (side : Side) (r : RecordNo), s.powered = true →
        recordOfStation s station = some r → (carriage s r).link = .enrolled st side pos dir .parking →
        ∃ t, exec (.parked station) s = .next t ∧ keepsBoard s t ∧ keepsReports s t ∧ keepsTables { s with car1 := t.car1, car2 := t.car2 } t ∧
          carriage t (otherRecord r) = carriage s (otherRecord r) ∧
          carriage t r =
            { carriage s r with
              link := .enrolled st side pos dir .parked, parkTimer := none, linkTimer := some (s.delivery.now + 5) } ∧
          match s.doff.phase with
          | .parking call =>
            if (carriage s (otherRecord r)).link.isClear = true then
              t.doff.phase = .doffing call (doffRecordOf s s call) ∧ t.doff.number = (s.doff.number + 1) % 65536
            else t.doff = s.doff
          | _ => t.doff = s.doff) ∧
  (∀ (s : State) (station pos : Nat) (dir : Direction) (st : Station) (side : Side) (r : RecordNo) (o : Order) (cause : BreakCause)
      (time : Nat), s.powered = true → recordOfStation s station = some r →
      (carriage s r).link = .enrolled st side pos dir (.busy o) → o.parkPending = true →
      (spindle s o.spindle).state = .piecing cause time → 1 ≤ o.spindle → o.spindle ≤ s.spindles.length →
      ∃ t, exec (.parked station) s = .next t ∧ keepsBoard s t ∧
        carriage t r =
          { carriage s r with
            link := .enrolled st side pos dir .parked, parkTimer := none, linkTimer := some (s.delivery.now + 5) } ∧
        t.shift.piecing.cancelled = min 4294967295 (s.shift.piecing.cancelled + 1) ∧
        t.shift.piecing.pieced = s.shift.piecing.pieced ∧ t.shift.piecing.failed = s.shift.piecing.failed ∧
        t.shift.piecing.notReached = s.shift.piecing.notReached ∧ t.shift.piecing.timedOut = s.shift.piecing.timedOut ∧
        (if (spindle s o.spindle).withholdPending then (spindle t o.spindle).state = .withheld
         else
           ((spindle t o.spindle).state = .broken cause time ∨ (spindle t o.spindle).state = .piecing cause time) ∧
             (spindle t o.spindle).attempts = (spindle s o.spindle).attempts ∧
             (spindle t o.spindle).failures = (spindle s o.spindle).failures) ∧
        match s.doff.phase with
        | .parking call =>
          if (carriage s (otherRecord r)).link.isClear = true then
            t.doff.phase = .doffing call (doffRecordOf s t call) ∧ t.doff.number = (s.doff.number + 1) % 65536
          else t.doff = s.doff
        | _ => t.doff = s.doff) ∧
  (∀ (s : State) (station pos : Nat) (dir : Direction) (st : Station) (side : Side) (r : RecordNo) (o : Order),
      s.powered = true → recordOfStation s station = some r → (carriage s r).link = .enrolled st side pos dir (.busy o) →
      exec (.arrived station o.tag) s =
        .next
          (if o.arrived = true then heardFrom r s
           else
             updSpindle o.spindle (fun sp => { sp with stopEngaged := false })
               (updCarriage r (fun c => { c with link := .enrolled st side o.spindle dir (.busy { o with arrived := true }) })
                 (heardFrom r s))))

/-- RESULT with the current tag (R44, R64, R85 to R87): the order ends; its outcome is counted in the record and in the open shift and
decides the spindle and its attempts and failures; the record parks where PARK was sent during the order, and otherwise is READY or has
its next order. -/
def Obligations.ResultEndsTheOrder : Prop :=
  ∀ (s : State) (station pos : Nat) (dir : Direction) (st : Station) (side : Side) (r : RecordNo) (o : Order) (cause : BreakCause)
    (time : Nat) (outcome : OrderOutcome), s.powered = true → recordOfStation s station = some r →
    (carriage s r).link = .enrolled st side pos dir (.busy o) → (spindle s o.spindle).state = .piecing cause time →
    1 ≤ o.spindle → o.spindle ≤ s.spindles.length → (∀ e ∈ s.listA ++ s.listB, e.spindle ≠ o.spindle) →
    ∃ t, exec (.result station o.tag outcome) s = .next t ∧ keepsBoard s t ∧
      (if o.parkPending then (carriage t r).link = .enrolled st side pos dir .parking
       else
         (carriage t r).link = .enrolled st side pos dir .ready ∨
           ∃ o' : Order, (carriage t r).link = .enrolled st side pos dir (.busy o') ∧ o'.tag = ((carriage s r).tag + 1) % 16) ∧
      (carriage t r).linkTimer = some (s.delivery.now + 5) ∧ t.shift.breaks = s.shift.breaks ∧
      t.shift.handPieced = s.shift.handPieced ∧
      let before := spindle s o.spindle
      let after := spindle t o.spindle
      let waits := after.state = .broken cause time ∨ after.state = .piecing cause time
      let sums := t.shift.piecing
      let was := s.shift.piecing
      sums.timedOut = was.timedOut ∧
      match outcome with
      | .pieced =>
        sums.pieced = min 4294967295 (was.pieced + 1) ∧ sums.failed = was.failed ∧ sums.notReached = was.notReached ∧
          sums.cancelled = was.cancelled ∧
          (carriage t r).counters.pieced = min 4294967295 ((carriage s r).counters.pieced + 1) ∧
          if before.withholdPending then after.state = .withheld ∧ after.attempts = 0 ∧ after.failures = 0
          else
            after.attempts = min 7 (before.attempts + 1) ∧ after.failures = before.failures ∧
              after.state = (if s.delivery.driving then .settling .pieced s.delivery.now else .idle)
      | .failed =>
        sums.failed = min 4294967295 (was.failed + 1) ∧ sums.pieced = was.pieced ∧ sums.notReached = was.notReached ∧
          sums.cancelled = was.cancelled ∧
          (carriage t r).counters.failed = min 4294967295 ((carriage s r).counters.failed + 1) ∧
          if before.withholdPending then after.state = .withheld ∧ after.attempts = 0 ∧ after.failures = 0
          else
            after.attempts = min 7 (before.attempts + 1) ∧ after.failures = min 7 (before.failures + 1) ∧
              if s.settings.working.failureLimit ≠ 0 ∧ s.settings.working.failureLimit ≤ min 7 (before.failures + 1) then
                after.state = .locked .fails
              else waits
      | .notReached =>
        sums.notReached = min 4294967295 (was.notReached + 1) ∧ sums.pieced = was.pieced ∧ sums.failed = was.failed ∧
          sums.cancelled = was.cancelled ∧
          (carriage t r).counters.notReached = min 4294967295 ((carriage s r).counters.notReached + 1) ∧
          if before.withholdPending then after.state = .withheld
          else after.attempts = before.attempts ∧ after.failures = before.failures ∧ waits
      | .cancelled =>
        sums.cancelled = min 4294967295 (was.cancelled + 1) ∧ sums.pieced = was.pieced ∧ sums.failed = was.failed ∧
          sums.notReached = was.notReached ∧
          if before.withholdPending then after.state = .withheld
          else after.attempts = before.attempts ∧ after.failures = before.failures ∧ waits

/-- ORDER_TIMER_EXPIRY and PARK_TIMER_EXPIRY (R88, R94): a timed-out order is counted and given up with no attempt counted, its spindle
waiting again with its old break, and the record SUSPECT with POLL sent, or PARKING with PARK sent again; a park timeout raises
PARK_TIMEOUT and changes nothing else. Where the timer does not run or has not expired, nothing changes (the model's choice, assumption
log entry 3). -/
def Obligations.CarriageTimersExpire : Prop :=
  (∀ (s : State) (pos : Nat) (dir : Direction) (st : Station) (side : Side) (r : RecordNo) (o : Order) (cause : BreakCause)
      (time : Nat), s.powered = true → (carriage s r).link = .enrolled st side pos dir (.busy o) →
      o.deadline ≤ s.delivery.now → (spindle s o.spindle).state = .piecing cause time → 1 ≤ o.spindle →
      o.spindle ≤ s.spindles.length →
      ∃ t, exec (.orderTimerExpiry r) s = .next t ∧ keepsBoard s t ∧
        (carriage t r).link = .enrolled st side pos dir (if o.parkPending then .parking else .suspect) ∧
        (carriage t r).counters.timeouts = min 4294967295 ((carriage s r).counters.timeouts + 1) ∧
        t.shift.piecing.timedOut = min 4294967295 (s.shift.piecing.timedOut + 1) ∧
        t.emitted.getLast? = some (.carriage st.number (if o.parkPending then .park else .poll)) ∧
        t.faults.status.getLsbD 1 = true ∧ (spindle t o.spindle).attempts ≤ (spindle s o.spindle).attempts ∧
        if (spindle s o.spindle).withholdPending then (spindle t o.spindle).state = .withheld
        else
          (spindle t o.spindle).state = .broken cause time ∨ (spindle t o.spindle).state = .piecing cause time) ∧
    (∀ (s : State) (r : RecordNo), s.powered = true →
      (∀ o, (carriage s r).link.order? = some o → s.delivery.now < o.deadline) →
      exec (.orderTimerExpiry r) s = .next { s with emitted := [] }) ∧
    ∀ (s : State) (r : RecordNo), s.powered = true →
      exec (.parkTimerExpiry r) s =
        .next
          (match (carriage s r).link with
           | .enrolled st side _ _ w =>
             if expired (carriage s r).parkTimer s.delivery.now = true ∧
                 (w = .parking ∨ ((carriage s r).link.order?.map (·.parkPending)) = some true) then
               raiseFault .parkTimeout (.side side) (.station st.number)
                 (updCarriage r (fun c => { c with parkTimer := none }) { s with emitted := [] })
             else { s with emitted := [] }
           | _ => { s with emitted := [] })

/-- LINK_LOSS_TIMER_EXPIRY, RELEASE_CARRIAGE and the re-enrolment of an enrolled station during DOFFING (R79, R80, R91, R92):
the record is ABSENT with its timers stopped, its tag and counters kept, and a spindle that was PIECING under its order waits
again with its old break; only link loss raises CARRIAGE_LOST. Release Carriage first sends REFUSE with reason RELEASED, and the
re-enrolment ends with WAIT.
RELEASE_CARRIAGE and LINK_LOSS_TIMER_EXPIRY (R91, R92) on a record that is not enrolled: an ABSENT record released changes
nothing; a REJECTED one released is told REFUSE and is ABSENT; a REJECTED one that falls silent is ABSENT with no fault and no notice; a number that is no record is refused. -/
def Obligations.CarriageBecomesAbsent : Prop :=
  (∀ (s : State) (r : RecordNo) (pos : Nat) (dir : Direction) (st : Station) (side : Side) (w : CarriageWork), s.powered = true →
      (carriage s r).link = .enrolled st side pos dir w →
      let gone := fun t : State =>
        carriage t r = { carriage s r with link := .absent, parkTimer := none, linkTimer := none } ∧
          t.shift.piecing.timedOut = s.shift.piecing.timedOut ∧ t.shift.piecing.cancelled = s.shift.piecing.cancelled ∧
          ∀ (o : Order) (cause : BreakCause) (time : Nat), w = .busy o → (spindle s o.spindle).state = .piecing cause time →
            1 ≤ o.spindle → o.spindle ≤ s.spindles.length →
            if (spindle s o.spindle).withholdPending then (spindle t o.spindle).state = .withheld
            else (spindle t o.spindle).state = .broken cause time ∨ (spindle t o.spindle).state = .piecing cause time
      (∀ deadline, (carriage s r).linkTimer = some deadline → deadline ≤ s.delivery.now →
        ∃ t, exec (.linkLossTimerExpiry r) s = .next t ∧ keepsBoard s t ∧ gone t ∧ t.faults.status.getLsbD 2 = true) ∧
        (lineReady s →
          ∃ t, exec (.releaseCarriage [BitVec.ofNat 8 (recordCode r)]) s = .next t ∧
            keepsBoard (withReply 0x1C okBody .none s) t ∧ gone t ∧
            t.emitted.head? = some (.carriage st.number (.refuse .released)) ∧
            t.faults.status.getLsbD 2 = s.faults.status.getLsbD 2) ∧
        ((∃ call record, s.doff.phase = .doffing call record) → recordOfStation s st.number = some r → 1 ≤ st.number →
          st.number ≤ 15 → ∀ abilities revision, revision ≤ 255 → abilities.pieces = true → abilities.parks = true →
          (carriage s (otherRecord r)).link.side? ≠ some side → sideConfigured s side = true →
          ∃ t, exec (.ability st.number side abilities revision) s = .next t ∧ gone t ∧
            t.emitted.getLast? = some (.carriage st.number .wait) ∧ t.faults.status.getLsbD 2 = s.faults.status.getLsbD 2)) ∧
  ((∀ (s : State) (r : RecordNo), lineReady s → (carriage s r).link = .absent →
        exec (.releaseCarriage [BitVec.ofNat 8 (recordCode r)]) s = .next (withReply 0x1C okBody .none s)) ∧
      (∀ (s : State) (code : Byte), lineReady s → code ≠ 1 → code ≠ 2 →
        exec (.releaseCarriage [code]) s = .next (withReply 0x1C [4] .none s)) ∧
      (∀ (s : State) (r : RecordNo) (st : Station) (side : Side), lineReady s → (carriage s r).link = .rejected st side →
        ∃ t, exec (.releaseCarriage [BitVec.ofNat 8 (recordCode r)]) s = .next t ∧ keepsBoard (withReply 0x1C okBody .none s) t ∧
          keepsReports s t ∧ t.emitted = [.carriage st.number (.refuse .released)] ∧
          carriage t r = { carriage s r with link := .absent, parkTimer := none, linkTimer := none } ∧
          carriage t (otherRecord r) = carriage s (otherRecord r)) ∧
      ∀ (s : State) (r : RecordNo) (st : Station) (side : Side) (deadline : Nat), s.powered = true →
        (carriage s r).link = .rejected st side → (carriage s r).linkTimer = some deadline → deadline ≤ s.delivery.now →
        ∃ t, exec (.linkLossTimerExpiry r) s = .next t ∧ keepsReports s t ∧ keepsBoard s t ∧ (carriage t r).link = .absent ∧
          (carriage t r).linkTimer = none ∧ carriage t (otherRecord r) = carriage s (otherRecord r))

/-! ## Sector locks and roving supply (chapters 5 and 6) -/

/-- WAIT_LIMIT_EXPIRY (R105): a waiting claim whose wait limit has run takes urgency 3 and its timer stops; the lock, the order
and everything else stand. BACK_OFF_EXPIRY (R123, R125): at its expiry the back-off ends, and if the transport is IDLE and a
call stands, the head of the roving call list becomes the active change: its tag is the next, CALL is sent, and the transport
timer runs. A timer that has not expired changes nothing (the model's choice, assumption log entry 3). -/
def Obligations.WaitLimitAndBackOffExpire : Prop :=
  (∀ (s : State) (k : Nat), s.powered = true →
      exec (.waitLimitExpiry k) s =
        .next
          (match (lockOf s k).holder with
           | .carriage r (some c) =>
             if expired c.waitLimit s.delivery.now = true then
               updLock k (fun l => { l with holder := .carriage r (some { c with urgency := 3, waitLimit := none }) })
                 { s with emitted := [] }
             else { s with emitted := [] }
           | _ => { s with emitted := [] })) ∧
  (∀ s : State, s.powered = true →
      exec .backOffExpiry s =
        .next
          (if expired s.planner.backOff s.delivery.now = true then
             match s.planner.transport, s.planner.calls with
             | .idle, c :: rest =>
               let tag := (s.planner.tag + 1) % 256
               let timeout := transportTimeoutOf s.settings.working.transportTimeoutCode
               { s with
                 emitted := [.transport (.call c.group c.urgency tag)]
                 planner :=
                   { s.planner with
                     points := s.planner.points.filter fun q => q.2 != c.group
                     calls := rest, tag := tag, backOff := none
                     transport :=
                       .called
                         { call := c, tag := tag, callTime := s.delivery.now, accepted := false, timeout := timeout,
                           deadline := s.delivery.now + timeout } } }
             | _, _ => { s with emitted := [], planner := { s.planner with backOff := none } }
           else { s with emitted := [] }))

/-- ACCEPT and DECLINE from the transport (R122, R124, R125): the first ACCEPT of a call starts the transport timer again; a DECLINE ends
the change, lists its group again and starts a back-off of 30 seconds; with another tag or in another state each is discarded and
counted. -/
def Obligations.TransportAcceptsOrDeclines : Prop :=
  ∀ (s : State) (tag : Nat), s.powered = true →
    let discarded : State :=
      { s with emitted := [], planner := { s.planner with discarded := min 65535 (s.planner.discarded + 1) } }
    match s.planner.transport with
    | .called c =>
      if c.tag ≠ tag then exec (.transportAccept tag) s = .next discarded ∧ exec (.decline tag) s = .next discarded
      else
        exec (.transportAccept tag) s =
            .next
              (if c.accepted = true then { s with emitted := [] }
               else
                 { s with
                   emitted := []
                   planner :=
                     { s.planner with
                       transport := .called { c with accepted := true, deadline := s.delivery.now + c.timeout } } }) ∧
          exec (.decline tag) s =
            .next
              { s with
                emitted := []
                planner :=
                  { s.planner with
                    transport := .idle, backOff := some (s.delivery.now + 30)
                    calls :=
                      if whollyWithheld s c.call.group = true then s.planner.calls
                      else if anyWaiting s c.call.group = true then
                        insertCall { c.call with urgency := .urgent } s.planner.calls
                      else insertCall c.call s.planner.calls } }
    | _ => exec (.transportAccept tag) s = .next discarded ∧ exec (.decline tag) s = .next discarded

/-- AT_SECTOR (R102, R127): with the current tag it claims the sector of the change: PROCEED and CHANGING where the sector is FREE or
held by the transport already, WAITING where a carriage holds it, with the claim made only if none waits; in CALLED it counts as ACCEPT
where none came before. With another tag it is discarded and counted. -/
def Obligations.AtSectorClaimsTheLock : Prop :=
  ∀ (s : State) (tag : Nat), s.powered = true →
    match s.planner.transport.change with
    | none =>
      exec (.atSector tag) s =
        .next { s with emitted := [], planner := { s.planner with discarded := min 65535 (s.planner.discarded + 1) } }
    | some c0 =>
      if c0.tag ≠ tag then
        exec (.atSector tag) s =
          .next { s with emitted := [], planner := { s.planner with discarded := min 65535 (s.planner.discarded + 1) } }
      else
        let c : ActiveChange :=
          match s.planner.transport with
          | .called x =>
            if x.accepted = true then x else { x with accepted := true, deadline := s.delivery.now + x.timeout }
          | _ => c0
        let k := sectorOfGroup c.call.group
        let granted : State :=
          { s with emitted := [.transport (.proceed c.tag)], planner := { s.planner with transport := .changing c } }
        let waiting : State := { s with emitted := [], planner := { s.planner with transport := .waiting c } }
        exec (.atSector tag) s =
          .next
            (match (lockOf s k).holder with
             | .free => updLock k (fun _ => { holder := .transport, last := .free, carryOver := 0 }) granted
             | .transport => granted
             | .carriage r none =>
               updLock k
                 (fun l =>
                   { l with
                     holder :=
                       .carriage r
                         (some
                           { tag := c.tag, group := c.call.group
                             urgency := match c.call.urgency with | .planned => 1 | .urgent => 2
                             waitStart := s.delivery.now
                             waitLimit := some (s.delivery.now + s.settings.working.waitLimit) })
                     carryOver := 0 })
                 waiting
             | .carriage _ (some _) => waiting)

/-- CHANGED (R14, R111, R126, R129): a change completed, on time or honoured late. The residue of the eight positions, each in whole metres
on its own, and the change are counted; each position's bobbin is full and known; a spindle waiting for roving waits for piecing, one
settling on a carriage's join settles anew, and other states stand; the estimates outside the group stand. That no piecing list names a
RUNNING spindle, of which the second clause speaks, is a part of what StepKeepsTheLists keeps. A CHANGED of neither kind is discarded and counted. (That the
residue reads a position of a void estimate like the others is the model's choice, assumption log entry 41.) -/
def Obligations.ChangedRenewsTheGroup : Prop :=
  ∀ (s : State) (tag : Nat), s.powered = true →
    let current := (currentChange s tag).map (·.call.group)
    match current, lateGroup s tag with
    | none, none =>
      exec (.changed tag) s =
        .next { s with emitted := [], planner := { s.planner with discarded := min 65535 (s.planner.discarded + 1) } }
    | found, late =>
      ∀ g, (found = some g ∨ (found = none ∧ late = some g)) → 1 ≤ g → 8 * g ≤ s.spindles.length →
        (∀ e ∈ s.listA ++ s.listB, (spindle s e.spindle).state.isRunning = false) →
        ∃ t, exec (.changed tag) s = .next t ∧ keepsOuter s t ∧
          t.shift.changes = min 4294967295 (s.shift.changes + 1) ∧
          t.shift.residue =
            min 4294967295
              (s.shift.residue +
                ((spindlesOfGroup g).map fun n => residueMetres s.delivery s.doff.lot (remaining s (spindle s n))).sum) ∧
          t.shift.breaks = s.shift.breaks ∧
          (∀ n ∈ spindlesOfGroup g,
            (spindle t n).rovingUsed = 0 ∧ (spindle t n).estimateValid = true ∧
              (spindle t n).copPulses = copRead s (spindle s n) ∧
              match (spindle s n).state with
              | .waitRoving time =>
                (spindle t n).state = .broken .rovingOut time ∨ (spindle t n).state = .piecing .rovingOut time
              | .settling .pieced _ => (spindle t n).state = .settling .roving s.delivery.now
              | .running => (spindle t n).state = .running ∧ (spindle t n).pulseMark = some s.delivery.phi
              | .broken c x => (spindle t n).state = .broken c x ∨ (spindle t n).state = .piecing c x
              | st => (spindle t n).state = st) ∧
          (∀ n, n ∉ spindlesOfGroup g →
            usedRead t (spindle t n) = usedRead s (spindle s n) ∧ (spindle t n).estimateValid = (spindle s n).estimateValid) ∧
          t.notices.latches.getLsbD 2 = true ∧
          match found with
          | some _ => t.planner.transport = .idle ∨ ∃ c, t.planner.transport = .called c ∧ c.callTime = s.delivery.now
          | none => t.planner.lastTimedOut = none

/-- ABORTED and TRANSPORT_TIMER_EXPIRY (R107, R122, R123, R124, R128, R129): the change ends without being made. Its claim is gone, and
its call stands again with its queued time and origin, URGENT after a timeout. The transport is IDLE, with a back-off running or no call
left to make, or a new CALL has been issued: a new tag, the call time now, the accepted flag clear. A timeout raises TRANSPORT_TIMEOUT,
sends CANCEL and keeps group and tag. A timer that has not expired changes nothing (the model's choice, assumption log entry 3). -/
def Obligations.ChangesAreGivenUp : Prop :=
  (∀ (s : State) (c : ActiveChange), s.powered = true → s.planner.transport.change = some c →
      let k := sectorOfGroup c.call.group
      let newTag := (s.planner.tag + 1) % 256
      let relisted := fun (urgency : CallUrgency) (t : State) =>
        whollyWithheld s c.call.group = true ∨ { c.call with urgency := urgency } ∈ t.planner.calls ∨
          ∃ c', t.planner.transport = .called c' ∧ c'.call = { c.call with urgency := urgency }
      let calling := fun t : State =>
        (t.planner.transport = .idle ∧ t.planner.tag = s.planner.tag ∧ (t.planner.backOff ≠ none ∨ t.planner.calls = [])) ∨
          ∃ c', t.planner.transport = .called c' ∧ c'.tag = newTag ∧ t.planner.tag = newTag ∧ c'.callTime = s.delivery.now ∧
            c'.accepted = false ∧ .transport (.call c'.call.group c'.call.urgency newTag) ∈ t.emitted
      let unclaimed := fun t : State =>
        (s.planner.transport = .waiting c ∨ s.planner.transport = .changing c) →
          (lockOf t k).holder ≠ .transport ∧ (lockOf t k).claim = none
      (∃ t, exec (.aborted c.tag) s = .next t ∧ keepsOuter s t ∧ keepsReports s t ∧ unclaimed t ∧ calling t ∧
        relisted (if anyWaiting s c.call.group then .urgent else c.call.urgency) t) ∧
      (c.deadline ≤ s.delivery.now →
        ∃ t, exec .transportTimerExpiry s = .next t ∧ keepsOuter s t ∧ calling t ∧
          t.faults = (raiseFault .transportTimeout (.group c.call.group) (.tag c.tag) s).faults ∧ unclaimed t ∧
          relisted .urgent t ∧ t.planner.lastTimedOut = some (c.call.group, c.tag) ∧
          t.emitted.head? = some (.transport (.cancel c.tag)))) ∧
    (∀ (s : State) (tag : Nat), s.powered = true → (∀ c, s.planner.transport.change = some c → c.tag ≠ tag) →
      exec (.aborted tag) s =
        .next { s with emitted := [], planner := { s.planner with discarded := min 65535 (s.planner.discarded + 1) } }) ∧
    ∀ s : State, s.powered = true → (∀ c, s.planner.transport.change = some c → s.delivery.now < c.deadline) →
      exec .transportTimerExpiry s = .next { s with emitted := [] }

/-- CALL_ROVING (R112, R115, R116, R119): refused by number, for a wholly withheld group and for the group of the active change;
otherwise the group's call stands URGENT, made or raised for this request unless it was URGENT already, listed or already
called. Only the planner changes, and a CALL may be sent. DECLARE_ROVING (R20, R120): refused by numbers and for the group of
the active change; otherwise each of the eight positions is settled and holds the declared figure, known, with its state
unchanged; every other spindle stands. The group is then evaluated (R113, R114, R116): a listed one has no call point; one with an
eligible position and no more left than the call margin is listed PLANNED; otherwise one with a RUNNING position has its call point where
the margin will be reached, and one without has none. -/
def Obligations.CallAndDeclareRoving : Prop :=
  (∀ (s : State) (b : Byte), lineReady s →
      let g := b.toNat
      if isGroup s g = false then exec (.callRoving [b]) s = .next (withReply 0x16 [4] .none s)
      else if whollyWithheld s g = true then exec (.callRoving [b]) s = .next (withReply 0x16 [6] .none s)
      else if isActiveGroup s g = true then exec (.callRoving [b]) s = .next (withReply 0x16 [5] .none s)
      else
        ∃ (planner : Planner) (messages : List Output),
          exec (.callRoving [b]) s =
            .next { withReply 0x16 okBody .none s with planner := planner, emitted := messages } ∧
          match s.planner.calls.find? (fun c => c.group == g) with
          | some c =>
            if c.urgency = .urgent then planner = s.planner ∧ messages = []
            else
              { c with urgency := .urgent, origin := .request } ∈ planner.calls ∨
                ∃ a, planner.transport = .called a ∧ a.call = { c with urgency := .urgent, origin := .request }
          | none =>
            { group := g, urgency := .urgent, queued := s.delivery.now, origin := .request : Call } ∈ planner.calls ∨
              ∃ a, planner.transport = .called a ∧
                a.call = { group := g, urgency := .urgent, queued := s.delivery.now, origin := .request }) ∧
  (∀ (s : State) (b e : Byte), lineReady s → 8 * b.toNat ≤ s.spindles.length →
      let g := b.toNat
      if isGroup s g = false ∨ 8 < e.toNat then exec (.declareRoving [b, e]) s = .next (withReply 0x17 [4] .none s)
      else if isActiveGroup s g = true then exec (.declareRoving [b, e]) s = .next (withReply 0x17 [5] .none s)
      else
        ∃ t, exec (.declareRoving [b, e]) s = .next t ∧ keepsOuter (withReply 0x17 okBody .none s) t ∧ keepsReports s t ∧
          (∀ n, n ∈ spindlesOfGroup g →
            spindle t n =
              { (spindle s n).settled s.delivery.driving s.delivery.now s.delivery.phi with
                rovingUsed := capacity s.delivery s.doff.lot * (8 - e.toNat) / 8, estimateValid := true }) ∧
          (∀ n, n ∉ spindlesOfGroup g → spindle t n = spindle s n) ∧ t.listA = s.listA ∧ t.listB = s.listB ∧ t.car1 = s.car1 ∧
          t.car2 = s.car2 ∧ t.locks = s.locks ∧ t.lamps = s.lamps ∧
          let full := capacity s.delivery s.doff.lot
          let left := full - min 4294967295 (full * (8 - e.toNat) / 8)
          let margin := callMarginPulses s.delivery s.doff.lot s.settings.working.callMargin
          let others := s.planner.points.filter fun q => q.2 != g
          let runs := ∃ n ∈ spindlesOfGroup g, (spindle s n).state.isRunning = true
          let eligible := ∃ n ∈ spindlesOfGroup g, (spindle s n).state.eligible = true
          if inCallList s g = true then t.planner = { s.planner with points := others }
          else if left ≤ margin ∧ eligible then
            calledNow { group := g, urgency := .planned, queued := s.delivery.now, origin := .plan } s t ∧
              ∀ q ∈ t.planner.points, q.2 ≠ g
          else
            t.planner =
              { s.planner with points := if runs then insertPoint (s.delivery.phi + left - margin) g others else others })

/-! ## The doff (chapter 7) -/

/-- DOFFER_ACTIVE_RISE, DOFFER_ACTIVE_FALL and DOFF_COMPLETE (R144): a rise in DOFFING and every fall change the level alone; a rise or a
doff complete in another doff state raises FRAME_SIGNAL with the signal and the doff state. A rise of a level that is asserted already
is no edge (the model's choice, assumption log entry 3). -/
def Obligations.DofferSignalsAreJudged : Prop :=
  (∀ s : State, s.powered = true →
      exec .dofferActiveFall s = .next { s with emitted := [], doff := { s.doff with dofferActive := false } }) ∧
    (∀ s : State, s.powered = true →
      exec .dofferActiveRise s =
        .next
          (let raised : State := { s with emitted := [], doff := { s.doff with dofferActive := true } }
           if s.doff.dofferActive = true then { s with emitted := [] }
           else if s.doff.phase.code = 4 then raised
           else raiseFault .frameSignal .none (.signal .dofferActiveRise s.doff.phase.code) raised)) ∧
    ∀ s : State, s.powered = true → s.doff.phase.code ≠ 4 →
      exec .doffComplete s =
        .next (raiseFault .frameSignal .none (.signal .doffComplete s.doff.phase.code) { s with emitted := [] })

/-- DOFF_COMPLETE in DOFFING (R95, R135, R145, R146, R147, R154): the doff is counted, every cop is 0, the progress starts again, a pending
lot is applied where the shift has room for its segment, the record heads the log, the outputs are dropped, PARKED carriages resume, and
the restart window runs or, with Rw = 0, is over. (R12: D ≥ 2 always holds.) -/
def Obligations.DoffCompleteEmptiesTheCops : Prop :=
  ∀ (s : State) (call : CallInfo) (record : DoffRecord), s.powered = true → s.doff.phase = .doffing call record →
    s.spindles.length = spindleCount s → 2 ≤ doffPulses s.delivery s.doff.lot →
    (∀ lot, s.doff.pendingLot = some lot → 2 ≤ doffPulses s.delivery lot) →
    ∃ t, exec .doffComplete s = .next t ∧ t.delivery = s.delivery ∧ t.zones = s.zones ∧ t.line = s.line ∧ t.ring = s.ring ∧
      t.settings.working = s.settings.working ∧ t.shift.doffs = min 4294967295 (s.shift.doffs + 1) ∧
      t.shift.cops = min 4294967295 (s.shift.cops + record.cops) ∧
      t.shift.shortCops = min 4294967295 (s.shift.shortCops + record.shortCops) ∧
      (∀ n, 1 ≤ n → n ≤ s.spindles.length → copRead t (spindle t n) = 0) ∧ t.doff.phiD = s.delivery.phi ∧
      (match s.doff.pendingLot with
       | none =>
         t.doff.lot = s.doff.lot ∧ t.doff.pendingLot = none ∧ t.shift.segments.length = s.shift.segments.length ∧
           t.settings = s.settings ∧ t.store = s.store
       | some lot =>
         if s.shift.segments.length < 4 then
           t.doff.lot = lot ∧ t.doff.pendingLot = none ∧ t.settings.retained = { s.settings.retained with lot := lot } ∧
             t.shift.segments.getLast? = some { lot := lot.number, t := lot.t, pulses := 0 } ∧
             t.shift.segments.length = s.shift.segments.length + 1 ∧
             (t.store.writer ≠ .idle ∧ (s.store.writer ≠ .idle → t.store.rewrite = true))
         else
           t.doff.lot = s.doff.lot ∧ t.doff.pendingLot = some lot ∧ t.settings = s.settings ∧ t.store = s.store) ∧
      t.doff.dPulses = doffPulses s.delivery t.doff.lot ∧ t.doff.wPulses = warningPulses s.delivery t.doff.lot ∧
      t.doff.overrun = overrunDistance t.doff.dPulses s.settings.working.overrunLimit ∧
      t.doff.rwPulses = restartPulses s.delivery s.settings.working.restartWindow ∧ t.doff.number = s.doff.number ∧
      (∃ done, t.doff.log = (done :: s.doff.log).take 16 ∧ done.completion = some s.delivery.mill ∧
        done.number = record.number ∧ done.cops = record.cops ∧ done.shortCops = record.shortCops ∧
        done.delivered = record.delivered) ∧
      t.doff.phase = (if 0 < t.doff.rwPulses then .restarting else .spinning) ∧ t.doff.request = false ∧ t.doff.clear = false ∧
      (∀ (r : RecordNo) (st : Station) (side : Side) (pos : Nat) (dir : Direction),
        (carriage s r).link = .enrolled st side pos dir .parked →
        (carriage t r).link = .enrolled st side pos dir .ready ∨ ∃ o, (carriage t r).link = .enrolled st side pos dir (.busy o)) ∧
      t.notices.latches.getLsbD 3 = true

/-- R148: Hold Doff. It sets the hold flag in SPINNING, WARNED and RESTARTING and changes nothing else; it is refused in CALLED, PARKING
and DOFFING; a hold set in RESTARTING keeps the cop just begun from being called below the overrun point; the flag is cleared by Resume
Doff, at every entry to CALLED and at power-on reset, and Restart keeps it. -/
def Obligations.HoldDoffSetsTheFlag : Prop :=
  (∀ s : State, lineReady s →
      exec (.holdDoff []) s =
        .next
          (match s.doff.phase with
           | .called _ => withReply 0x18 [7] .none s
           | .parking _ => withReply 0x18 [7] .none s
           | .doffing _ _ => withReply 0x18 [7] .none s
           | _ => withReply 0x18 okBody .none { s with doff := { s.doff with hold := true } })) ∧
    (∀ s t : State, lineReady s → s.doff.phase.callInfo = none → exec (.resumeDoff []) s = .next t → t.doff.hold = false) ∧
    (∀ (early forced : Bool) (s : State), (enterCalled early forced s).doff.hold = false) ∧
    (∀ (s t : State) (a v : Nat) (d f : Bool), exec (.powerOnReset a v d f) s = .next t → t.doff.hold = false) ∧
    (∀ s : State, (makeRestart s).doff.hold = s.doff.hold) ∧
    ∀ s : State, s.powered = true → s.doff.phase = .restarting → s.doff.hold = true →
      min 281474976710655 (s.delivery.phi + 1) - s.doff.phiD < s.doff.overrun →
      ∃ t, exec .frontRollerPulse s = .next t ∧ t.doff.hold = true ∧ t.doff.phase.callInfo = none

/-- R150: Resume Doff. It clears the hold flag in SPINNING, WARNED and RESTARTING; in SPINNING and WARNED the doff state is then the one
the table gives for the progress with hold clear, so a held doff at or past D is called with the HELD flag of its overdue flag; with the
flag clear already nothing changes; it is refused in CALLED, PARKING and DOFFING. -/
def Obligations.ResumeDoffAppliesTheTable : Prop :=
  (∀ s : State, lineReady s → s.doff.phase.callInfo ≠ none →
      exec (.resumeDoff []) s = .next (withReply 0x19 [7] .none s)) ∧
    (∀ s : State, lineReady s → s.doff.phase.callInfo = none → s.doff.hold = false →
      exec (.resumeDoff []) s = .next (withReply 0x19 okBody .none s)) ∧
    (∀ s : State, lineReady s → s.doff.phase = .restarting →
      exec (.resumeDoff []) s = .next (withReply 0x19 okBody .none { s with doff := { s.doff with hold := false } })) ∧
    ∀ s : State, lineReady s → (s.doff.phase = .spinning ∨ s.doff.phase = .warned) → s.doff.hold = true →
      ∃ t, exec (.resumeDoff []) s = .next t ∧
        tableOutcome { s with doff := { s.doff with hold := false } } (s.delivery.phi - s.doff.phiD) t ∧
        t.line = (withReply 0x19 okBody .none s).line ∧ t.doff.hold = false ∧ t.delivery = s.delivery ∧
        t.settings = s.settings ∧ t.store = s.store ∧ t.ring = s.ring ∧ t.zones = s.zones

/-- R151: Doff Now. In SPINNING and WARNED the doff is called at once, EARLY below D, HELD where the overdue flag is set; on a stopped
frame CALLED passes straight on to PARKING, where PARK is sent to each carriage that is out (R93), and to DOFFING, with its doff record opened (R143), where no carriage is out. It is refused DOFF_IN_PROGRESS in CALLED, PARKING
and DOFFING, and WRONG_STATE in RESTARTING. -/
def Obligations.DoffNowCallsTheDoff : Prop :=
  ∀ s : State, lineReady s →
    match s.doff.phase with
    | .restarting => exec (.doffNow []) s = .next (withReply 0x1A [5] .none s)
    | .called _ => exec (.doffNow []) s = .next (withReply 0x1A [7] .none s)
    | .parking _ => exec (.doffNow []) s = .next (withReply 0x1A [7] .none s)
    | .doffing _ _ => exec (.doffNow []) s = .next (withReply 0x1A [7] .none s)
    | _ =>
      ∃ t, exec (.doffNow []) s = .next t ∧ t.line = (withReply 0x1A okBody .none s).line ∧
        let call : CallInfo :=
          { early := decide (s.delivery.phi - s.doff.phiD < s.doff.dPulses), forced := false, held := s.doff.overdue
            stamp := s.delivery.mill }
        t.doff.request = true ∧ t.doff.hold = false ∧ t.doff.overdue = false ∧
          (if s.delivery.driving then t.doff.phase = .called call ∧ t.car1 = s.car1 ∧ t.car2 = s.car2 else parkSent s t) ∧
          (if s.delivery.driving then t.doff.number = s.doff.number
           else if frameClear s then
             t.doff.phase = .doffing call (doffRecordOf s s call) ∧ t.doff.number = (s.doff.number + 1) % 65536
           else t.doff.phase = .parking call ∧ t.doff.number = s.doff.number) ∧
          t.delivery = s.delivery ∧ t.spindles = s.spindles ∧ t.listA = s.listA ∧ t.listB = s.listB ∧ t.locks = s.locks ∧
          t.shift = s.shift ∧ t.settings = s.settings ∧ t.store = s.store ∧ t.faults = s.faults ∧ t.notices = s.notices

/-- SET_DOFF_PROGRESS (R152): refused above 100 and in CALLED, PARKING, DOFFING and RESTARTING; otherwise the progress becomes the lesser
of x and the odometer, no cop is left above it, and the doff state follows the table. That a percentage above 100 is OUT_OF_RANGE in
those doff states too is the model's choice (assumption log entry 44). -/
def Obligations.SetDoffProgressMovesThePoint : Prop :=
  ∀ (s : State) (b : Byte), lineReady s →
    if 100 < b.toNat then exec (.setDoffProgress [b]) s = .next (withReply 0x1B [4] .none s)
    else if s.doff.phase ≠ .spinning ∧ s.doff.phase ≠ .warned then
      exec (.setDoffProgress [b]) s = .next (withReply 0x1B [7] .none s)
    else
      ∃ t, exec (.setDoffProgress [b]) s = .next t ∧ t.line = (withReply 0x1B okBody .none s).line ∧
        let x := s.doff.dPulses * b.toNat / 100
        t.delivery = s.delivery ∧ t.doff.phiD = s.delivery.phi - x ∧
          tableOutcome
            { s with
              doff := { s.doff with overdue := if min x s.delivery.phi < s.doff.dPulses then false else s.doff.overdue } }
            (min x s.delivery.phi) t ∧
          (∀ n, isSpindle s n = true → n ≤ s.spindles.length →
            copRead t (spindle t n) = min (copRead s (spindle s n)) (min x s.delivery.phi) ∧
              usedRead t (spindle t n) = usedRead s (spindle s n)) ∧
          t.settings = s.settings ∧ t.store = s.store ∧ t.ring = s.ring ∧ t.zones = s.zones ∧ t.doff.lot = s.doff.lot ∧
          t.doff.pendingLot = s.doff.pendingLot

/-! ## Shifts, clock, lot, store, zones, settings (chapters 1, 8 and 9) -/

/-- CLOSE_SHIFT (R163 to R169), addressed or broadcast: the open shift as read, every count and flag of it, heads the ring with its stamps,
its duration and its derived figures, and a new shift opens under the next number with one segment and every spindle's shift counters 0; cop pulses and
roving used read as before. -/
def Obligations.CloseShiftMovesTheBooks : Prop :=
  ∀ (s : State) (broadcast : Bool), lineReady s → tableOk s →
    ∃ t, exec (.closeShift broadcast []) s = .next t ∧
      t.line = (if broadcast then s.line else (withReply 0x1D okBody .none s).line) ∧
      t.ring =
        ({ shift := { s.shift with categories := categoriesRead s, segments := segmentsRead s }
           closeStamp := s.delivery.mill, duration := s.delivery.now - s.shift.openSecond, spindleCount := spindleCount s
           derived := derivedFigures s.delivery (categoriesRead s) s.shift.breaks (segmentsRead s) : ClosedShift } ::
          s.ring).take 3 ∧
      t.shift =
        freshShift (s.shift.number % 65535 + 1) s.delivery.mill s.delivery.now false (!s.delivery.clockSet) s.doff.lot ∧
      (∀ n, isSpindle s n = true → n ≤ s.spindles.length →
        (spindle t n).shiftPulses = 0 ∧ (spindle t n).shiftSeconds = 0 ∧ (spindle t n).shiftEndBreaks = 0 ∧
          copRead t (spindle t n) = copRead s (spindle s n) ∧ usedRead t (spindle t n) = usedRead s (spindle s n) ∧
          (spindle t n).breakRing = (spindle s n).breakRing ∧ (spindle t n).secondsMark = s.delivery.now) ∧
      t.notices.latches.getLsbD 4 = true ∧ t.store.writer ≠ .idle ∧ (s.store.writer ≠ .idle → t.store.rewrite = true) ∧
      t.delivery = s.delivery ∧ t.doff = s.doff ∧ t.car1 = s.car1 ∧ t.car2 = s.car2 ∧ t.locks = s.locks ∧
      t.planner = s.planner ∧ t.listA = s.listA ∧ t.listB = s.listB ∧ t.lamps = s.lamps ∧ t.settings = s.settings ∧
      t.zones = s.zones ∧ t.faults = s.faults

/-- SET_CLOCK and WRITE_LOT (R7, R153): the mill clock takes the value and its flag is set, addressed or by broadcast, and nothing else
moves; the lot sent, each field held to its range, becomes the pending lot, and nothing in force changes. That a CLAMPED reply lists the
fields in the order sent is the model's choice (assumption log entry 21). -/
def Obligations.PlainWritesChangeOneThing : Prop :=
  (∀ (s : State) (a b c d : Byte) (broadcast : Bool), lineReady s →
      let loaded : State :=
        { s with
          delivery :=
            { s.delivery with
              mill := ((a.toNat * 256 + b.toNat) * 256 + c.toNat) * 256 + d.toNat, clockSet := true } }
      exec (.setClock broadcast [a, b, c, d]) s =
        .next (if broadcast then { loaded with emitted := [] } else withReply 0x1E okBody .none loaded)) ∧
    ∀ (s : State) (n1 n2 t1 t2 r1 r2 ls1 ls2 lw1 lw2 lr1 lr2 ps : Byte), lineReady s →
      let two := fun (x y : Byte) => x.toNat * 256 + y.toNat
      let lot : Lot :=
        { number := two n1 n2, t := max 400 (min 20000 (two t1 t2)), r := max 1000 (min 8000 (two r1 r2))
          ls := max 500 (min 12000 (two ls1 ls2)), lw := min 2000 (two lw1 lw2), lr := max 500 (min 8000 (two lr1 lr2))
          ps := max 10 (min 95 ps.toNat) }
      let clamped : List Byte :=
        (if lot.t = two t1 t2 then [] else [6]) ++ (if lot.r = two r1 r2 then [] else [7]) ++
          (if lot.ls = two ls1 ls2 then [] else [8]) ++ (if lot.lw = two lw1 lw2 then [] else [9]) ++
          (if lot.lr = two lr1 lr2 then [] else [10]) ++ (if lot.ps = ps.toNat then [] else [11])
      exec (.writeLot [n1, n2, t1, t2, r1, r2, ls1, ls2, lw1, lw2, lr1, lr2, ps]) s =
        .next
          (withReply 0x10
            (if clamped = [] then okBody else 1 :: BitVec.ofNat 8 clamped.length :: clamped) .none
            { s with doff := { s.doff with pendingLot := some lot } })

/-- STORE_WRITE_DONE and STORE_WRITE_FAILED (R184, R185): the copy written holds its image, or is invalid with STORE_WRITE
raised; a rewrite that is needed begins with the image as it stands now, and otherwise the writer is IDLE. With no write running
nothing changes (the model's choice, entry 3 of the assumption log). POWER_LOSS (R185): the queue and the retained store are left, and a copy whose write was running is invalid. A
board without power takes no other command but POWER_ON_RESET: the model's choice, assumption log entry 9. -/
def Obligations.StoreOutlivesWritesAndPowerLoss : Prop :=
  ((∀ (s : State) (copy : CopyNo) (image : Image), s.powered = true → s.store.writer = .writing copy image →
        (∃ t, exec .storeWriteDone s = .next t ∧ keepsReports s t ∧
          (match copy with
           | .one => t.store.copy1 = some image ∧ t.store.copy2 = s.store.copy2
           | .two => t.store.copy2 = some image ∧ t.store.copy1 = s.store.copy1) ∧
          t.store.rewrite = false ∧
          (match t.store.writer with
           | .idle => s.store.rewrite = false
           | .writing target next =>
             s.store.rewrite = true ∧ next.settings = s.settings.retained ∧ next.zones = s.zones.records ∧ next.ring = s.ring ∧
               (target, next.sequence) = writeTarget t.store) ∧
          t = { s with emitted := [], store := t.store }) ∧
        ∃ t, exec .storeWriteFailed s = .next t ∧ t.faults.status.getLsbD 9 = true ∧
          (match copy with
           | .one => t.store.copy1 = none ∧ t.store.copy2 = s.store.copy2
           | .two => t.store.copy2 = none ∧ t.store.copy1 = s.store.copy1) ∧
          t.store.rewrite = false ∧
          (match t.store.writer with
           | .idle => s.store.rewrite = false
           | .writing target next =>
             s.store.rewrite = true ∧ next.settings = s.settings.retained ∧ next.zones = s.zones.records ∧ next.ring = s.ring ∧
               (target, next.sequence) = writeTarget t.store) ∧
          t = { s with emitted := [], store := t.store, faults := t.faults, notices := t.notices }) ∧
      ∀ s : State, s.powered = true → s.store.writer = .idle →
        exec .storeWriteDone s = .next { s with emitted := [] } ∧ exec .storeWriteFailed s = .next { s with emitted := [] }) ∧
  ((∀ s : State, ∃ t, exec .powerLoss s = .next t ∧ t.powered = false ∧ t.pending = s.pending ∧ t.store.writer = .idle ∧
        t.store.rewrite = false ∧
        match s.store.writer with
        | .idle => t.store.copy1 = s.store.copy1 ∧ t.store.copy2 = s.store.copy2
        | .writing .one _ => t.store.copy1 = none ∧ t.store.copy2 = s.store.copy2
        | .writing .two _ => t.store.copy1 = s.store.copy1 ∧ t.store.copy2 = none) ∧
      ∀ (c : Instr) (s : State), s.powered = false → (∀ a v d f, c ≠ .powerOnReset a v d f) → c ≠ .powerLoss →
        exec c s = .next s)

/-- WRITE_SETTINGS (R180, R181, R185): the checks in their order refuse with nothing changed; a request that passes writes every named
field, clamped, into the working copy, and with target WORKING_AND_RETAINED into the retained copy, whose write begins; what is in
force only from the next power-on stands. What acts at once (R149, R182, R191): a write of masks or severities works the alarm out and
changes no more of the faults; a write of pv moves the overrun point, where the table then decides, so that a held doff beyond it is
forced; neither is touched by any other field. -/
def Obligations.WriteSettingsChecksThenWrites : Prop :=
  ∀ (s : State) (body : List Byte), lineReady s → 6 ≤ body.length → body.length % 5 = 1 →
    let target := bodyNumber body 0 1
    let items := settingItems body
    if 1 < target ∨ itemsInRange items = false then exec (.writeSettings body) s = .next (withReply 0x0F [4] .none s)
    else if target = 0 ∧ ∃ it ∈ items, it.1 ≤ 11 then exec (.writeSettings body) s = .next (withReply 0x0F [5] .none s)
    else if target = 1 ∧ s.store.writer ≠ .idle then exec (.writeSettings body) s = .next (withReply 0x0F [8] .none s)
    else
      ∃ t, exec (.writeSettings body) s = .next t ∧
        (∃ reply, t.line.reply = some { kind := 0x0F, body := reply, effect := .none } ∧
          reply.head? = some (if clampedFields items = [] then 0 else 1)) ∧
        (∀ it ∈ items, 12 ≤ it.1 → t.settings.working.get it.1 = clampField it.1 it.2) ∧
        (∀ field, 12 ≤ field → field ≤ 34 → (∀ it ∈ items, it.1 ≠ field) →
          t.settings.working.get field = s.settings.working.get field) ∧
        (if target = 1 then
           (∀ it ∈ items, t.settings.retained.get it.1 = clampField it.1 it.2) ∧
             (∀ field, 1 ≤ field → field ≤ 34 → (∀ it ∈ items, it.1 ≠ field) →
               t.settings.retained.get field = s.settings.retained.get field) ∧
             t.store.writer ≠ .idle ∧ t.store.copy1 = s.store.copy1 ∧ t.store.copy2 = s.store.copy2
         else t.settings.retained = s.settings.retained ∧ t.store = s.store) ∧
        t.delivery = s.delivery ∧ t.doff.lot = s.doff.lot ∧ t.zones = s.zones ∧ t.ring = s.ring ∧
        t.doff.dPulses = s.doff.dPulses ∧ t.doff.rwPulses = s.doff.rwPulses ∧
        t.faults = { s.faults with alarm := t.faults.alarm } ∧
        (if ∃ it ∈ items, it.1 = 33 ∨ it.1 = 34 then
           (t.faults.alarm = true ↔
             ∃ cls : FaultClass,
               s.faults.status.getLsbD cls.bit = true ∧ t.settings.working.masks.getLsbD cls.bit = false ∧
                 t.settings.working.severities.getLsbD cls.bit = true)
         else t.faults.alarm = s.faults.alarm) ∧
        if ∃ it ∈ items, it.1 = 15 then
          t.doff.overrun = overrunDistance s.doff.dPulses t.settings.working.overrunLimit ∧
            if s.doff.phase = .spinning ∨ s.doff.phase = .warned then
              tableOutcome { s with doff := { s.doff with overrun := t.doff.overrun } } (s.delivery.phi - s.doff.phiD) t
            else t.doff = { s.doff with overrun := t.doff.overrun }
        else t.doff = s.doff

/-- WRITE_ZONE (R174 to R178): refused for a side, record or anchor that is none; otherwise the record is replaced (its extent held to 6)
and the withheld set made again; in a sector that entered it every spindle is WITHHELD, or withhold-pending where it is PIECING; in one
that left it a WITHHELD spindle settles or is IDLE; the store is asked to write. (The withheld set names sectors, as
StepKeepsCapacities keeps it.) -/
def Obligations.WriteZoneMovesSectors : Prop :=
  ∀ (s : State) (b1 b2 en an ex co : Byte), lineReady s → s.spindles.length = spindleCount s → (∀ k ∈ s.zones.withheld, 1 ≤ k) →
    match configuredSideOfCode s b1.toNat, recordOfCode b2.toNat with
    | some side, some record =>
      if 1 < an.toNat then exec (.writeZone [b1, b2, en, an, ex, co]) s = .next (withReply 0x12 [4] .none s)
      else
        ∃ t, exec (.writeZone [b1, b2, en, an, ex, co]) s = .next t ∧
          t.line = (withReply 0x12 (if 6 < ex.toNat then [1, 1, 5] else okBody) .none s).line ∧
          t.zones.records =
            s.zones.records.set side record
              { enabled := en.toNat != 0, anchor := if an.toNat = 0 then .low else .high, extent := min ex.toNat 6
                complement := co.toNat != 0 } ∧
          t.zones.withheld = withheldSet t.zones.records s.delivery.sides s.delivery.sectors ∧
          t.delivery = s.delivery ∧ t.doff = s.doff ∧ t.settings = s.settings ∧ t.ring = s.ring ∧ keepsReports s t ∧
          t.store.writer ≠ .idle ∧ (s.store.writer ≠ .idle → t.store.rewrite = true) ∧
          ∀ n, isSpindle s n = true →
            let k := sectorOf n
            let entered := t.zones.withheld.contains k ∧ ¬ s.zones.withheld.contains k
            let left := s.zones.withheld.contains k ∧ ¬ t.zones.withheld.contains k
            (entered →
              match (spindle s n).state with
              | .piecing c x => (spindle t n).state = .piecing c x ∧ (spindle t n).withholdPending = true
              | _ =>
                (spindle t n).state = .withheld ∧ (spindle t n).breakRing = [] ∧ (spindle t n).attempts = 0 ∧
                  (spindle t n).failures = 0 ∧ (spindle t n).unlisted = false ∧ listed t n = false) ∧
              (left →
                match (spindle s n).state with
                | .withheld =>
                  (spindle t n).state = if s.delivery.driving then .settling .driveStart s.delivery.now else .idle
                | .piecing c x => (spindle t n).state = .piecing c x ∧ (spindle t n).withholdPending = false
                | _ => True)
    | _, _ => exec (.writeZone [b1, b2, en, an, ex, co]) s = .next (withReply 0x12 [4] .none s)

/-! ## Faults and notices (chapter 10) -/

/-- R192: Clear Faults, in every doff state and at any level of drive running. A set that names a class that is none is refused with
nothing cleared; otherwise the classes of the set, and no others, are clear with a count of 0, a first-fault record of one of them is
gone, the alarm is worked out again, and nothing else changes: no mask, no severity, no notice, no condition. -/
def Obligations.ClearFaultsClearsTheSet : Prop :=
  ∀ (s : State) (hi lo : Byte), lineReady s → s.faults.counts.length = 11 →
    let set := hi.toNat * 256 + lo.toNat
    if 2048 ≤ set then exec (.clearFaults [hi, lo]) s = .next (withReply 0x0D [4] .none s)
    else
      ∃ faults, exec (.clearFaults [hi, lo]) s = .next (withReply 0x0D okBody .none { s with faults := faults }) ∧
        (∀ cls : FaultClass,
          faults.status.getLsbD cls.bit = (s.faults.status.getLsbD cls.bit && !set.testBit cls.bit) ∧
            faults.counts[cls.bit]? = (if set.testBit cls.bit then some 0 else s.faults.counts[cls.bit]?)) ∧
        faults.first =
          (match s.faults.first with
           | some f => if set.testBit f.cls.bit then none else some f
           | none => none) ∧
        (faults.alarm = true ↔
          ∃ cls : FaultClass,
            faults.status.getLsbD cls.bit = true ∧ s.settings.working.masks.getLsbD cls.bit = false ∧
              s.settings.working.severities.getLsbD cls.bit = true)

/-- R189, R190, R191: a fault raised sets its status, adds one to its count, fills an empty first-fault record and no other,
raises its notice with the level of its severity unless it is masked, and works the alarm out; it changes no more. R195, R196,
R197: a notice raised sets its class's latch; it joins the queue where its class is enabled or it is CRITICAL; in a full queue a
CRITICAL one takes the place of the newest of the lowest level below it, any other is dropped, and either counts as lost. -/
def Obligations.RaisingFaultsAndNotices : Prop :=
  (∀ (s : State) (cls : FaultClass) (subject : Subject) (detail : Detail), s.faults.counts.length = 11 →
      ∃ faults notices, raiseFault cls subject detail s = { s with faults := faults, notices := notices } ∧
        (∀ c : FaultClass,
          faults.status.getLsbD c.bit = (s.faults.status.getLsbD c.bit || decide (c = cls)) ∧
            faults.counts.getD c.bit 0 =
              (if c = cls then min 4294967295 (s.faults.counts.getD c.bit 0 + 1) else s.faults.counts.getD c.bit 0)) ∧
        faults.first =
          some (s.faults.first.getD { cls := cls, stamp := s.delivery.mill, subject := subject, detail := detail }) ∧
        (faults.alarm = true ↔
          ∃ c : FaultClass,
            faults.status.getLsbD c.bit = true ∧ s.settings.working.masks.getLsbD c.bit = false ∧
              s.settings.working.severities.getLsbD c.bit = true) ∧
        if s.settings.working.masks.getLsbD cls.bit then notices = s.notices
        else
          notices =
            (raiseNotice (.fault cls) (if s.settings.working.severities.getLsbD cls.bit then .critical else .warning) subject
              detail s).notices) ∧
  (∀ (s : State) (kind : NoticeKind) (level : NoticeLevel) (subject : Subject) (detail : Detail),
      s.notices.queue.length ≤ 32 →
      let t := raiseNotice kind level subject detail s
      let made : Notice :=
        { kind := kind, level := level, stamp := s.delivery.mill, subject := subject, detail := detail, fetched := false }
      t.notices.latches.getLsbD kind.classBit = true ∧
        (∀ i, i ≠ kind.classBit → t.notices.latches.getLsbD i = s.notices.latches.getLsbD i) ∧
        if s.settings.working.enables.getLsbD kind.classBit = false ∧ level ≠ .critical then
          t.notices.queue = s.notices.queue ∧ t.notices.lost = s.notices.lost
        else if s.notices.queue.length < 32 then
          t.notices.queue = s.notices.queue ++ [made] ∧ t.notices.lost = s.notices.lost
        else
          t.notices.lost = min 255 (s.notices.lost + 1) ∧ t.notices.queue.length = 32 ∧
            if level = .critical ∧ ∃ m ∈ s.notices.queue, m.level ≠ .critical then
              ∃ (before after : List Notice) (gone : Notice), s.notices.queue = before ++ gone :: after ∧
                t.notices.queue = before ++ after ++ [made] ∧ (∀ m ∈ after, m.level ≠ gone.level) ∧
                gone.level = (if s.notices.queue.any (fun m => m.level == .info) then .info else .warning)
            else t.notices.queue = s.notices.queue)

/-! ## The supervisor line (chapter 11) -/

/-- R202: a refusal of any request leaves every piece of state as it stood, apart from the reply that waits and, for BAD_LENGTH,
the bad-request counter; its reply body is the outcome alone. R201, R202, section 11.6: a request whose body length does not
suit its kind is answered BAD_LENGTH, is counted, and does nothing else, whatever its kind. -/
def Obligations.RefusalsLeaveEverything : Prop :=
  (∀ (c : Instr) (kind : Nat) (s t : State) (r : Reply) (code : Byte), lineReady s → kindOfRequest c = some kind → exec c s = .next t →
      t.line.reply = some r → r.body.head? = some code → 2 ≤ code.toNat →
      t = withReply kind [code] .none (if code = 3 then oneBadRequest s else s) ∧ 3 ≤ code.toNat ∧ code.toNat ≤ 8) ∧
  (∀ (c : Instr) (kind : Nat) (s : State), lineReady s → kindOfRequest c = some kind →
      lengthSuits kind (bodyOfRequest c) = false → exec c s = .next (withReply kind [3] .none (oneBadRequest s)))

/-- The eleven readings whose sending changes nothing (R68, R96, R130, R131, R146, R155, R170, R174, R183, R193, R206: IDENTIFY,
READ_PIECING_LIST, READ_GROUPS, READ_ROVING_CALLS, READ_CARRIAGES, READ_DOFF_STATE, READ_DOFF_LOG, READ_SHIFT, READ_FAULTS,
READ_SETTINGS, READ_ZONES): each is answered, OK or OUT_OF_RANGE, and leaves every piece of state but the waiting reply; five of them are never refused. R68, R130,
R146, R170, R174, R183: which operands a reading refuses as OUT_OF_RANGE, and that it takes every other. -/
def Obligations.ReadingsChangeNothing : Prop :=
  (∀ (c : Instr) (kind : Nat) (s : State), lineReady s → kindOfRequest c = some kind →
      kind ∈ [0x01, 0x05, 0x06, 0x07, 0x08, 0x09, 0x0A, 0x0B, 0x0C, 0x0E, 0x11] → lengthSuits kind (bodyOfRequest c) = true →
      ∃ body, exec c s = .next (withReply kind body .none s) ∧
        if kind ∈ [0x01, 0x07, 0x08, 0x09, 0x0C] then body.head? = some 0 else body.head? = some 0 ∨ body = [4]) ∧
  (∀ (s : State) (a b : Byte) (hi lo : Byte), lineReady s → tableOk s →
      let first := hi.toNat * 256 + lo.toNat
      let refused := fun (kind : Nat) (c : Instr) => exec c s = .next (withReply kind [4] .none s)
      (refused 0x05 (.readPiecingList [a, hi, lo]) ↔
          configuredSideOfCode s a.toNat = none ∨ (first ≠ 0 ∧ (isSpindle s first = false ∨ some (sideOf s first) ≠ sideOfCode a.toNat))) ∧
        (refused 0x06 (.readGroups [a]) ↔ a ≠ 0 ∧ isGroup s a.toNat = false) ∧
        (refused 0x0A (.readDoffLog [a]) ↔ 16 ≤ a.toNat) ∧
        (refused 0x0B (.readShift [a, b]) ↔ 3 < a.toNat ∨ s.ring.length < a.toNat ∨ b = 0 ∨ 9 < b.toNat) ∧
        (refused 0x0E (.readSettings [a, b]) ↔ 1 < a.toNat ∨ b = 0 ∨ 34 < b.toNat) ∧
        (refused 0x11 (.readZones [a]) ↔ configuredSideOfCode s a.toNat = none))

/-- R206, R208: the Identify reply, byte for byte: outcome, vendor code, part code, design revision, sides, sectors, spindle count, address
and speed. R206 gives the values; their order and widths are read from R208's general law (assumption log entry 19). -/
def Obligations.IdentifyGivesTheIdentity : Prop :=
  ∀ s : State, lineReady s → s.delivery.sides ≤ 2 → s.delivery.sectors ≤ 42 → s.line.address ≤ 31 → s.line.speed ≤ 3 →
    exec (.identify []) s =
      .next
        (withReply 0x01
          [0, 0x2C, 0x61, 0x09, 0x70, 1, BitVec.ofNat 8 s.delivery.sides, BitVec.ofNat 8 s.delivery.sectors,
            BitVec.ofNat 8 (24 * (s.delivery.sides * s.delivery.sectors) / 256),
            BitVec.ofNat 8 (24 * (s.delivery.sides * s.delivery.sectors)), BitVec.ofNat 8 s.line.address,
            BitVec.ofNat 8 s.line.speed]
          .none s)

/-- READ_STATUS and READ_SPINDLES with the sending of their replies (R195, R201, R204, R205): taking one changes nothing but the
reply that waits (and the model's own note of the latches set since, assumption log entry 18); the latches reported set are cleared, and
the cursor moves, when the reply is sent; a latch set by a notice raised between the two stays set. A read whose number or
scope is out of range is refused. R204: where the cursor goes after a read with scope NONE, SECTOR or SIDE from a start within
the frame: to the spindle after the last one returned, or from the end of the range to its beginning. -/
def Obligations.StatusAndSpindlesActAtTheirSending : Prop :=
  ((∀ s : State, lineReady s →
        ∃ body t,
          let taken :=
            withReply 0x02 body (.latches s.notices.latches) { s with notices := { s.notices with latchedSince := 0#6 } }
          exec (.readStatus []) s = .next taken ∧ body.head? = some 0 ∧ exec .replySend taken = .next t ∧
            t.notices.latches = 0#6 ∧ t.notices.queue = s.notices.queue ∧ t.notices.lost = s.notices.lost ∧
            ∀ (kind : NoticeKind) (level : NoticeLevel) (subject : Subject) (detail : Detail),
              ∃ u, exec .replySend (raiseNotice kind level subject detail taken) = .next u ∧
                ∀ i, u.notices.latches.getLsbD i = decide (i = kind.classBit)) ∧
      ∀ (s : State) (hi lo limit scope : Byte), lineReady s →
        let first := hi.toNat * 256 + lo.toNat
        if spindleCount s < first ∨ 2 < scope.toNat then
          exec (.readSpindles [hi, lo, limit, scope]) s = .next (withReply 0x04 [4] .none s)
        else
          let start := if first = 0 then s.line.cursor else first
          let next := nextCursor s start limit.toNat scope.toNat
          ∃ body t, exec (.readSpindles [hi, lo, limit, scope]) s = .next (withReply 0x04 body (.cursor next) s) ∧
            body.head? = some 0 ∧ exec .replySend (withReply 0x04 body (.cursor next) s) = .next t ∧ t.line.cursor = next ∧
            t.spindles = s.spindles) ∧
  (∀ (s : State) (start limit scope : Nat), tableOk s → 64 ≤ s.settings.working.replyLimit → isSpindle s start = true → scope ≤ 2 →
      let range := readRange s start scope
      let returned := (readOrder s start scope).take (readCount s start limit scope)
      let next := nextCursor s start limit scope
      range.1 ≤ next ∧ next ≤ range.2 ∧ range.1 ≤ start ∧ start ≤ range.2 ∧ returned ≠ [] ∧ returned.head? = some start ∧
        returned.Nodup ∧ (∀ n ∈ returned, range.1 ≤ n ∧ n ≤ range.2) ∧
        ∀ last, returned.getLast? = some last → next = if last = range.2 then range.1 else last + 1)

/-- FETCH_NOTICES with the sending of its reply (R198): a limit above 32 is refused; otherwise the queue keeps its notices until the reply
is sent, and then loses exactly those returned, the first of fetch order, and the lost count becomes 0. A reply withheld removes none. A
notice given up for a full queue between the two is counted in the lost count that the next reply gives. (How the model marks the notices
returned, and notes those lost since, is assumption log entry 18.) -/
def Obligations.FetchRemovesWhatItReturned : Prop :=
  ∀ (s : State) (limit : Byte), lineReady s → (∀ n ∈ s.notices.queue, n.fetched = false) →
    if 32 < limit.toNat then exec (.fetchNotices [limit]) s = .next (withReply 0x03 [4] .none s)
    else
      let k := fetchCount s limit.toNat
      ∃ t u v, exec (.fetchNotices [limit]) s = .next t ∧
        t.line = (withReply 0x03 (fetchBody s limit.toNat) .fetch s).line ∧
        t.notices.queue.map (fun n => { n with fetched := false }) = s.notices.queue ∧ t.notices.lost = s.notices.lost ∧
        t.notices.latches = s.notices.latches ∧ t.spindles = s.spindles ∧ t.faults = s.faults ∧
        exec .replySend t = .next u ∧ u.notices.lost = 0 ∧ fetchOrder u.notices.queue = (fetchOrder s.notices.queue).drop k ∧
        u.notices.queue.Sublist s.notices.queue ∧ exec .replyWithheld t = .next v ∧
        v.notices = { s.notices with lostSince := 0 } ∧
        ∀ (kind : NoticeKind) (level : NoticeLevel) (subject : Subject) (detail : Detail), s.notices.queue.length = 32 →
          (s.settings.working.enables.getLsbD kind.classBit = true ∨ level = .critical) →
          ∃ w, exec .replySend (raiseNotice kind level subject detail t) = .next w ∧ w.notices.lost = 1

/-- R201, R68, R130, R131, R146, R183, R198, R204, R170: the body of a reply that gives as many items as fit never exceeds the
reply size limit, nor the 250 bytes of a frame. R209, R210, R211: a spindle record has 40 bytes, a notice 15, and the parts of a
shift record the sizes of the table. (A break ring holds at most four stamps, R33, as StepKeepsCapacities keeps it.) -/
def Obligations.PagedRepliesFit : Prop :=
  (∀ (c : Instr) (kind : Nat) (s t : State) (r : Reply), lineReady s → kindOfRequest c = some kind →
      kind ∈ [0x03, 0x04, 0x05, 0x06, 0x07, 0x0A, 0x0B, 0x0E] → (∀ sp ∈ s.spindles, sp.breakRing.length ≤ 4) →
      64 ≤ s.settings.working.replyLimit → s.settings.working.replyLimit ≤ 250 → exec c s = .next t → t.line.reply = some r →
      r.body.length ≤ s.settings.working.replyLimit) ∧
  ((∀ (s : State) (n : Nat), (spindle s n).breakRing.length ≤ 4 → (spindleBytes s n).length = 40) ∧
      (∀ n : Notice, (noticeBytes n).length = 15) ∧
      ∀ (v : ShiftView) (i : Nat) (g : Segment),
        (partIdentity v).length = 20 ∧ (partTimes v).length = 48 ∧ (partBreaks v).length = 48 ∧ (partOutput v).length = 20 ∧
          (partDerived v).length = 21 ∧ (partSegment v i g).length = 22)

/-- FRAME_SILENCE_TIMEOUT, FRAME_DISCARDED, RESYNC_SILENCE, FRAME_IGNORED, BROADCAST_IGNORED and UNKNOWN_KIND (R200, R201, R203)
at a unit that listens with no reply waiting: a discarded frame is counted and the receiver waits for silence; an ignored one
changes nothing; an ignored broadcast and an unknown kind each count as a bad request, and only the unknown kind is answered.
REPLY_SEND, REPLY_END and REPLY_WITHHELD (R200, R201, R208): a waiting reply goes onto the line as one frame from the unit's
address with the kind's top bit set, and the unit is REPLYING until its end; a reply withheld is gone with nothing sent.
In RESYNC and in REPLYING every request, honoured or ignored broadcast, unknown kind, ignored frame and discarded frame changes
nothing: that these whole frames are not received is read from R200 (assumption log entry 7). A FRAME_SILENCE_TIMEOUT in RESYNC or
REPLYING, and a RESYNC_SILENCE in REPLYING, cannot occur: that they change nothing is the model's choice (entry 3).
(Replies whose sending has effects of its own, and Restart, have their own statements.) -/
def Obligations.FramesAndRepliesOnTheLine : Prop :=
  ((∀ s : State, s.powered = true → (s.line.receiver = .hunting ∨ s.line.receiver = .inFrame) → s.line.reply = none →
        (∀ c ∈ [Instr.frameSilenceTimeout, .frameDiscarded],
          exec c s =
            .next
              { s with
                emitted := []
                line := { s.line with discardedFrames := min 65535 (s.line.discardedFrames + 1), receiver := .resync } }) ∧
          exec .frameIgnored s = .next { s with emitted := [], line := { s.line with receiver := .hunting } } ∧
          exec .broadcastIgnored s =
            .next
              { s with
                emitted := []
                line :=
                  { s.line with badRequests := min 65535 (s.line.badRequests + 1), receiver := .hunting } } ∧
          ∀ kind : Byte, s.line.address ≠ 0 → (kind = 0 ∨ (0x20 ≤ kind.toNat ∧ kind.toNat < 0x80)) →
            exec (.unknownKind kind) s = .next (withReply kind.toNat [2] .none (oneBadRequest s))) ∧
      (∀ s : State, s.powered = true → s.line.receiver = .resync →
        exec .resyncSilence s = .next { s with emitted := [], line := { s.line with receiver := .hunting } }) ∧
      (∀ s : State, s.powered = true → s.line.receiver = .replying → exec .resyncSilence s = .next { s with emitted := [] }) ∧
      ∀ s : State, s.powered = true → (s.line.receiver = .resync ∨ s.line.receiver = .replying) →
        (∀ (c : Instr) (kind : Nat), kindOfRequest c = some kind → exec c s = .next { s with emitted := [] }) ∧
          ∀ (kind : Byte) (body : List Byte),
            ∀ c ∈ [Instr.unknownKind kind, .closeShift true body, .setClock true body, .broadcastIgnored, .frameIgnored,
              .frameDiscarded, .frameSilenceTimeout], exec c s = .next { s with emitted := [] }) ∧
  ((∀ (s : State) (kind : Nat) (body : List Byte), s.powered = true →
        (s.line.receiver = .hunting ∨ s.line.receiver = .inFrame) →
        s.line.reply = some { kind := kind, body := body, effect := .none } →
        exec .replySend s =
            .next
              { s with
                emitted := [.frame (frameOf s.line.address (kind + 0x80) body)]
                line := { s.line with receiver := .replying } } ∧
          ∃ t, exec .replyWithheld s = .next t ∧ t.line = { s.line with reply := none } ∧ t.emitted = [] ∧
            t = { s with emitted := [], line := t.line, notices := t.notices } ∧
            (s.notices.queue.all (fun n => !n.fetched) → t.notices = s.notices)) ∧
      ∀ (s : State), s.powered = true → s.line.receiver = .replying → (∀ r, s.line.reply = some r → r.effect ≠ .restart) →
        exec .replyEnd s = .next { s with emitted := [], line := { s.line with receiver := .hunting, reply := none } })

/-- RESTART (R30, R46, R48, R71, R98, R110, R133, R157, R173, R199, R207): taken, it changes nothing until its reply has been sent whole, or
is withheld; then every spindle is rebuilt, its cop, roving and shift figures kept as read; the lists are empty, every station is sent
REFUSE with reason RESTARTED and every record is ABSENT with tag and counters kept; a lock held by a carriage is FREE or passes to the
claim that waited for it, with PROCEED sent, and one held by the transport stands; the rails settle anew with their counters kept. The
delivery counter stands but for pulse-loss detection, the open shift but for its restart count (its categories and segments as read).
Faults, notices and latches, settings, zones, ring and store stand. Of the planner, the calls listed stand (one may be issued), with the
back-off, the last timed-out call, the discard counter, the tag and the change, unless a call is issued. A doff that is called and not
driven, or parking, goes on to DOFFING, where its doff record is opened and the rest of the doff record stands (R143).
The level of drive running that decides the spindles is the one held (assumption log entry 26); that a wholly withheld group is left in
no call is read from R118 (entry 43); that the cops of that record are counted on the rebuilt spindles is the model's choice
(entry 45). -/
def Obligations.RestartRebuildsTheBoard : Prop :=
  (∀ s : State, lineReady s → exec (.restart []) s = .next (withReply 0x1F okBody .restart s)) ∧
    ∀ (s : State) (kind : Nat) (body : List Byte), s.powered = true → s.spindles.length = spindleCount s →
      s.line.reply = some { kind := kind, body := body, effect := .restart } →
      ∀ c, ((c = .replyEnd ∧ s.line.receiver = .replying) ∨
          (c = .replyWithheld ∧ s.line.receiver = .hunting)) →
        ∃ t, exec c s = .next t ∧ t.powered = true ∧ t.pending = s.pending ∧
          t.line = { s.line with receiver := .hunting, reply := none } ∧
          t.delivery =
            { s.delivery with
              pulseLost := false
              pulseTimer :=
                if s.delivery.driving then some (s.delivery.now + s.settings.working.pulseLossTime) else none } ∧
          (∀ n, isSpindle s n = true →
            let st : SpindleState :=
              if s.zones.withheld.contains (sectorOf n) then .withheld
              else if s.delivery.driving then .settling .driveStart s.delivery.now else .idle
            (spindle t n).state = st ∧ (spindle t n).breakRing = [] ∧ (spindle t n).attempts = 0 ∧ (spindle t n).failures = 0 ∧
              (spindle t n).unlisted = false ∧ (spindle t n).stopEngaged = engagedOnEntry st ∧
              (spindle t n).estimateValid = (spindle s n).estimateValid ∧
              copRead t (spindle t n) = copRead s (spindle s n) ∧ usedRead t (spindle t n) = usedRead s (spindle s n) ∧
              shiftPulsesRead t (spindle t n) = shiftPulsesRead s (spindle s n) ∧
              shiftSecondsRead t (spindle t n) = shiftSecondsRead s (spindle s n) ∧
              (spindle t n).shiftEndBreaks = (spindle s n).shiftEndBreaks) ∧
          t.listA = [] ∧ t.listB = [] ∧ t.car1.link = .absent ∧ t.car2.link = .absent ∧ t.car1.tag = s.car1.tag ∧
          t.car1.counters = s.car1.counters ∧ t.car2.tag = s.car2.tag ∧ t.car2.counters = s.car2.counters ∧
          t.carDiscards = s.carDiscards ∧
          (∀ (r : RecordNo) (st : Station), (carriage s r).link.station? = some st →
            .carriage st.number (.refuse .restarted) ∈ t.emitted) ∧
          (∀ k,
            lockOf t k =
              match (lockOf s k).holder with
              | .carriage _ (some _) => { holder := .transport, last := .carriage, carryOver := 0 }
              | .carriage _ none => { holder := .free, last := .carriage, carryOver := (lockOf s k).carryOver }
              | _ => lockOf s k) ∧
          (∀ (c : ActiveChange) (l : Lock), s.planner.transport.change = some c → l ∈ s.locks → l.claim ≠ none →
            t.planner.transport = .changing c ∧ .transport (.proceed c.tag) ∈ t.emitted) ∧
          (∀ call ∈ t.planner.calls, whollyWithheld t call.group = false) ∧
          (∀ call ∈ s.planner.calls, whollyWithheld t call.group = false → calledNow call s t) ∧
          t.planner.discarded = s.planner.discarded ∧ t.planner.backOff = s.planner.backOff ∧
          t.planner.lastTimedOut = s.planner.lastTimedOut ∧
          (match s.planner.transport with
           | .idle =>
             (t.planner.transport = .idle ∧ t.planner.tag = s.planner.tag) ∨
               (s.planner.backOff = none ∧
                 ∃ a : ActiveChange, t.planner.transport = .called a ∧ a.tag = (s.planner.tag + 1) % 256 ∧
                   t.planner.tag = a.tag ∧ a.callTime = s.delivery.now ∧ a.accepted = false)
           | change =>
             t.planner.tag = s.planner.tag ∧ ((∀ l ∈ s.locks, l.claim = none) → t.planner.transport = change)) ∧
          (∀ x ∈ t.railA.heads ++ t.railB.heads, x = freshHead) ∧
          (∀ side, (railOf t side).awake = true ∧ (railOf t side).position = 1 ∧ (railOf t side).sleepRound = false ∧
            (railOf t side).heads.length = (railOf s side).heads.length ∧
            (railOf t side).discarded = (railOf s side).discarded) ∧
          (∀ l ∈ t.lamps, l = freshLamp) ∧ (booksSound s → categoriesRead t = categoriesRead s) ∧
          segmentsRead t = segmentsRead s ∧
          t.shift =
            { s.shift with
              restarts := min 65535 (s.shift.restarts + 1), categories := t.shift.categories, segments := t.shift.segments } ∧
          t.ring = s.ring ∧ t.zones = s.zones ∧ t.settings = s.settings ∧ t.store = s.store ∧ t.faults = s.faults ∧
          t.notices.latches = s.notices.latches ∧ t.notices.lost = s.notices.lost ∧
          ((∀ n ∈ s.notices.queue, n.fetched = false) → t.notices = s.notices) ∧
          (let entered := fun call =>
             t.doff =
               { s.doff with
                 phase := .doffing call (doffRecordOf s t call), number := (s.doff.number + 1) % 65536, request := true
                 clear := true }
           match s.doff.phase with
           | .called call => if s.delivery.driving then t.doff = s.doff else entered call
           | .parking call => entered call
           | _ => t.doff = s.doff)

/-! ## Figures (section 1.6) -/

/-- R16: the break rate of a shift: the formula of its end breaks and its running seconds, absent when RUNNING is 0, held to 2^32 − 1, for a
closed shift from the record as closed and for the open shift as read. -/
def Obligations.BreakRateIsRoundedHalfUp : Prop :=
  (∀ (b : BreakCounts) (running : Nat),
      breakRate (endBreaks b) running =
        if running = 0 then none
        else
          some
            (min (2 ^ 32 - 1) ((2 * (b.yarn + b.start + b.notHeld) * 36000000 + running) / (2 * running)))) ∧
    (∀ s : State, (openDerived s).breakRate = breakRate (endBreaks s.shift.breaks) (categoriesRead s).running) ∧
    ∀ s : State,
      (closedRecord s).derived.breakRate = breakRate (endBreaks s.shift.breaks) s.shift.categories.running

/-- R12, R15: W is below D once D is at least 2, and the doff is called at or past the set length and less than one pulse past it; each
efficiency present lies within 10 000, and frame efficiency does not exceed spindle efficiency. -/
def Obligations.FiguresStayInTheirBounds : Prop :=
  (∀ (dl : Delivery) (lot : Lot), 1800 ≤ dl.d → 1 ≤ dl.p → 1 ≤ lot.ls →
      warningPulses dl lot < doffPulses dl lot ∧ lot.ls * 1000 * factorK dl ≤ doffPulses dl lot * factorM dl ∧
        (doffPulses dl lot - 1) * factorM dl < lot.ls * 1000 * factorK dl) ∧
    ∀ (c : Categories) (se fe : Nat), spindleEfficiency c = some se → frameEfficiency c = some fe → fe ≤ se ∧ se ≤ 10000

/-! ## Orders and carry-over (chapters 4 and 5) -/

/-- R82: the choice of an order among its candidates: the oldest urgent entry, else the oldest that has reached the age limit, else the
nearest in the carriage's direction, else the nearest behind it. R83, R101, seen where CARRIAGE_STATUS ends SUSPECT with dispatch open:
the entry chosen among those in FREE sectors is ordered: its sector's lock is the carriage's, PIECE is sent with the next tag, the entry
is gone, the spindle is PIECING with its break kept, and the record is BUSY with its order timer running; with no entry the record is
READY. R104: when carry-over is allowed. R87, R101, R106: at a RESULT the lock of the ended order goes to the next order in the sector
where carry-over is allowed, and otherwise to the claim that waits, with PROCEED sent; with no claim it is FREE, unless the next order
takes it. (A side is held by one record, R79.) -/
def Obligations.OrdersAreChosenIssuedAndCarriedOver : Prop :=
  (∀ (now ageLimit position : Nat) (direction : Direction) (cs : List Entry), cs ≠ [] →
      ∃ e ∈ cs, chooseEntry now ageLimit position direction cs = some e ∧
        let oldest := fun (among : Entry → Bool) =>
          among e = true ∧
            ∀ f ∈ cs, among f = true → e.time < f.time ∨ (e.time = f.time ∧ e.spindle ≤ f.spindle)
        if ∃ f ∈ cs, f.urgent = true then oldest fun f => f.urgent
        else if ∃ f ∈ cs, ageLimit ≤ now - f.time then oldest fun f => decide (ageLimit ≤ now - f.time)
        else
          match direction with
          | .up =>
            if ∃ f ∈ cs, position ≤ f.spindle then
              position ≤ e.spindle ∧ ∀ f ∈ cs, position ≤ f.spindle → e.spindle ≤ f.spindle
            else ∀ f ∈ cs, f.spindle ≤ e.spindle
          | .down =>
            if ∃ f ∈ cs, f.spindle ≤ position then
              e.spindle ≤ position ∧ ∀ f ∈ cs, f.spindle ≤ position → f.spindle ≤ e.spindle
            else ∀ f ∈ cs, e.spindle ≤ f.spindle) ∧
  (∀ (s : State) (station pos : Nat) (dir : Direction) (st : Station) (side : Side) (r : RecordNo), s.powered = true →
      recordOfStation s station = some r → (carriage s r).link = .enrolled st side pos dir .suspect →
      s.delivery.driving = true → (s.doff.phase = .spinning ∨ s.doff.phase = .restarting) →
      match chooseEntry s.delivery.now s.settings.working.ageLimit pos dir
          ((pieceList s side).filter fun f => sectorFree s (sectorOf f.spindle)) with
      | none =>
        exec (.carriageStatus station) s =
          .next (updCarriage r (fun c => { c with link := .enrolled st side pos dir .ready }) (heardFrom r s))
      | some e =>
        ∀ (cause : BreakCause) (time : Nat), sideOf s e.spindle = side → 1 ≤ e.spindle → e.spindle ≤ s.spindles.length →
          sectorOf e.spindle ≤ s.locks.length → (spindle s e.spindle).state = .broken cause time →
          ∃ t, exec (.carriageStatus station) s = .next t ∧ keepsOuter s t ∧ keepsReports s t ∧
            let k := sectorOf e.spindle
            let tag := ((carriage s r).tag + 1) % 16
            t.emitted.head? = some (.carriage st.number (.piece e.spindle tag)) ∧
              (carriage t r).link =
                .enrolled st side pos dir
                  (.busy
                    { spindle := e.spindle, tag := tag, issued := s.delivery.now
                      deadline := s.delivery.now + orderTimeoutOf s.settings.working.orderTimeoutCode, arrived := false
                      parkPending := false }) ∧
              (carriage t r).tag = tag ∧
              (carriage t r).counters.orders = min 4294967295 ((carriage s r).counters.orders + 1) ∧
              lockOf t k = { holder := .carriage r none, last := .free, carryOver := (lockOf s k).carryOver } ∧
              (∀ j, j ≠ k → lockOf t j = lockOf s j) ∧ (∀ f ∈ pieceList t side, f.spindle ≠ e.spindle) ∧
              (spindle t e.spindle).state = .piecing cause time ∧ (spindle t e.spindle).stopEngaged = true ∧
              (spindle t e.spindle).attempts = (spindle s e.spindle).attempts ∧
              t.shift.piecing.issued = min 4294967295 (s.shift.piecing.issued + 1)) ∧
  (∀ (s : State) (r : RecordNo) (k : Nat),
      carryOverAllowed s r k = true ↔
        ∃ claim : Claim, (lockOf s k).claim = some claim ∧
          (∃ st side pos dir, (carriage s r).link = .enrolled st side pos dir .ready) ∧ s.delivery.driving = true ∧
          (s.doff.phase = .spinning ∨ s.doff.phase = .restarting) ∧
          let entries := ((pieceList s (sideOfSector s k)).filter fun e => sectorOf e.spindle == k).length
          1 ≤ entries ∧
            match s.settings.working.arbitration with
            | .rovingFirst => False
            | .piecingFirst => claim.urgency < 3
            | .alternate => (lockOf s k).carryOver = 0
            | .weighed => claim.urgency < min 3 entries ∨ (claim.urgency = min 3 entries ∧ (lockOf s k).carryOver = 0)) ∧
  ∀ (s : State) (station pos : Nat) (dir : Direction) (st : Station) (side : Side) (r : RecordNo) (o : Order)
    (outcome : OrderOutcome) (waiting : Option Claim), s.powered = true → recordOfStation s station = some r →
    recordOfSide s side = some r → (carriage s r).link = .enrolled st side pos dir (.busy o) → sideOf s o.spindle = side →
    sectorOf o.spindle ≤ s.locks.length → (lockOf s (sectorOf o.spindle)).holder = .carriage r waiting →
    let k := sectorOf o.spindle
    let ended :=
      updCarriage r (fun c => { c with link := c.link.withWork (if o.parkPending then .parking else .ready) })
        (settleOutcome r o outcome (heardFrom r s))
    ∃ t, exec (.result station o.tag outcome) s = .next t ∧
      match waiting with
      | none =>
        lockOf t k = { holder := .free, last := .carriage, carryOver := (lockOf s k).carryOver } ∨
          (o.parkPending = false ∧
            lockOf t k = { holder := .carriage r none, last := .free, carryOver := (lockOf s k).carryOver })
      | some _ =>
        if carryOverAllowed ended r k = true then
          lockOf t k = { lockOf s k with carryOver := min 255 ((lockOf s k).carryOver + 1) } ∧
            ∃ o' : Order, (carriage t r).link = .enrolled st side pos dir (.busy o') ∧ sectorOf o'.spindle = k ∧
              o'.tag = ((carriage s r).tag + 1) % 16 ∧ .carriage st.number (.piece o'.spindle o'.tag) ∈ t.emitted
        else
          lockOf t k = { holder := .transport, last := .carriage, carryOver := 0 } ∧
            ∀ c : ActiveChange, ended.planner.transport.change = some c →
              t.planner.transport = .changing c ∧ .transport (.proceed c.tag) ∈ t.emitted
end

