-- ==== Sys2Proof/Laws/State.lean ====
section
/-! SUPPORT. One lemma per field of State per named update: what the update writes, and that it leaves every other field. -/

namespace Sys2Proof.Machine

open Sys2Proof

/-! ## emit -/

@[simp] theorem emit_powered (o : Output) (s : State) : (emit o s).powered = s.powered := rfl
@[simp] theorem emit_pending (o : Output) (s : State) : (emit o s).pending = s.pending := rfl
@[simp] theorem emit_emitted (o : Output) (s : State) : (emit o s).emitted = s.emitted ++ [o] := rfl
@[simp] theorem emit_delivery (o : Output) (s : State) : (emit o s).delivery = s.delivery := rfl
@[simp] theorem emit_railA (o : Output) (s : State) : (emit o s).railA = s.railA := rfl
@[simp] theorem emit_railB (o : Output) (s : State) : (emit o s).railB = s.railB := rfl
@[simp] theorem emit_drowse (o : Output) (s : State) : (emit o s).drowse = s.drowse := rfl
@[simp] theorem emit_spindles (o : Output) (s : State) : (emit o s).spindles = s.spindles := rfl
@[simp] theorem emit_lamps (o : Output) (s : State) : (emit o s).lamps = s.lamps := rfl
@[simp] theorem emit_listA (o : Output) (s : State) : (emit o s).listA = s.listA := rfl
@[simp] theorem emit_listB (o : Output) (s : State) : (emit o s).listB = s.listB := rfl
@[simp] theorem emit_car1 (o : Output) (s : State) : (emit o s).car1 = s.car1 := rfl
@[simp] theorem emit_car2 (o : Output) (s : State) : (emit o s).car2 = s.car2 := rfl
@[simp] theorem emit_carDiscards (o : Output) (s : State) : (emit o s).carDiscards = s.carDiscards := rfl
@[simp] theorem emit_locks (o : Output) (s : State) : (emit o s).locks = s.locks := rfl
@[simp] theorem emit_planner (o : Output) (s : State) : (emit o s).planner = s.planner := rfl
@[simp] theorem emit_doff (o : Output) (s : State) : (emit o s).doff = s.doff := rfl
@[simp] theorem emit_shift (o : Output) (s : State) : (emit o s).shift = s.shift := rfl
@[simp] theorem emit_ring (o : Output) (s : State) : (emit o s).ring = s.ring := rfl
@[simp] theorem emit_zones (o : Output) (s : State) : (emit o s).zones = s.zones := rfl
@[simp] theorem emit_settings (o : Output) (s : State) : (emit o s).settings = s.settings := rfl
@[simp] theorem emit_store (o : Output) (s : State) : (emit o s).store = s.store := rfl
@[simp] theorem emit_faults (o : Output) (s : State) : (emit o s).faults = s.faults := rfl
@[simp] theorem emit_notices (o : Output) (s : State) : (emit o s).notices = s.notices := rfl
@[simp] theorem emit_line (o : Output) (s : State) : (emit o s).line = s.line := rfl

/-! ## updSpindle -/

@[simp] theorem updSpindle_powered (n : Nat) (f : Spindle → Spindle) (s : State) : (updSpindle n f s).powered = s.powered := rfl
@[simp] theorem updSpindle_pending (n : Nat) (f : Spindle → Spindle) (s : State) : (updSpindle n f s).pending = s.pending := rfl
@[simp] theorem updSpindle_emitted (n : Nat) (f : Spindle → Spindle) (s : State) : (updSpindle n f s).emitted = s.emitted := rfl
@[simp] theorem updSpindle_delivery (n : Nat) (f : Spindle → Spindle) (s : State) : (updSpindle n f s).delivery = s.delivery := rfl
@[simp] theorem updSpindle_railA (n : Nat) (f : Spindle → Spindle) (s : State) : (updSpindle n f s).railA = s.railA := rfl
@[simp] theorem updSpindle_railB (n : Nat) (f : Spindle → Spindle) (s : State) : (updSpindle n f s).railB = s.railB := rfl
@[simp] theorem updSpindle_drowse (n : Nat) (f : Spindle → Spindle) (s : State) : (updSpindle n f s).drowse = s.drowse := rfl
@[simp] theorem updSpindle_spindles (n : Nat) (f : Spindle → Spindle) (s : State) : (updSpindle n f s).spindles = modifyNth s.spindles n f := rfl
@[simp] theorem updSpindle_lamps (n : Nat) (f : Spindle → Spindle) (s : State) : (updSpindle n f s).lamps = s.lamps := rfl
@[simp] theorem updSpindle_listA (n : Nat) (f : Spindle → Spindle) (s : State) : (updSpindle n f s).listA = s.listA := rfl
@[simp] theorem updSpindle_listB (n : Nat) (f : Spindle → Spindle) (s : State) : (updSpindle n f s).listB = s.listB := rfl
@[simp] theorem updSpindle_car1 (n : Nat) (f : Spindle → Spindle) (s : State) : (updSpindle n f s).car1 = s.car1 := rfl
@[simp] theorem updSpindle_car2 (n : Nat) (f : Spindle → Spindle) (s : State) : (updSpindle n f s).car2 = s.car2 := rfl
@[simp] theorem updSpindle_carDiscards (n : Nat) (f : Spindle → Spindle) (s : State) : (updSpindle n f s).carDiscards = s.carDiscards := rfl
@[simp] theorem updSpindle_locks (n : Nat) (f : Spindle → Spindle) (s : State) : (updSpindle n f s).locks = s.locks := rfl
@[simp] theorem updSpindle_planner (n : Nat) (f : Spindle → Spindle) (s : State) : (updSpindle n f s).planner = s.planner := rfl
@[simp] theorem updSpindle_doff (n : Nat) (f : Spindle → Spindle) (s : State) : (updSpindle n f s).doff = s.doff := rfl
@[simp] theorem updSpindle_shift (n : Nat) (f : Spindle → Spindle) (s : State) : (updSpindle n f s).shift = s.shift := rfl
@[simp] theorem updSpindle_ring (n : Nat) (f : Spindle → Spindle) (s : State) : (updSpindle n f s).ring = s.ring := rfl
@[simp] theorem updSpindle_zones (n : Nat) (f : Spindle → Spindle) (s : State) : (updSpindle n f s).zones = s.zones := rfl
@[simp] theorem updSpindle_settings (n : Nat) (f : Spindle → Spindle) (s : State) : (updSpindle n f s).settings = s.settings := rfl
@[simp] theorem updSpindle_store (n : Nat) (f : Spindle → Spindle) (s : State) : (updSpindle n f s).store = s.store := rfl
@[simp] theorem updSpindle_faults (n : Nat) (f : Spindle → Spindle) (s : State) : (updSpindle n f s).faults = s.faults := rfl
@[simp] theorem updSpindle_notices (n : Nat) (f : Spindle → Spindle) (s : State) : (updSpindle n f s).notices = s.notices := rfl
@[simp] theorem updSpindle_line (n : Nat) (f : Spindle → Spindle) (s : State) : (updSpindle n f s).line = s.line := rfl

/-! ## updLamp -/

@[simp] theorem updLamp_powered (k : Nat) (f : Lamp → Lamp) (s : State) : (updLamp k f s).powered = s.powered := rfl
@[simp] theorem updLamp_pending (k : Nat) (f : Lamp → Lamp) (s : State) : (updLamp k f s).pending = s.pending := rfl
@[simp] theorem updLamp_emitted (k : Nat) (f : Lamp → Lamp) (s : State) : (updLamp k f s).emitted = s.emitted := rfl
@[simp] theorem updLamp_delivery (k : Nat) (f : Lamp → Lamp) (s : State) : (updLamp k f s).delivery = s.delivery := rfl
@[simp] theorem updLamp_railA (k : Nat) (f : Lamp → Lamp) (s : State) : (updLamp k f s).railA = s.railA := rfl
@[simp] theorem updLamp_railB (k : Nat) (f : Lamp → Lamp) (s : State) : (updLamp k f s).railB = s.railB := rfl
@[simp] theorem updLamp_drowse (k : Nat) (f : Lamp → Lamp) (s : State) : (updLamp k f s).drowse = s.drowse := rfl
@[simp] theorem updLamp_spindles (k : Nat) (f : Lamp → Lamp) (s : State) : (updLamp k f s).spindles = s.spindles := rfl
@[simp] theorem updLamp_lamps (k : Nat) (f : Lamp → Lamp) (s : State) : (updLamp k f s).lamps = modifyNth s.lamps k f := rfl
@[simp] theorem updLamp_listA (k : Nat) (f : Lamp → Lamp) (s : State) : (updLamp k f s).listA = s.listA := rfl
@[simp] theorem updLamp_listB (k : Nat) (f : Lamp → Lamp) (s : State) : (updLamp k f s).listB = s.listB := rfl
@[simp] theorem updLamp_car1 (k : Nat) (f : Lamp → Lamp) (s : State) : (updLamp k f s).car1 = s.car1 := rfl
@[simp] theorem updLamp_car2 (k : Nat) (f : Lamp → Lamp) (s : State) : (updLamp k f s).car2 = s.car2 := rfl
@[simp] theorem updLamp_carDiscards (k : Nat) (f : Lamp → Lamp) (s : State) : (updLamp k f s).carDiscards = s.carDiscards := rfl
@[simp] theorem updLamp_locks (k : Nat) (f : Lamp → Lamp) (s : State) : (updLamp k f s).locks = s.locks := rfl
@[simp] theorem updLamp_planner (k : Nat) (f : Lamp → Lamp) (s : State) : (updLamp k f s).planner = s.planner := rfl
@[simp] theorem updLamp_doff (k : Nat) (f : Lamp → Lamp) (s : State) : (updLamp k f s).doff = s.doff := rfl
@[simp] theorem updLamp_shift (k : Nat) (f : Lamp → Lamp) (s : State) : (updLamp k f s).shift = s.shift := rfl
@[simp] theorem updLamp_ring (k : Nat) (f : Lamp → Lamp) (s : State) : (updLamp k f s).ring = s.ring := rfl
@[simp] theorem updLamp_zones (k : Nat) (f : Lamp → Lamp) (s : State) : (updLamp k f s).zones = s.zones := rfl
@[simp] theorem updLamp_settings (k : Nat) (f : Lamp → Lamp) (s : State) : (updLamp k f s).settings = s.settings := rfl
@[simp] theorem updLamp_store (k : Nat) (f : Lamp → Lamp) (s : State) : (updLamp k f s).store = s.store := rfl
@[simp] theorem updLamp_faults (k : Nat) (f : Lamp → Lamp) (s : State) : (updLamp k f s).faults = s.faults := rfl
@[simp] theorem updLamp_notices (k : Nat) (f : Lamp → Lamp) (s : State) : (updLamp k f s).notices = s.notices := rfl
@[simp] theorem updLamp_line (k : Nat) (f : Lamp → Lamp) (s : State) : (updLamp k f s).line = s.line := rfl

/-! ## updLock -/

@[simp] theorem updLock_powered (k : Nat) (f : Lock → Lock) (s : State) : (updLock k f s).powered = s.powered := rfl
@[simp] theorem updLock_pending (k : Nat) (f : Lock → Lock) (s : State) : (updLock k f s).pending = s.pending := rfl
@[simp] theorem updLock_emitted (k : Nat) (f : Lock → Lock) (s : State) : (updLock k f s).emitted = s.emitted := rfl
@[simp] theorem updLock_delivery (k : Nat) (f : Lock → Lock) (s : State) : (updLock k f s).delivery = s.delivery := rfl
@[simp] theorem updLock_railA (k : Nat) (f : Lock → Lock) (s : State) : (updLock k f s).railA = s.railA := rfl
@[simp] theorem updLock_railB (k : Nat) (f : Lock → Lock) (s : State) : (updLock k f s).railB = s.railB := rfl
@[simp] theorem updLock_drowse (k : Nat) (f : Lock → Lock) (s : State) : (updLock k f s).drowse = s.drowse := rfl
@[simp] theorem updLock_spindles (k : Nat) (f : Lock → Lock) (s : State) : (updLock k f s).spindles = s.spindles := rfl
@[simp] theorem updLock_lamps (k : Nat) (f : Lock → Lock) (s : State) : (updLock k f s).lamps = s.lamps := rfl
@[simp] theorem updLock_listA (k : Nat) (f : Lock → Lock) (s : State) : (updLock k f s).listA = s.listA := rfl
@[simp] theorem updLock_listB (k : Nat) (f : Lock → Lock) (s : State) : (updLock k f s).listB = s.listB := rfl
@[simp] theorem updLock_car1 (k : Nat) (f : Lock → Lock) (s : State) : (updLock k f s).car1 = s.car1 := rfl
@[simp] theorem updLock_car2 (k : Nat) (f : Lock → Lock) (s : State) : (updLock k f s).car2 = s.car2 := rfl
@[simp] theorem updLock_carDiscards (k : Nat) (f : Lock → Lock) (s : State) : (updLock k f s).carDiscards = s.carDiscards := rfl
@[simp] theorem updLock_locks (k : Nat) (f : Lock → Lock) (s : State) : (updLock k f s).locks = modifyNth s.locks k f := rfl
@[simp] theorem updLock_planner (k : Nat) (f : Lock → Lock) (s : State) : (updLock k f s).planner = s.planner := rfl
@[simp] theorem updLock_doff (k : Nat) (f : Lock → Lock) (s : State) : (updLock k f s).doff = s.doff := rfl
@[simp] theorem updLock_shift (k : Nat) (f : Lock → Lock) (s : State) : (updLock k f s).shift = s.shift := rfl
@[simp] theorem updLock_ring (k : Nat) (f : Lock → Lock) (s : State) : (updLock k f s).ring = s.ring := rfl
@[simp] theorem updLock_zones (k : Nat) (f : Lock → Lock) (s : State) : (updLock k f s).zones = s.zones := rfl
@[simp] theorem updLock_settings (k : Nat) (f : Lock → Lock) (s : State) : (updLock k f s).settings = s.settings := rfl
@[simp] theorem updLock_store (k : Nat) (f : Lock → Lock) (s : State) : (updLock k f s).store = s.store := rfl
@[simp] theorem updLock_faults (k : Nat) (f : Lock → Lock) (s : State) : (updLock k f s).faults = s.faults := rfl
@[simp] theorem updLock_notices (k : Nat) (f : Lock → Lock) (s : State) : (updLock k f s).notices = s.notices := rfl
@[simp] theorem updLock_line (k : Nat) (f : Lock → Lock) (s : State) : (updLock k f s).line = s.line := rfl

/-! ## updPlanner -/

@[simp] theorem updPlanner_powered (f : Planner → Planner) (s : State) : (updPlanner f s).powered = s.powered := rfl
@[simp] theorem updPlanner_pending (f : Planner → Planner) (s : State) : (updPlanner f s).pending = s.pending := rfl
@[simp] theorem updPlanner_emitted (f : Planner → Planner) (s : State) : (updPlanner f s).emitted = s.emitted := rfl
@[simp] theorem updPlanner_delivery (f : Planner → Planner) (s : State) : (updPlanner f s).delivery = s.delivery := rfl
@[simp] theorem updPlanner_railA (f : Planner → Planner) (s : State) : (updPlanner f s).railA = s.railA := rfl
@[simp] theorem updPlanner_railB (f : Planner → Planner) (s : State) : (updPlanner f s).railB = s.railB := rfl
@[simp] theorem updPlanner_drowse (f : Planner → Planner) (s : State) : (updPlanner f s).drowse = s.drowse := rfl
@[simp] theorem updPlanner_spindles (f : Planner → Planner) (s : State) : (updPlanner f s).spindles = s.spindles := rfl
@[simp] theorem updPlanner_lamps (f : Planner → Planner) (s : State) : (updPlanner f s).lamps = s.lamps := rfl
@[simp] theorem updPlanner_listA (f : Planner → Planner) (s : State) : (updPlanner f s).listA = s.listA := rfl
@[simp] theorem updPlanner_listB (f : Planner → Planner) (s : State) : (updPlanner f s).listB = s.listB := rfl
@[simp] theorem updPlanner_car1 (f : Planner → Planner) (s : State) : (updPlanner f s).car1 = s.car1 := rfl
@[simp] theorem updPlanner_car2 (f : Planner → Planner) (s : State) : (updPlanner f s).car2 = s.car2 := rfl
@[simp] theorem updPlanner_carDiscards (f : Planner → Planner) (s : State) : (updPlanner f s).carDiscards = s.carDiscards := rfl
@[simp] theorem updPlanner_locks (f : Planner → Planner) (s : State) : (updPlanner f s).locks = s.locks := rfl
@[simp] theorem updPlanner_planner (f : Planner → Planner) (s : State) : (updPlanner f s).planner = f s.planner := rfl
@[simp] theorem updPlanner_doff (f : Planner → Planner) (s : State) : (updPlanner f s).doff = s.doff := rfl
@[simp] theorem updPlanner_shift (f : Planner → Planner) (s : State) : (updPlanner f s).shift = s.shift := rfl
@[simp] theorem updPlanner_ring (f : Planner → Planner) (s : State) : (updPlanner f s).ring = s.ring := rfl
@[simp] theorem updPlanner_zones (f : Planner → Planner) (s : State) : (updPlanner f s).zones = s.zones := rfl
@[simp] theorem updPlanner_settings (f : Planner → Planner) (s : State) : (updPlanner f s).settings = s.settings := rfl
@[simp] theorem updPlanner_store (f : Planner → Planner) (s : State) : (updPlanner f s).store = s.store := rfl
@[simp] theorem updPlanner_faults (f : Planner → Planner) (s : State) : (updPlanner f s).faults = s.faults := rfl
@[simp] theorem updPlanner_notices (f : Planner → Planner) (s : State) : (updPlanner f s).notices = s.notices := rfl
@[simp] theorem updPlanner_line (f : Planner → Planner) (s : State) : (updPlanner f s).line = s.line := rfl

/-! ## updDoff -/

@[simp] theorem updDoff_powered (f : Doff → Doff) (s : State) : (updDoff f s).powered = s.powered := rfl
@[simp] theorem updDoff_pending (f : Doff → Doff) (s : State) : (updDoff f s).pending = s.pending := rfl
@[simp] theorem updDoff_emitted (f : Doff → Doff) (s : State) : (updDoff f s).emitted = s.emitted := rfl
@[simp] theorem updDoff_delivery (f : Doff → Doff) (s : State) : (updDoff f s).delivery = s.delivery := rfl
@[simp] theorem updDoff_railA (f : Doff → Doff) (s : State) : (updDoff f s).railA = s.railA := rfl
@[simp] theorem updDoff_railB (f : Doff → Doff) (s : State) : (updDoff f s).railB = s.railB := rfl
@[simp] theorem updDoff_drowse (f : Doff → Doff) (s : State) : (updDoff f s).drowse = s.drowse := rfl
@[simp] theorem updDoff_spindles (f : Doff → Doff) (s : State) : (updDoff f s).spindles = s.spindles := rfl
@[simp] theorem updDoff_lamps (f : Doff → Doff) (s : State) : (updDoff f s).lamps = s.lamps := rfl
@[simp] theorem updDoff_listA (f : Doff → Doff) (s : State) : (updDoff f s).listA = s.listA := rfl
@[simp] theorem updDoff_listB (f : Doff → Doff) (s : State) : (updDoff f s).listB = s.listB := rfl
@[simp] theorem updDoff_car1 (f : Doff → Doff) (s : State) : (updDoff f s).car1 = s.car1 := rfl
@[simp] theorem updDoff_car2 (f : Doff → Doff) (s : State) : (updDoff f s).car2 = s.car2 := rfl
@[simp] theorem updDoff_carDiscards (f : Doff → Doff) (s : State) : (updDoff f s).carDiscards = s.carDiscards := rfl
@[simp] theorem updDoff_locks (f : Doff → Doff) (s : State) : (updDoff f s).locks = s.locks := rfl
@[simp] theorem updDoff_planner (f : Doff → Doff) (s : State) : (updDoff f s).planner = s.planner := rfl
@[simp] theorem updDoff_doff (f : Doff → Doff) (s : State) : (updDoff f s).doff = f s.doff := rfl
@[simp] theorem updDoff_shift (f : Doff → Doff) (s : State) : (updDoff f s).shift = s.shift := rfl
@[simp] theorem updDoff_ring (f : Doff → Doff) (s : State) : (updDoff f s).ring = s.ring := rfl
@[simp] theorem updDoff_zones (f : Doff → Doff) (s : State) : (updDoff f s).zones = s.zones := rfl
@[simp] theorem updDoff_settings (f : Doff → Doff) (s : State) : (updDoff f s).settings = s.settings := rfl
@[simp] theorem updDoff_store (f : Doff → Doff) (s : State) : (updDoff f s).store = s.store := rfl
@[simp] theorem updDoff_faults (f : Doff → Doff) (s : State) : (updDoff f s).faults = s.faults := rfl
@[simp] theorem updDoff_notices (f : Doff → Doff) (s : State) : (updDoff f s).notices = s.notices := rfl
@[simp] theorem updDoff_line (f : Doff → Doff) (s : State) : (updDoff f s).line = s.line := rfl

/-! ## updDelivery -/

@[simp] theorem updDelivery_powered (f : Delivery → Delivery) (s : State) : (updDelivery f s).powered = s.powered := rfl
@[simp] theorem updDelivery_pending (f : Delivery → Delivery) (s : State) : (updDelivery f s).pending = s.pending := rfl
@[simp] theorem updDelivery_emitted (f : Delivery → Delivery) (s : State) : (updDelivery f s).emitted = s.emitted := rfl
@[simp] theorem updDelivery_delivery (f : Delivery → Delivery) (s : State) : (updDelivery f s).delivery = f s.delivery := rfl
@[simp] theorem updDelivery_railA (f : Delivery → Delivery) (s : State) : (updDelivery f s).railA = s.railA := rfl
@[simp] theorem updDelivery_railB (f : Delivery → Delivery) (s : State) : (updDelivery f s).railB = s.railB := rfl
@[simp] theorem updDelivery_drowse (f : Delivery → Delivery) (s : State) : (updDelivery f s).drowse = s.drowse := rfl
@[simp] theorem updDelivery_spindles (f : Delivery → Delivery) (s : State) : (updDelivery f s).spindles = s.spindles := rfl
@[simp] theorem updDelivery_lamps (f : Delivery → Delivery) (s : State) : (updDelivery f s).lamps = s.lamps := rfl
@[simp] theorem updDelivery_listA (f : Delivery → Delivery) (s : State) : (updDelivery f s).listA = s.listA := rfl
@[simp] theorem updDelivery_listB (f : Delivery → Delivery) (s : State) : (updDelivery f s).listB = s.listB := rfl
@[simp] theorem updDelivery_car1 (f : Delivery → Delivery) (s : State) : (updDelivery f s).car1 = s.car1 := rfl
@[simp] theorem updDelivery_car2 (f : Delivery → Delivery) (s : State) : (updDelivery f s).car2 = s.car2 := rfl
@[simp] theorem updDelivery_carDiscards (f : Delivery → Delivery) (s : State) : (updDelivery f s).carDiscards = s.carDiscards := rfl
@[simp] theorem updDelivery_locks (f : Delivery → Delivery) (s : State) : (updDelivery f s).locks = s.locks := rfl
@[simp] theorem updDelivery_planner (f : Delivery → Delivery) (s : State) : (updDelivery f s).planner = s.planner := rfl
@[simp] theorem updDelivery_doff (f : Delivery → Delivery) (s : State) : (updDelivery f s).doff = s.doff := rfl
@[simp] theorem updDelivery_shift (f : Delivery → Delivery) (s : State) : (updDelivery f s).shift = s.shift := rfl
@[simp] theorem updDelivery_ring (f : Delivery → Delivery) (s : State) : (updDelivery f s).ring = s.ring := rfl
@[simp] theorem updDelivery_zones (f : Delivery → Delivery) (s : State) : (updDelivery f s).zones = s.zones := rfl
@[simp] theorem updDelivery_settings (f : Delivery → Delivery) (s : State) : (updDelivery f s).settings = s.settings := rfl
@[simp] theorem updDelivery_store (f : Delivery → Delivery) (s : State) : (updDelivery f s).store = s.store := rfl
@[simp] theorem updDelivery_faults (f : Delivery → Delivery) (s : State) : (updDelivery f s).faults = s.faults := rfl
@[simp] theorem updDelivery_notices (f : Delivery → Delivery) (s : State) : (updDelivery f s).notices = s.notices := rfl
@[simp] theorem updDelivery_line (f : Delivery → Delivery) (s : State) : (updDelivery f s).line = s.line := rfl

/-! ## updLine -/

@[simp] theorem updLine_powered (f : Line → Line) (s : State) : (updLine f s).powered = s.powered := rfl
@[simp] theorem updLine_pending (f : Line → Line) (s : State) : (updLine f s).pending = s.pending := rfl
@[simp] theorem updLine_emitted (f : Line → Line) (s : State) : (updLine f s).emitted = s.emitted := rfl
@[simp] theorem updLine_delivery (f : Line → Line) (s : State) : (updLine f s).delivery = s.delivery := rfl
@[simp] theorem updLine_railA (f : Line → Line) (s : State) : (updLine f s).railA = s.railA := rfl
@[simp] theorem updLine_railB (f : Line → Line) (s : State) : (updLine f s).railB = s.railB := rfl
@[simp] theorem updLine_drowse (f : Line → Line) (s : State) : (updLine f s).drowse = s.drowse := rfl
@[simp] theorem updLine_spindles (f : Line → Line) (s : State) : (updLine f s).spindles = s.spindles := rfl
@[simp] theorem updLine_lamps (f : Line → Line) (s : State) : (updLine f s).lamps = s.lamps := rfl
@[simp] theorem updLine_listA (f : Line → Line) (s : State) : (updLine f s).listA = s.listA := rfl
@[simp] theorem updLine_listB (f : Line → Line) (s : State) : (updLine f s).listB = s.listB := rfl
@[simp] theorem updLine_car1 (f : Line → Line) (s : State) : (updLine f s).car1 = s.car1 := rfl
@[simp] theorem updLine_car2 (f : Line → Line) (s : State) : (updLine f s).car2 = s.car2 := rfl
@[simp] theorem updLine_carDiscards (f : Line → Line) (s : State) : (updLine f s).carDiscards = s.carDiscards := rfl
@[simp] theorem updLine_locks (f : Line → Line) (s : State) : (updLine f s).locks = s.locks := rfl
@[simp] theorem updLine_planner (f : Line → Line) (s : State) : (updLine f s).planner = s.planner := rfl
@[simp] theorem updLine_doff (f : Line → Line) (s : State) : (updLine f s).doff = s.doff := rfl
@[simp] theorem updLine_shift (f : Line → Line) (s : State) : (updLine f s).shift = s.shift := rfl
@[simp] theorem updLine_ring (f : Line → Line) (s : State) : (updLine f s).ring = s.ring := rfl
@[simp] theorem updLine_zones (f : Line → Line) (s : State) : (updLine f s).zones = s.zones := rfl
@[simp] theorem updLine_settings (f : Line → Line) (s : State) : (updLine f s).settings = s.settings := rfl
@[simp] theorem updLine_store (f : Line → Line) (s : State) : (updLine f s).store = s.store := rfl
@[simp] theorem updLine_faults (f : Line → Line) (s : State) : (updLine f s).faults = s.faults := rfl
@[simp] theorem updLine_notices (f : Line → Line) (s : State) : (updLine f s).notices = s.notices := rfl
@[simp] theorem updLine_line (f : Line → Line) (s : State) : (updLine f s).line = f s.line := rfl

/-! ## updPiecing -/

@[simp] theorem updPiecing_powered (f : PiecingCounts → PiecingCounts) (s : State) : (updPiecing f s).powered = s.powered := rfl
@[simp] theorem updPiecing_pending (f : PiecingCounts → PiecingCounts) (s : State) : (updPiecing f s).pending = s.pending := rfl
@[simp] theorem updPiecing_emitted (f : PiecingCounts → PiecingCounts) (s : State) : (updPiecing f s).emitted = s.emitted := rfl
@[simp] theorem updPiecing_delivery (f : PiecingCounts → PiecingCounts) (s : State) : (updPiecing f s).delivery = s.delivery := rfl
@[simp] theorem updPiecing_railA (f : PiecingCounts → PiecingCounts) (s : State) : (updPiecing f s).railA = s.railA := rfl
@[simp] theorem updPiecing_railB (f : PiecingCounts → PiecingCounts) (s : State) : (updPiecing f s).railB = s.railB := rfl
@[simp] theorem updPiecing_drowse (f : PiecingCounts → PiecingCounts) (s : State) : (updPiecing f s).drowse = s.drowse := rfl
@[simp] theorem updPiecing_spindles (f : PiecingCounts → PiecingCounts) (s : State) : (updPiecing f s).spindles = s.spindles := rfl
@[simp] theorem updPiecing_lamps (f : PiecingCounts → PiecingCounts) (s : State) : (updPiecing f s).lamps = s.lamps := rfl
@[simp] theorem updPiecing_listA (f : PiecingCounts → PiecingCounts) (s : State) : (updPiecing f s).listA = s.listA := rfl
@[simp] theorem updPiecing_listB (f : PiecingCounts → PiecingCounts) (s : State) : (updPiecing f s).listB = s.listB := rfl
@[simp] theorem updPiecing_car1 (f : PiecingCounts → PiecingCounts) (s : State) : (updPiecing f s).car1 = s.car1 := rfl
@[simp] theorem updPiecing_car2 (f : PiecingCounts → PiecingCounts) (s : State) : (updPiecing f s).car2 = s.car2 := rfl
@[simp] theorem updPiecing_carDiscards (f : PiecingCounts → PiecingCounts) (s : State) : (updPiecing f s).carDiscards = s.carDiscards := rfl
@[simp] theorem updPiecing_locks (f : PiecingCounts → PiecingCounts) (s : State) : (updPiecing f s).locks = s.locks := rfl
@[simp] theorem updPiecing_planner (f : PiecingCounts → PiecingCounts) (s : State) : (updPiecing f s).planner = s.planner := rfl
@[simp] theorem updPiecing_doff (f : PiecingCounts → PiecingCounts) (s : State) : (updPiecing f s).doff = s.doff := rfl
@[simp] theorem updPiecing_shift (f : PiecingCounts → PiecingCounts) (s : State) : (updPiecing f s).shift = { s.shift with piecing := f s.shift.piecing } := rfl
@[simp] theorem updPiecing_ring (f : PiecingCounts → PiecingCounts) (s : State) : (updPiecing f s).ring = s.ring := rfl
@[simp] theorem updPiecing_zones (f : PiecingCounts → PiecingCounts) (s : State) : (updPiecing f s).zones = s.zones := rfl
@[simp] theorem updPiecing_settings (f : PiecingCounts → PiecingCounts) (s : State) : (updPiecing f s).settings = s.settings := rfl
@[simp] theorem updPiecing_store (f : PiecingCounts → PiecingCounts) (s : State) : (updPiecing f s).store = s.store := rfl
@[simp] theorem updPiecing_faults (f : PiecingCounts → PiecingCounts) (s : State) : (updPiecing f s).faults = s.faults := rfl
@[simp] theorem updPiecing_notices (f : PiecingCounts → PiecingCounts) (s : State) : (updPiecing f s).notices = s.notices := rfl
@[simp] theorem updPiecing_line (f : PiecingCounts → PiecingCounts) (s : State) : (updPiecing f s).line = s.line := rfl

/-! ## updRail -/

@[simp] theorem updRail_powered (side : Side) (f : Rail → Rail) (s : State) : (updRail side f s).powered = s.powered := by cases side <;> rfl
@[simp] theorem updRail_pending (side : Side) (f : Rail → Rail) (s : State) : (updRail side f s).pending = s.pending := by cases side <;> rfl
@[simp] theorem updRail_emitted (side : Side) (f : Rail → Rail) (s : State) : (updRail side f s).emitted = s.emitted := by cases side <;> rfl
@[simp] theorem updRail_delivery (side : Side) (f : Rail → Rail) (s : State) : (updRail side f s).delivery = s.delivery := by cases side <;> rfl
@[simp] theorem updRail_drowse (side : Side) (f : Rail → Rail) (s : State) : (updRail side f s).drowse = s.drowse := by cases side <;> rfl
@[simp] theorem updRail_spindles (side : Side) (f : Rail → Rail) (s : State) : (updRail side f s).spindles = s.spindles := by cases side <;> rfl
@[simp] theorem updRail_lamps (side : Side) (f : Rail → Rail) (s : State) : (updRail side f s).lamps = s.lamps := by cases side <;> rfl
@[simp] theorem updRail_listA (side : Side) (f : Rail → Rail) (s : State) : (updRail side f s).listA = s.listA := by cases side <;> rfl
@[simp] theorem updRail_listB (side : Side) (f : Rail → Rail) (s : State) : (updRail side f s).listB = s.listB := by cases side <;> rfl
@[simp] theorem updRail_car1 (side : Side) (f : Rail → Rail) (s : State) : (updRail side f s).car1 = s.car1 := by cases side <;> rfl
@[simp] theorem updRail_car2 (side : Side) (f : Rail → Rail) (s : State) : (updRail side f s).car2 = s.car2 := by cases side <;> rfl
@[simp] theorem updRail_carDiscards (side : Side) (f : Rail → Rail) (s : State) : (updRail side f s).carDiscards = s.carDiscards := by cases side <;> rfl
@[simp] theorem updRail_locks (side : Side) (f : Rail → Rail) (s : State) : (updRail side f s).locks = s.locks := by cases side <;> rfl
@[simp] theorem updRail_planner (side : Side) (f : Rail → Rail) (s : State) : (updRail side f s).planner = s.planner := by cases side <;> rfl
@[simp] theorem updRail_doff (side : Side) (f : Rail → Rail) (s : State) : (updRail side f s).doff = s.doff := by cases side <;> rfl
@[simp] theorem updRail_shift (side : Side) (f : Rail → Rail) (s : State) : (updRail side f s).shift = s.shift := by cases side <;> rfl
@[simp] theorem updRail_ring (side : Side) (f : Rail → Rail) (s : State) : (updRail side f s).ring = s.ring := by cases side <;> rfl
@[simp] theorem updRail_zones (side : Side) (f : Rail → Rail) (s : State) : (updRail side f s).zones = s.zones := by cases side <;> rfl
@[simp] theorem updRail_settings (side : Side) (f : Rail → Rail) (s : State) : (updRail side f s).settings = s.settings := by cases side <;> rfl
@[simp] theorem updRail_store (side : Side) (f : Rail → Rail) (s : State) : (updRail side f s).store = s.store := by cases side <;> rfl
@[simp] theorem updRail_faults (side : Side) (f : Rail → Rail) (s : State) : (updRail side f s).faults = s.faults := by cases side <;> rfl
@[simp] theorem updRail_notices (side : Side) (f : Rail → Rail) (s : State) : (updRail side f s).notices = s.notices := by cases side <;> rfl
@[simp] theorem updRail_line (side : Side) (f : Rail → Rail) (s : State) : (updRail side f s).line = s.line := by cases side <;> rfl

/-! ## setPieceList -/

@[simp] theorem setPieceList_powered (side : Side) (l : List Entry) (s : State) : (setPieceList side l s).powered = s.powered := by cases side <;> rfl
@[simp] theorem setPieceList_pending (side : Side) (l : List Entry) (s : State) : (setPieceList side l s).pending = s.pending := by cases side <;> rfl
@[simp] theorem setPieceList_emitted (side : Side) (l : List Entry) (s : State) : (setPieceList side l s).emitted = s.emitted := by cases side <;> rfl
@[simp] theorem setPieceList_delivery (side : Side) (l : List Entry) (s : State) : (setPieceList side l s).delivery = s.delivery := by cases side <;> rfl
@[simp] theorem setPieceList_railA (side : Side) (l : List Entry) (s : State) : (setPieceList side l s).railA = s.railA := by cases side <;> rfl
@[simp] theorem setPieceList_railB (side : Side) (l : List Entry) (s : State) : (setPieceList side l s).railB = s.railB := by cases side <;> rfl
@[simp] theorem setPieceList_drowse (side : Side) (l : List Entry) (s : State) : (setPieceList side l s).drowse = s.drowse := by cases side <;> rfl
@[simp] theorem setPieceList_spindles (side : Side) (l : List Entry) (s : State) : (setPieceList side l s).spindles = s.spindles := by cases side <;> rfl
@[simp] theorem setPieceList_lamps (side : Side) (l : List Entry) (s : State) : (setPieceList side l s).lamps = s.lamps := by cases side <;> rfl
@[simp] theorem setPieceList_car1 (side : Side) (l : List Entry) (s : State) : (setPieceList side l s).car1 = s.car1 := by cases side <;> rfl
@[simp] theorem setPieceList_car2 (side : Side) (l : List Entry) (s : State) : (setPieceList side l s).car2 = s.car2 := by cases side <;> rfl
@[simp] theorem setPieceList_carDiscards (side : Side) (l : List Entry) (s : State) : (setPieceList side l s).carDiscards = s.carDiscards := by cases side <;> rfl
@[simp] theorem setPieceList_locks (side : Side) (l : List Entry) (s : State) : (setPieceList side l s).locks = s.locks := by cases side <;> rfl
@[simp] theorem setPieceList_planner (side : Side) (l : List Entry) (s : State) : (setPieceList side l s).planner = s.planner := by cases side <;> rfl
@[simp] theorem setPieceList_doff (side : Side) (l : List Entry) (s : State) : (setPieceList side l s).doff = s.doff := by cases side <;> rfl
@[simp] theorem setPieceList_shift (side : Side) (l : List Entry) (s : State) : (setPieceList side l s).shift = s.shift := by cases side <;> rfl
@[simp] theorem setPieceList_ring (side : Side) (l : List Entry) (s : State) : (setPieceList side l s).ring = s.ring := by cases side <;> rfl
@[simp] theorem setPieceList_zones (side : Side) (l : List Entry) (s : State) : (setPieceList side l s).zones = s.zones := by cases side <;> rfl
@[simp] theorem setPieceList_settings (side : Side) (l : List Entry) (s : State) : (setPieceList side l s).settings = s.settings := by cases side <;> rfl
@[simp] theorem setPieceList_store (side : Side) (l : List Entry) (s : State) : (setPieceList side l s).store = s.store := by cases side <;> rfl
@[simp] theorem setPieceList_faults (side : Side) (l : List Entry) (s : State) : (setPieceList side l s).faults = s.faults := by cases side <;> rfl
@[simp] theorem setPieceList_notices (side : Side) (l : List Entry) (s : State) : (setPieceList side l s).notices = s.notices := by cases side <;> rfl
@[simp] theorem setPieceList_line (side : Side) (l : List Entry) (s : State) : (setPieceList side l s).line = s.line := by cases side <;> rfl

/-! ## updCarriage -/

@[simp] theorem updCarriage_powered (r : RecordNo) (f : Carriage → Carriage) (s : State) : (updCarriage r f s).powered = s.powered := by cases r <;> rfl
@[simp] theorem updCarriage_pending (r : RecordNo) (f : Carriage → Carriage) (s : State) : (updCarriage r f s).pending = s.pending := by cases r <;> rfl
@[simp] theorem updCarriage_emitted (r : RecordNo) (f : Carriage → Carriage) (s : State) : (updCarriage r f s).emitted = s.emitted := by cases r <;> rfl
@[simp] theorem updCarriage_delivery (r : RecordNo) (f : Carriage → Carriage) (s : State) : (updCarriage r f s).delivery = s.delivery := by cases r <;> rfl
@[simp] theorem updCarriage_railA (r : RecordNo) (f : Carriage → Carriage) (s : State) : (updCarriage r f s).railA = s.railA := by cases r <;> rfl
@[simp] theorem updCarriage_railB (r : RecordNo) (f : Carriage → Carriage) (s : State) : (updCarriage r f s).railB = s.railB := by cases r <;> rfl
@[simp] theorem updCarriage_drowse (r : RecordNo) (f : Carriage → Carriage) (s : State) : (updCarriage r f s).drowse = s.drowse := by cases r <;> rfl
@[simp] theorem updCarriage_spindles (r : RecordNo) (f : Carriage → Carriage) (s : State) : (updCarriage r f s).spindles = s.spindles := by cases r <;> rfl
@[simp] theorem updCarriage_lamps (r : RecordNo) (f : Carriage → Carriage) (s : State) : (updCarriage r f s).lamps = s.lamps := by cases r <;> rfl
@[simp] theorem updCarriage_listA (r : RecordNo) (f : Carriage → Carriage) (s : State) : (updCarriage r f s).listA = s.listA := by cases r <;> rfl
@[simp] theorem updCarriage_listB (r : RecordNo) (f : Carriage → Carriage) (s : State) : (updCarriage r f s).listB = s.listB := by cases r <;> rfl
@[simp] theorem updCarriage_carDiscards (r : RecordNo) (f : Carriage → Carriage) (s : State) : (updCarriage r f s).carDiscards = s.carDiscards := by cases r <;> rfl
@[simp] theorem updCarriage_locks (r : RecordNo) (f : Carriage → Carriage) (s : State) : (updCarriage r f s).locks = s.locks := by cases r <;> rfl
@[simp] theorem updCarriage_planner (r : RecordNo) (f : Carriage → Carriage) (s : State) : (updCarriage r f s).planner = s.planner := by cases r <;> rfl
@[simp] theorem updCarriage_doff (r : RecordNo) (f : Carriage → Carriage) (s : State) : (updCarriage r f s).doff = s.doff := by cases r <;> rfl
@[simp] theorem updCarriage_shift (r : RecordNo) (f : Carriage → Carriage) (s : State) : (updCarriage r f s).shift = s.shift := by cases r <;> rfl
@[simp] theorem updCarriage_ring (r : RecordNo) (f : Carriage → Carriage) (s : State) : (updCarriage r f s).ring = s.ring := by cases r <;> rfl
@[simp] theorem updCarriage_zones (r : RecordNo) (f : Carriage → Carriage) (s : State) : (updCarriage r f s).zones = s.zones := by cases r <;> rfl
@[simp] theorem updCarriage_settings (r : RecordNo) (f : Carriage → Carriage) (s : State) : (updCarriage r f s).settings = s.settings := by cases r <;> rfl
@[simp] theorem updCarriage_store (r : RecordNo) (f : Carriage → Carriage) (s : State) : (updCarriage r f s).store = s.store := by cases r <;> rfl
@[simp] theorem updCarriage_faults (r : RecordNo) (f : Carriage → Carriage) (s : State) : (updCarriage r f s).faults = s.faults := by cases r <;> rfl
@[simp] theorem updCarriage_notices (r : RecordNo) (f : Carriage → Carriage) (s : State) : (updCarriage r f s).notices = s.notices := by cases r <;> rfl
@[simp] theorem updCarriage_line (r : RecordNo) (f : Carriage → Carriage) (s : State) : (updCarriage r f s).line = s.line := by cases r <;> rfl

/-! ## The two-way updates, read back -/

@[simp] theorem updRail_same (side : Side) (f : Rail → Rail) (s : State) : railOf (updRail side f s) side = f (railOf s side) := by
  cases side <;> rfl

@[simp] theorem setPieceList_same (side : Side) (l : List Entry) (s : State) : pieceList (setPieceList side l s) side = l := by
  cases side <;> rfl

@[simp] theorem updCarriage_same (r : RecordNo) (f : Carriage → Carriage) (s : State) :
    carriage (updCarriage r f s) r = f (carriage s r) := by cases r <;> rfl

theorem updRail_other {x y : Side} (f : Rail → Rail) (s : State) (h : y ≠ x) : railOf (updRail x f s) y = railOf s y := by
  cases x <;> cases y <;> first | rfl | exact absurd rfl h

theorem setPieceList_other {x y : Side} (l : List Entry) (s : State) (h : y ≠ x) :
    pieceList (setPieceList x l s) y = pieceList s y := by
  cases x <;> cases y <;> first | rfl | exact absurd rfl h

theorem updCarriage_other {x y : RecordNo} (f : Carriage → Carriage) (s : State) (h : y ≠ x) :
    carriage (updCarriage x f s) y = carriage s y := by
  cases x <;> cases y <;> first | rfl | exact absurd rfl h

/-! ## Notices -/

@[simp] theorem Notices.lose_latches (ns : Notices) : ns.lose.latches = ns.latches := rfl
@[simp] theorem Notices.lose_latchedSince (ns : Notices) : ns.lose.latchedSince = ns.latchedSince := rfl
@[simp] theorem Notices.lose_queue (ns : Notices) : ns.lose.queue = ns.queue := rfl
@[simp] theorem Notices.lose_lost (ns : Notices) : ns.lose.lost = satAdd Config.top8 ns.lost 1 := rfl
@[simp] theorem Notices.lose_lostSince (ns : Notices) : ns.lose.lostSince = satAdd Config.top8 ns.lostSince 1 := rfl
@[simp] theorem Notices.latch_latches (ns : Notices) (bit : Nat) : (ns.latch bit).latches = ns.latches ||| bitOf 6 bit := rfl
@[simp] theorem Notices.latch_latchedSince (ns : Notices) (bit : Nat) :
    (ns.latch bit).latchedSince = ns.latchedSince ||| bitOf 6 bit := rfl
@[simp] theorem Notices.latch_queue (ns : Notices) (bit : Nat) : (ns.latch bit).queue = ns.queue := rfl
@[simp] theorem Notices.latch_lost (ns : Notices) (bit : Nat) : (ns.latch bit).lost = ns.lost := rfl
@[simp] theorem Notices.latch_lostSince (ns : Notices) (bit : Nat) : (ns.latch bit).lostSince = ns.lostSince := rfl

end Sys2Proof.Machine
end

