-- ==== Sys2Proof/Laws/Frames.lean ====
section
/-! SUPPORT. What each shared operation may change at most, said once: the planner alone, the frame's tables, the tables with the
reports, or those with the doff sequencer. A statement about what stands cites these and unfolds no operation. -/

namespace Sys2Proof.Machine

open Sys2Proof

/-! ## Four extents of change -/

/-- Nothing but the planner and the messages sent has changed. -/
def onlyPlanner (s t : State) : Prop := ∃ u : State, t = { s with planner := u.planner, emitted := u.emitted }

/-- Nothing but the frame's tables, the planner, the open shift and the messages sent has changed. -/
def onlyTables (s t : State) : Prop :=
  ∃ u : State,
    t =
      { s with
        emitted := u.emitted, spindles := u.spindles, lamps := u.lamps, listA := u.listA, listB := u.listB, car1 := u.car1
        car2 := u.car2, locks := u.locks, planner := u.planner, shift := u.shift }

/-- Nothing but the tables and the faults and notices has changed. -/
def onlyFrame (s t : State) : Prop :=
  ∃ u : State,
    t =
      { s with
        emitted := u.emitted, spindles := u.spindles, lamps := u.lamps, listA := u.listA, listB := u.listB, car1 := u.car1
        car2 := u.car2, locks := u.locks, planner := u.planner, shift := u.shift, faults := u.faults, notices := u.notices }

/-- Nothing but the tables, the reports and the doff sequencer has changed. -/
def onlyFrameAndDoff (s t : State) : Prop :=
  ∃ u : State,
    t =
      { s with
        emitted := u.emitted, spindles := u.spindles, lamps := u.lamps, listA := u.listA, listB := u.listB, car1 := u.car1
        car2 := u.car2, locks := u.locks, planner := u.planner, shift := u.shift, faults := u.faults, notices := u.notices
        doff := u.doff }

theorem onlyPlanner.refl (s : State) : onlyPlanner s s := ⟨s, rfl⟩
theorem onlyTables.refl (s : State) : onlyTables s s := ⟨s, rfl⟩
theorem onlyFrame.refl (s : State) : onlyFrame s s := ⟨s, rfl⟩
theorem onlyFrameAndDoff.refl (s : State) : onlyFrameAndDoff s s := ⟨s, rfl⟩

/-! Composition, written from the last operation back to the first. -/

theorem onlyPlanner.after {s t u : State} (k : onlyPlanner t u) (h : onlyPlanner s t) : onlyPlanner s u := by
  obtain ⟨_, rfl⟩ := h; obtain ⟨x, rfl⟩ := k; exact ⟨x, rfl⟩

theorem onlyTables.after {s t u : State} (k : onlyTables t u) (h : onlyTables s t) : onlyTables s u := by
  obtain ⟨_, rfl⟩ := h; obtain ⟨x, rfl⟩ := k; exact ⟨x, rfl⟩

theorem onlyFrame.after {s t u : State} (k : onlyFrame t u) (h : onlyFrame s t) : onlyFrame s u := by
  obtain ⟨_, rfl⟩ := h; obtain ⟨x, rfl⟩ := k; exact ⟨x, rfl⟩

theorem onlyFrameAndDoff.after {s t u : State} (k : onlyFrameAndDoff t u) (h : onlyFrameAndDoff s t) :
    onlyFrameAndDoff s u := by
  obtain ⟨_, rfl⟩ := h; obtain ⟨x, rfl⟩ := k; exact ⟨x, rfl⟩

theorem onlyPlanner.toTables {s t : State} (h : onlyPlanner s t) : onlyTables s t := by
  obtain ⟨u, rfl⟩ := h; exact ⟨{ s with planner := u.planner, emitted := u.emitted }, rfl⟩

theorem onlyTables.toFrame {s t : State} (h : onlyTables s t) : onlyFrame s t := by
  obtain ⟨u, rfl⟩ := h; exact ⟨{ u with faults := s.faults, notices := s.notices }, rfl⟩

theorem onlyFrame.toDoff {s t : State} (h : onlyFrame s t) : onlyFrameAndDoff s t := by
  obtain ⟨u, rfl⟩ := h; exact ⟨{ u with doff := s.doff }, rfl⟩

theorem onlyTables.keepsReports {s t : State} (h : onlyTables s t) : keepsReports s t := by
  obtain ⟨_, rfl⟩ := h; exact ⟨rfl, rfl⟩

theorem onlyFrame.keepsOuter {s t : State} (h : onlyFrame s t) : keepsOuter s t := by
  obtain ⟨_, rfl⟩ := h; exact ⟨⟨rfl, rfl, rfl, rfl, rfl, rfl, rfl, rfl, rfl, rfl, rfl⟩, rfl, rfl⟩

theorem onlyFrameAndDoff.keepsBoard {s t : State} (h : onlyFrameAndDoff s t) : keepsBoard s t := by
  obtain ⟨_, rfl⟩ := h; exact ⟨rfl, rfl, rfl, rfl, rfl, rfl, rfl, rfl, rfl, rfl, rfl⟩

/-- A fold keeps an extent that each of its steps keeps. -/
theorem foldl_keeps {α : Type} (R : State → State → Prop) (hr : ∀ s, R s s) (ht : ∀ {s t u}, R t u → R s t → R s u)
    (f : State → α → State) (hf : ∀ s x, R s (f s x)) : ∀ (l : List α) (s : State), R s (l.foldl f s)
  | [], s => hr s
  | x :: l, s => ht (foldl_keeps R hr ht f hf l (f s x)) (hf s x)

/-! ## The updates -/

theorem emit_onlyPlanner (o : Output) (s : State) : onlyPlanner s (emit o s) := ⟨emit o s, rfl⟩
theorem updPlanner_onlyPlanner (f : Planner → Planner) (s : State) : onlyPlanner s (updPlanner f s) := ⟨updPlanner f s, rfl⟩
theorem updSpindle_onlyTables (n : Nat) (f : Spindle → Spindle) (s : State) : onlyTables s (updSpindle n f s) :=
  ⟨updSpindle n f s, rfl⟩
theorem updLamp_onlyTables (k : Nat) (f : Lamp → Lamp) (s : State) : onlyTables s (updLamp k f s) := ⟨updLamp k f s, rfl⟩
theorem updLock_onlyTables (k : Nat) (f : Lock → Lock) (s : State) : onlyTables s (updLock k f s) := ⟨updLock k f s, rfl⟩
theorem updPiecing_onlyTables (f : PiecingCounts → PiecingCounts) (s : State) : onlyTables s (updPiecing f s) :=
  ⟨updPiecing f s, rfl⟩
theorem setPieceList_onlyTables (side : Side) (l : List Entry) (s : State) : onlyTables s (setPieceList side l s) :=
  ⟨setPieceList side l s, by cases side <;> rfl⟩
theorem updCarriage_onlyTables (r : RecordNo) (f : Carriage → Carriage) (s : State) : onlyTables s (updCarriage r f s) :=
  ⟨updCarriage r f s, by cases r <;> rfl⟩

theorem shift_onlyTables (f : Shift) (s : State) : onlyTables s { s with shift := f } := ⟨{ s with shift := f }, rfl⟩

/-! ## The planner (chapter 6) -/

theorem removePoint_onlyPlanner (g : Nat) (s : State) : onlyPlanner s (removePoint g s) := updPlanner_onlyPlanner _ _
theorem removeCall_onlyPlanner (g : Nat) (s : State) : onlyPlanner s (removeCall g s) := updPlanner_onlyPlanner _ _

theorem issueCall_onlyPlanner (c : Call) (rest : List Call) (s : State) : onlyPlanner s (issueCall c rest s) :=
  (emit_onlyPlanner _ _).after ((updPlanner_onlyPlanner _ _).after (removePoint_onlyPlanner _ _))

theorem callTest_onlyPlanner (s : State) : onlyPlanner s (callTest s) := by
  unfold callTest; split
  · exact issueCall_onlyPlanner _ _ _
  · exact .refl s

theorem listGroup_onlyPlanner (g : Nat) (u : CallUrgency) (o : CallOrigin) (s : State) :
    onlyPlanner s (listGroup g u o s) := by
  unfold listGroup; split
  · exact .refl s
  · split
    · exact .refl s
    · exact (callTest_onlyPlanner _).after ((updPlanner_onlyPlanner _ _).after (removePoint_onlyPlanner _ _))
    · split
      · split
        · exact (callTest_onlyPlanner _).after (updPlanner_onlyPlanner _ _)
        · exact .refl s
      · exact .refl s

theorem evaluateGroup_onlyPlanner (g : Nat) (s : State) : onlyPlanner s (evaluateGroup g s) := by
  refine onlyPlanner.after ?_ (removePoint_onlyPlanner g s)
  show onlyPlanner _ (if _ then _ else _)
  split
  · split
    · exact listGroup_onlyPlanner _ _ _ _
    · split
      · exact .refl _
      · show onlyPlanner _ (if _ then _ else _)
        split
        · exact listGroup_onlyPlanner _ _ _ _
        · exact updPlanner_onlyPlanner _ _
  · exact .refl _

theorem tellPlanner_onlyPlanner (g : Nat) (s : State) : onlyPlanner s (tellPlanner g s) := by
  unfold tellPlanner; split
  · exact (evaluateGroup_onlyPlanner _ _).after (removeCall_onlyPlanner _ _)
  · exact evaluateGroup_onlyPlanner _ _

theorem evaluateGroups_onlyPlanner (gs : List Nat) (s : State) : onlyPlanner s (evaluateGroups gs s) :=
  foldl_keeps onlyPlanner .refl .after _ (fun t g => evaluateGroup_onlyPlanner g t) gs s

theorem expedite_onlyPlanner (g : Nat) (s : State) : onlyPlanner s (expedite g s) := listGroup_onlyPlanner _ _ _ _

theorem reachPoints_onlyPlanner (s : State) : onlyPlanner s (reachPoints s) :=
  foldl_keeps onlyPlanner .refl .after _ (fun t g => listGroup_onlyPlanner g _ _ t) _ s

theorem plannerGranted_onlyPlanner (s : State) : onlyPlanner s (plannerGranted s) := by
  unfold plannerGranted; split
  · exact .refl s
  · exact (updPlanner_onlyPlanner _ _).after (emit_onlyPlanner _ _)

/-! ## Spindles and lamps (chapter 2) -/

theorem settleSpindle_onlyTables (n : Nat) (s : State) : onlyTables s (settleSpindle n s) := by
  unfold settleSpindle; dsimp only; split
  · exact (updSpindle_onlyTables _ _ _).after (shift_onlyTables _ _)
  · exact .refl s

theorem settleEach_onlyTables (ns : List Nat) (s : State) : onlyTables s (settleEach ns s) :=
  foldl_keeps onlyTables .refl .after _ (fun t n => settleSpindle_onlyTables n t) ns s

theorem settleAll_onlyTables (s : State) : onlyTables s (settleAll s) := settleEach_onlyTables _ _

theorem workOutLamp_onlyTables (k : Nat) (had : Bool) (s : State) : onlyTables s (workOutLamp k had s) := updLamp_onlyTables _ _ _

theorem changeState_onlyTables (n : Nat) (st : SpindleState) (s : State) : onlyTables s (changeState n st s) := by
  unfold changeState; dsimp only; split
  · exact (workOutLamp_onlyTables _ _ _).after ((updSpindle_onlyTables _ _ _).after (shift_onlyTables _ _))
  · exact .refl s

theorem enterState_onlyTables (n : Nat) (st : SpindleState) (s : State) : onlyTables s (enterState n st s) :=
  (tellPlanner_onlyPlanner _ _).toTables.after (changeState_onlyTables _ _ _)

/-! ## The break dispatcher, the orders and the locks (chapters 3 to 5) -/

theorem makeEntry_onlyTables (n : Nat) (urgent : Bool) (s : State) : onlyTables s (makeEntry n urgent s) := by
  unfold makeEntry; split
  · exact (setPieceList_onlyTables _ _ _).after (updSpindle_onlyTables _ _ _)
  · exact .refl s

theorem dropFromList_onlyTables (n : Nat) (s : State) : onlyTables s (dropFromList n s) :=
  (setPieceList_onlyTables _ _ _).after (updSpindle_onlyTables _ _ _)

theorem refillUpTo_onlyTables : ∀ (fuel : Nat) (side : Side) (s : State), onlyTables s (refillUpTo fuel side s)
  | 0, _, s => .refl s
  | k + 1, side, s => by
    unfold refillUpTo; split
    · exact .refl s
    · split
      · exact (refillUpTo_onlyTables k side _).after (makeEntry_onlyTables _ _ _)
      · exact .refl s

theorem refill_onlyTables (side : Side) (s : State) : onlyTables s (refill side s) := refillUpTo_onlyTables _ _ _

theorem countIssued_onlyTables (s : State) : onlyTables s (countIssued s) := shift_onlyTables _ _

theorem issueOrder_onlyTables (r : RecordNo) (e : Entry) (carried : Bool) (s : State) :
    onlyTables s (issueOrder r e carried s) := by
  unfold issueOrder; dsimp only
  exact
    (countIssued_onlyTables _).after <|
      (updCarriage_onlyTables _ _ _).after <|
        (enterState_onlyTables _ _ _).after <|
          (refill_onlyTables _ _).after <|
            (dropFromList_onlyTables _ _).after <| (emit_onlyPlanner _ _).toTables.after (updLock_onlyTables _ _ _)

theorem dispatchAmong_onlyTables (allowed : Entry → Bool) (carried : Bool) (r : RecordNo) (s : State) :
    onlyTables s (dispatchAmong allowed carried r s) := by
  unfold dispatchAmong; split
  · split
    · split
      · exact issueOrder_onlyTables _ _ _ _
      · exact .refl s
    · exact .refl s
  · exact .refl s

theorem dispatch_onlyTables (r : RecordNo) (s : State) : onlyTables s (dispatch r s) := dispatchAmong_onlyTables _ _ _ _

theorem dispatchCarried_onlyTables (k : Nat) (r : RecordNo) (s : State) : onlyTables s (dispatchCarried k r s) :=
  dispatchAmong_onlyTables _ _ _ _

theorem attemptSide_onlyTables (side : Side) (s : State) : onlyTables s (attemptSide side s) := by
  unfold attemptSide; split
  · exact .refl s
  · exact dispatch_onlyTables _ _

theorem attemptBoth_onlyTables (s : State) : onlyTables s (attemptBoth s) :=
  (attemptSide_onlyTables _ _).after (attemptSide_onlyTables _ _)

theorem refillAndAttempt_onlyTables (side : Side) (s : State) : onlyTables s (refillAndAttempt side s) := by
  refine onlyTables.after ?_ (refill_onlyTables side s)
  show onlyTables _ (if _ then _ else _)
  split
  · exact attemptSide_onlyTables _ _
  · exact .refl _

theorem releaseLock_onlyTables (k : Nat) (s : State) : onlyTables s (releaseLock k s) := by
  unfold releaseLock; split
  · exact (plannerGranted_onlyPlanner _).toTables.after (updLock_onlyTables _ _ _)
  · exact (attemptSide_onlyTables _ _).after (updLock_onlyTables _ _ _)
  · exact .refl s

theorem endClaim_onlyTables (k : Nat) (s : State) : onlyTables s (endClaim k s) := by
  unfold endClaim; split
  · exact (attemptSide_onlyTables _ _).after (updLock_onlyTables _ _ _)
  · exact updLock_onlyTables _ _ _
  · exact .refl s

theorem endClaimOfChange_onlyTables (s : State) : onlyTables s (endClaimOfChange s) := by
  unfold endClaimOfChange; split
  · exact endClaim_onlyTables _ _
  · exact endClaim_onlyTables _ _
  · exact .refl s

theorem claimSector_onlyTables (c : ActiveChange) (s : State) : onlyTables s (claimSector c s) := by
  unfold claimSector; dsimp only; split
  · exact (plannerGranted_onlyPlanner _).toTables.after (updLock_onlyTables _ _ _)
  · exact (plannerGranted_onlyPlanner _).toTables
  · exact (updPlanner_onlyPlanner _ _).toTables.after (updLock_onlyTables _ _ _)
  · exact (updPlanner_onlyPlanner _ _).toTables

theorem leaveBroken_onlyTables (n : Nat) (st : SpindleState) (s : State) : onlyTables s (leaveBroken n st s) :=
  (enterState_onlyTables _ _ _).after (dropFromList_onlyTables _ _)

theorem leaveList_onlyTables (n : Nat) (st : SpindleState) (s : State) : onlyTables s (leaveList n st s) :=
  (refillAndAttempt_onlyTables _ _).after (leaveBroken_onlyTables _ _ _)

theorem attemptIfListed_onlyTables (n : Nat) (s : State) : onlyTables s (attemptIfListed n s) := by
  unfold attemptIfListed; split
  · exact attemptSide_onlyTables _ _
  · exact .refl s

theorem pieceDone_onlyTables (n : Nat) (s : State) : onlyTables s (pieceDone n s) := by
  unfold pieceDone; split
  · split
    · exact enterState_onlyTables _ _ _
    · exact enterState_onlyTables _ _ _
  · exact .refl s

theorem countBreak_onlyTables (n : Nat) (c : BreakCause) (s : State) : onlyTables s (countBreak n c s) := by
  unfold countBreak; dsimp only; split
  · exact (updSpindle_onlyTables _ _ _).after (shift_onlyTables _ _)
  · exact shift_onlyTables _ _

/-! ## Faults, notices, and what raises them (chapter 10) -/

/-- A notice touches the notices alone. -/
theorem raiseNotice_eq (k : NoticeKind) (l : NoticeLevel) (x : Subject) (d : Detail) (s : State) :
    raiseNotice k l x d s = { s with notices := (raiseNotice k l x d s).notices } := rfl

/-- A fault touches the faults and the notices alone. -/
theorem raiseFault_eq (c : FaultClass) (x : Subject) (d : Detail) (s : State) :
    raiseFault c x d s = { s with faults := (raiseFault c x d s).faults, notices := (raiseFault c x d s).notices } := by
  unfold raiseFault; dsimp only; split <;> rfl

theorem raiseNotice_onlyFrame (k : NoticeKind) (l : NoticeLevel) (x : Subject) (d : Detail) (s : State) :
    onlyFrame s (raiseNotice k l x d s) := ⟨raiseNotice k l x d s, rfl⟩

theorem raiseFault_onlyFrame (c : FaultClass) (x : Subject) (d : Detail) (s : State) : onlyFrame s (raiseFault c x d s) := by
  rw [raiseFault_eq]
  exact ⟨{ s with faults := (raiseFault c x d s).faults, notices := (raiseFault c x d s).notices }, rfl⟩

theorem listSpindle_onlyFrame (n : Nat) (s : State) : onlyFrame s (listSpindle n s) := by
  unfold listSpindle; dsimp only; split
  · exact (makeEntry_onlyTables _ _ _).toFrame
  · split
    · exact (raiseFault_onlyFrame _ _ _ _).after (updSpindle_onlyTables _ _ _).toFrame
    · exact (updSpindle_onlyTables _ _ _).toFrame

theorem enlist_onlyFrame (n : Nat) (check : LockCheck) (s : State) : onlyFrame s (enlist n check s) := by
  unfold enlist; split
  · exact
      (tellPlanner_onlyPlanner _ _).toTables.toFrame.after
        ((raiseNotice_onlyFrame _ _ _ _ _).after (changeState_onlyTables _ _ _).toFrame)
  · exact (tellPlanner_onlyPlanner _ _).toTables.toFrame.after (listSpindle_onlyFrame n s)

theorem takeIn_onlyFrame (n : Nat) (check : LockCheck) (s : State) : onlyFrame s (takeIn n check s) :=
  (attemptIfListed_onlyTables _ _).toFrame.after (enlist_onlyFrame _ _ _)

theorem breakSpindle_onlyFrame (n : Nat) (c : BreakCause) (s : State) : onlyFrame s (breakSpindle n c s) := by
  unfold breakSpindle; split
  · exact
      ((expedite_onlyPlanner _ _).toTables.after
        ((countBreak_onlyTables _ _ _).after (enterState_onlyTables _ _ _))).toFrame
  · exact (enlist_onlyFrame _ _ _).after ((countBreak_onlyTables _ _ _).after (changeState_onlyTables _ _ _)).toFrame

theorem confirmBreak_onlyFrame (n : Nat) (c : BreakCause) (s : State) : onlyFrame s (confirmBreak n c s) :=
  (attemptIfListed_onlyTables _ _).toFrame.after (breakSpindle_onlyFrame _ _ _)

/-! ## An accepted report (chapter 2) -/

theorem actOnStreak_onlyFrame (n : Nat) (s : State) : onlyFrame s (actOnStreak n s) := by
  unfold actOnStreak; dsimp only; split
  · split
    · exact (enterState_onlyTables _ _ _).toFrame
    · exact .refl s
  · split
    · exact breakSpindle_onlyFrame _ _ _
    · exact .refl s
  · split
    · exact ((leaveBroken_onlyTables _ _ _).after (shift_onlyTables _ _)).toFrame
    · exact .refl s
  · split
    · exact ((enterState_onlyTables _ _ _).after (shift_onlyTables _ _)).toFrame
    · exact .refl s
  · exact .refl s

theorem reportSpindle_onlyFrame (n : Nat) (present : Bool) (s : State) : onlyFrame s (reportSpindle n present s) := by
  unfold reportSpindle; split
  · exact .refl s
  · split
    · exact (actOnStreak_onlyFrame _ _).after (updSpindle_onlyTables _ _ _).toFrame
    · exact (updSpindle_onlyTables _ _ _).toFrame

/-- An accepted report changes the frame's tables and the reports alone. -/
theorem acceptReport_onlyFrame (k : Nat) (present : PresenceFlags) (s : State) : onlyFrame s (acceptReport k present s) := by
  have h : onlyFrame s (refill (sideOfSector s k) (reportEach k present s)) :=
    (refill_onlyTables _ _).toFrame.after
      (foldl_keeps onlyFrame .refl .after _ (fun t n => reportSpindle_onlyFrame n _ t) _ s)
  unfold acceptReport; dsimp only; split
  · exact (attemptSide_onlyTables _ _).toFrame.after h
  · exact h

theorem returnToBroken_onlyFrame (n : Nat) (check : LockCheck) (s : State) : onlyFrame s (returnToBroken n check s) := by
  unfold returnToBroken; split
  · split
    · exact (enterState_onlyTables _ _ _).toFrame
    · exact (takeIn_onlyFrame _ _ _).after (changeState_onlyTables _ _ _).toFrame
  · exact .refl s

theorem releaseFromRoving_onlyFrame (n : Nat) (s : State) : onlyFrame s (releaseFromRoving n s) := by
  unfold releaseFromRoving; split
  · exact (takeIn_onlyFrame _ _ _).after (changeState_onlyTables _ _ _).toFrame
  · exact (enterState_onlyTables _ _ _).toFrame
  · exact .refl s

theorem countChange_onlyTables (k : Nat) (s : State) : onlyTables s (countChange k s) := shift_onlyTables _ _

theorem renewGroup_onlyFrame (g : Nat) (s : State) : onlyFrame s (renewGroup g s) := by
  unfold renewGroup; dsimp only
  exact
    (countChange_onlyTables _ _).toFrame.after <|
      (foldl_keeps onlyFrame .refl .after _ (fun t n => releaseFromRoving_onlyFrame n t) _ _).after <|
        (foldl_keeps onlyFrame .refl .after _ (fun t n => (updSpindle_onlyTables n Spindle.renewed t).toFrame) _ _).after
          (settleEach_onlyTables _ _).toFrame

theorem completeChange_onlyFrame (c : ActiveChange) (s : State) : onlyFrame s (completeChange c s) := by
  unfold completeChange; dsimp only
  exact
    (callTest_onlyPlanner _).toTables.toFrame.after <|
      (raiseNotice_onlyFrame _ _ _ _ _).after <|
        (evaluateGroup_onlyPlanner _ _).toTables.toFrame.after <|
          (updPlanner_onlyPlanner _ _).toTables.toFrame.after <|
            (endClaimOfChange_onlyTables _).toFrame.after (renewGroup_onlyFrame _ _)

theorem honourLate_onlyFrame (g : Nat) (s : State) : onlyFrame s (honourLate g s) := by
  unfold honourLate; dsimp only
  exact
    (updPlanner_onlyPlanner _ _).toTables.toFrame.after <|
      (raiseNotice_onlyFrame _ _ _ _ _).after <|
        (evaluateGroup_onlyPlanner _ _).toTables.toFrame.after <|
          (renewGroup_onlyFrame _ _).after (removeCall_onlyPlanner _ _).toTables.toFrame

/-! ## The doff called and the carriages parked (chapters 4 and 7) -/

theorem updDoff_onlyFrameAndDoff (f : Doff → Doff) (s : State) : onlyFrameAndDoff s (updDoff f s) := ⟨updDoff f s, rfl⟩

/-- Entry to CALLED, PARKING or DOFFING takes no drowse and attempts no dispatch: it is the doff record alone. -/
theorem enterPhase_inDoff (ph : DoffPhase) (s : State) (h : ph.inDoff = true) :
    enterPhase ph s = updDoff (fun d => d.toPhase ph) s := by
  have hd : ph.dispatchOpen = false := by cases ph <;> first | rfl | exact absurd h (by decide)
  simp [enterPhase, testDrowse, Doff.toPhase, h, hd]

theorem enterDoffing_onlyFrameAndDoff (call : CallInfo) (s : State) : onlyFrameAndDoff s (enterDoffing call s) := by
  unfold enterDoffing; dsimp only
  rw [enterPhase_inDoff _ _ rfl]
  exact (updDoff_onlyFrameAndDoff _ _).after (updDoff_onlyFrameAndDoff _ _)

theorem testClear_onlyFrameAndDoff (s : State) : onlyFrameAndDoff s (testClear s) := by
  unfold testClear; split
  · split
    · exact enterDoffing_onlyFrameAndDoff _ _
    · exact .refl s
  · exact .refl s

theorem parkRecord_onlyTables (r : RecordNo) (s : State) : onlyTables s (parkRecord r s) := by
  unfold parkRecord; split
  · split
    · exact (updCarriage_onlyTables _ _ _).after (emit_onlyPlanner _ _).toTables
    · exact .refl s
  · exact .refl s

theorem enterParking_onlyFrameAndDoff (call : CallInfo) (s : State) : onlyFrameAndDoff s (enterParking call s) := by
  unfold enterParking
  rw [enterPhase_inDoff _ _ rfl]
  exact
    (testClear_onlyFrameAndDoff _).after <|
      ((parkRecord_onlyTables _ _).after (parkRecord_onlyTables _ _)).toFrame.toDoff.after (updDoff_onlyFrameAndDoff _ _)

theorem enterCalled_onlyFrameAndDoff (early forced : Bool) (s : State) : onlyFrameAndDoff s (enterCalled early forced s) := by
  unfold enterCalled; dsimp only
  rw [enterPhase_inDoff _ _ rfl]
  split
  · exact (updDoff_onlyFrameAndDoff _ _).after (updDoff_onlyFrameAndDoff _ _)
  · exact
      (enterParking_onlyFrameAndDoff _ _).after ((updDoff_onlyFrameAndDoff _ _).after (updDoff_onlyFrameAndDoff _ _))

theorem forceDoff_onlyFrameAndDoff (s : State) : onlyFrameAndDoff s (forceDoff s) :=
  (raiseNotice_onlyFrame _ _ _ _ _).toDoff.after
    ((enterCalled_onlyFrameAndDoff _ _ _).after (updDoff_onlyFrameAndDoff _ _))

/-! ## Carriages (chapter 4) -/

theorem signOfLife_onlyTables (r : RecordNo) (s : State) : onlyTables s (signOfLife r s) := updCarriage_onlyTables _ _ _

theorem updCounters_onlyTables (r : RecordNo) (f : CarriageCounters → CarriageCounters) (s : State) :
    onlyTables s (updCounters r f s) := updCarriage_onlyTables _ _ _

theorem countLate_onlyTables (r : RecordNo) (s : State) : onlyTables s (countLate r s) := updCounters_onlyTables _ _ _

theorem dropOrder_onlyFrame (o : Option Order) (s : State) : onlyFrame s (dropOrder o s) := by
  unfold dropOrder; split
  · exact .refl s
  · exact (releaseLock_onlyTables _ _).toFrame.after (returnToBroken_onlyFrame _ _ _)

theorem makeAbsent_onlyFrameAndDoff (r : RecordNo) (lost : Bool) (s : State) : onlyFrameAndDoff s (makeAbsent r lost s) := by
  unfold makeAbsent; dsimp only
  refine (testClear_onlyFrameAndDoff _).after ((dropOrder_onlyFrame _ _).after ?_).toDoff
  split
  · split
    · exact (raiseFault_onlyFrame _ _ _ _).after (updCarriage_onlyTables _ _ _).toFrame
    · exact (updCarriage_onlyTables _ _ _).toFrame
  · exact (updCarriage_onlyTables _ _ _).toFrame

theorem rejectEnrolment_onlyFrameAndDoff (r : RecordNo) (st : Station) (side : Side) (reason : RefuseReason) (s : State) :
    onlyFrameAndDoff s (rejectEnrolment r st side reason s) := by
  unfold rejectEnrolment; dsimp only
  exact
    (testClear_onlyFrameAndDoff _).after <|
      ((raiseFault_onlyFrame _ _ _ _).after
        ((signOfLife_onlyTables _ _).after
          ((updCarriage_onlyTables _ _ _).after (emit_onlyPlanner _ _).toTables)).toFrame).toDoff

theorem acceptEnrolment_onlyFrameAndDoff (r : RecordNo) (st : Station) (side : Side) (w : CarriageWork) (s : State) :
    onlyFrameAndDoff s (acceptEnrolment r st side w s) := by
  unfold acceptEnrolment; dsimp only
  refine (testClear_onlyFrameAndDoff _).after ((dispatch_onlyTables _ _).toFrame.after <|
    (raiseNotice_onlyFrame _ _ _ _ _).after <|
      onlyTables.toFrame <| (signOfLife_onlyTables _ _).after <| (updCarriage_onlyTables _ _ _).after ?_).toDoff
  split
  · exact (emit_onlyPlanner _ _).toTables
  · exact ((emit_onlyPlanner _ _).after (emit_onlyPlanner _ _)).toTables

theorem enrol_onlyFrameAndDoff (r : RecordNo) (st : Station) (side : Side) (s : State) :
    onlyFrameAndDoff s (enrol r st side s) := by
  unfold enrol
  split
  · exact rejectEnrolment_onlyFrameAndDoff _ _ _ _ _
  · split
    · exact rejectEnrolment_onlyFrameAndDoff _ _ _ _ _
    · split
      · exact rejectEnrolment_onlyFrameAndDoff _ _ _ _ _
      · split
        · exact ((updCarriage_onlyTables _ _ _).after (emit_onlyPlanner _ _).toTables).toFrame.toDoff
        all_goals exact acceptEnrolment_onlyFrameAndDoff _ _ _ _ _

theorem noRoom_onlyFrame (st : Station) (side : Side) (s : State) : onlyFrame s (noRoom st side s) :=
  (raiseFault_onlyFrame _ _ _ _).after (emit_onlyPlanner _ _).toTables.toFrame

theorem enrolStation_onlyFrameAndDoff (st : Station) (side : Side) (s : State) :
    onlyFrameAndDoff s (enrolStation st side s) := by
  unfold enrolStation; split
  · split
    · exact (enrol_onlyFrameAndDoff _ _ _ _).after (makeAbsent_onlyFrameAndDoff _ _ _)
    · exact enrol_onlyFrameAndDoff _ _ _ _
  · split
    · exact enrol_onlyFrameAndDoff _ _ _ _
    · exact (noRoom_onlyFrame _ _ _).toDoff

theorem completeOrder_onlyFrameAndDoff (r : RecordNo) (o : Order) (s : State) : onlyFrameAndDoff s (completeOrder r o s) := by
  unfold completeOrder; dsimp only
  refine (testClear_onlyFrameAndDoff _).after (onlyTables.toFrame ?_).toDoff
  split <;> split <;>
    first
    | exact (dispatchCarried_onlyTables _ _ _).after (updCarriage_onlyTables _ _ _)
    | exact (dispatch_onlyTables _ _).after ((releaseLock_onlyTables _ _).after (updCarriage_onlyTables _ _ _))

theorem settleOutcome_onlyFrame (r : RecordNo) (o : Order) (x : OrderOutcome) (s : State) :
    onlyFrame s (settleOutcome r o x s) := by
  cases x <;> unfold settleOutcome <;> dsimp only
  · exact
      ((updPiecing_onlyTables _ _).after <|
        (updCounters_onlyTables _ _ _).after <| (pieceDone_onlyTables _ _).after (updSpindle_onlyTables _ _ _)).toFrame
  · exact
      ((updPiecing_onlyTables _ _).after (updCounters_onlyTables _ _ _)).toFrame.after
        ((returnToBroken_onlyFrame _ _ _).after (updSpindle_onlyTables _ _ _).toFrame)
  · exact ((updPiecing_onlyTables _ _).after (updCounters_onlyTables _ _ _)).toFrame.after (returnToBroken_onlyFrame _ _ _)
  · exact (updPiecing_onlyTables _ _).toFrame.after (returnToBroken_onlyFrame _ _ _)

theorem handleResult_onlyFrameAndDoff (r : RecordNo) (o : Order) (x : OrderOutcome) (s : State) :
    onlyFrameAndDoff s (handleResult r o x s) :=
  (completeOrder_onlyFrameAndDoff _ _ _).after (settleOutcome_onlyFrame _ _ _ _).toDoff

theorem leaveSuspect_onlyTables (r : RecordNo) (s : State) : onlyTables s (leaveSuspect r s) := by
  unfold leaveSuspect; split
  · exact (dispatch_onlyTables _ _).after (updCarriage_onlyTables _ _ _)
  · exact .refl s

theorem reachPark_onlyFrameAndDoff (r : RecordNo) (s : State) : onlyFrameAndDoff s (reachPark r s) :=
  (testClear_onlyFrameAndDoff _).after (updCarriage_onlyTables _ _ _).toFrame.toDoff

theorem timeOutOrder_onlyFrameAndDoff (r : RecordNo) (st : Station) (side : Side) (o : Order) (s : State) :
    onlyFrameAndDoff s (timeOutOrder r st side o s) := by
  unfold timeOutOrder; dsimp only
  exact
    (testClear_onlyFrameAndDoff _).after <|
      ((((emit_onlyPlanner _ _).toTables.after (updCarriage_onlyTables _ _ _)).after
          (releaseLock_onlyTables _ _)).toFrame.after <|
        (returnToBroken_onlyFrame _ _ _).after <|
          ((updPiecing_onlyTables _ _).after (updCounters_onlyTables _ _ _)).toFrame.after
            (raiseFault_onlyFrame _ _ _ _)).toDoff

end Sys2Proof.Machine
end

