-- ==== Sys2Proof/Laws/PerInstr.lean ====
section
/-! SUPPORT. Statements made of every command, one lemma for each constructor. -/

namespace Sys2Proof.Laws

open Sys2Proof Sys2Proof.Machine

/-- Section 11.6: a command that is a request has a kind code from 0x01 to 0x1F, and is the request that its kind and body give. -/
def Kinds.Statement (i : Instr) : Prop :=
  ∀ kind, kindOfRequest i = some kind → 1 ≤ kind ∧ kind ≤ 0x1F ∧ requestOfKind kind (bodyOfRequest i) = some i

theorem Kinds.powerOnReset (address speed : Nat) (driveRunning dofferActive : Bool) : Kinds.Statement (.powerOnReset address speed driveRunning dofferActive) := by
  intro k h; cases h

theorem Kinds.runSecond : Kinds.Statement .runSecond := by
  intro k h; cases h

theorem Kinds.frontRollerPulse : Kinds.Statement .frontRollerPulse := by
  intro k h; cases h

theorem Kinds.driveRunningRise : Kinds.Statement .driveRunningRise := by
  intro k h; cases h

theorem Kinds.driveRunningFall : Kinds.Statement .driveRunningFall := by
  intro k h; cases h

theorem Kinds.pulseLoss : Kinds.Statement .pulseLoss := by
  intro k h; cases h

theorem Kinds.headPoll (side : Side) : Kinds.Statement (.headPoll side) := by
  intro k h; cases h

theorem Kinds.pollAnswer (side : Side) (checkOk headOk : Bool) (present : PresenceFlags) : Kinds.Statement (.pollAnswer side checkOk headOk present) := by
  intro k h; cases h

theorem Kinds.answerWaitExpiry (side : Side) : Kinds.Statement (.answerWaitExpiry side) := by
  intro k h; cases h

theorem Kinds.drowseDelayExpiry : Kinds.Statement .drowseDelayExpiry := by
  intro k h; cases h

theorem Kinds.sleepPoll (side : Side) : Kinds.Statement (.sleepPoll side) := by
  intro k h; cases h

theorem Kinds.settleLimitReached (spindle : Nat) : Kinds.Statement (.settleLimitReached spindle) := by
  intro k h; cases h

theorem Kinds.lampHoldExpiry (sector : Nat) : Kinds.Statement (.lampHoldExpiry sector) := by
  intro k h; cases h

theorem Kinds.ability (station : Nat) (side : Side) (abilities : AbilitySet) (revision : Nat) : Kinds.Statement (.ability station side abilities revision) := by
  intro k h; cases h

theorem Kinds.position (station spindle : Nat) (direction : Direction) : Kinds.Statement (.position station spindle direction) := by
  intro k h; cases h

theorem Kinds.arrived (station tag : Nat) : Kinds.Statement (.arrived station tag) := by
  intro k h; cases h

theorem Kinds.result (station tag : Nat) (outcome : OrderOutcome) : Kinds.Statement (.result station tag outcome) := by
  intro k h; cases h

theorem Kinds.parked (station : Nat) : Kinds.Statement (.parked station) := by
  intro k h; cases h

theorem Kinds.carriageStatus (station : Nat) : Kinds.Statement (.carriageStatus station) := by
  intro k h; cases h

theorem Kinds.orderTimerExpiry (record : RecordNo) : Kinds.Statement (.orderTimerExpiry record) := by
  intro k h; cases h

theorem Kinds.linkLossTimerExpiry (record : RecordNo) : Kinds.Statement (.linkLossTimerExpiry record) := by
  intro k h; cases h

theorem Kinds.parkTimerExpiry (record : RecordNo) : Kinds.Statement (.parkTimerExpiry record) := by
  intro k h; cases h

theorem Kinds.waitLimitExpiry (sector : Nat) : Kinds.Statement (.waitLimitExpiry sector) := by
  intro k h; cases h

theorem Kinds.transportAccept (tag : Nat) : Kinds.Statement (.transportAccept tag) := by
  intro k h; cases h

theorem Kinds.decline (tag : Nat) : Kinds.Statement (.decline tag) := by
  intro k h; cases h

theorem Kinds.atSector (tag : Nat) : Kinds.Statement (.atSector tag) := by
  intro k h; cases h

theorem Kinds.changed (tag : Nat) : Kinds.Statement (.changed tag) := by
  intro k h; cases h

theorem Kinds.aborted (tag : Nat) : Kinds.Statement (.aborted tag) := by
  intro k h; cases h

theorem Kinds.transportTimerExpiry : Kinds.Statement .transportTimerExpiry := by
  intro k h; cases h

theorem Kinds.backOffExpiry : Kinds.Statement .backOffExpiry := by
  intro k h; cases h

theorem Kinds.dofferActiveRise : Kinds.Statement .dofferActiveRise := by
  intro k h; cases h

theorem Kinds.dofferActiveFall : Kinds.Statement .dofferActiveFall := by
  intro k h; cases h

theorem Kinds.doffComplete : Kinds.Statement .doffComplete := by
  intro k h; cases h

theorem Kinds.storeWriteDone : Kinds.Statement .storeWriteDone := by
  intro k h; cases h

theorem Kinds.storeWriteFailed : Kinds.Statement .storeWriteFailed := by
  intro k h; cases h

theorem Kinds.frameSilenceTimeout : Kinds.Statement .frameSilenceTimeout := by
  intro k h; cases h

theorem Kinds.frameDiscarded : Kinds.Statement .frameDiscarded := by
  intro k h; cases h

theorem Kinds.resyncSilence : Kinds.Statement .resyncSilence := by
  intro k h; cases h

theorem Kinds.frameIgnored : Kinds.Statement .frameIgnored := by
  intro k h; cases h

theorem Kinds.unknownKind (kind : Byte) : Kinds.Statement (.unknownKind kind) := by
  intro k h; cases h

theorem Kinds.broadcastIgnored : Kinds.Statement .broadcastIgnored := by
  intro k h; cases h

theorem Kinds.replySend : Kinds.Statement .replySend := by
  intro k h; cases h

theorem Kinds.replyWithheld : Kinds.Statement .replyWithheld := by
  intro k h; cases h

theorem Kinds.identify (body : List Byte) : Kinds.Statement (.identify body) := by
  intro kind h; cases h; exact ⟨by decide, by decide, rfl⟩

theorem Kinds.readStatus (body : List Byte) : Kinds.Statement (.readStatus body) := by
  intro kind h; cases h; exact ⟨by decide, by decide, rfl⟩

theorem Kinds.fetchNotices (body : List Byte) : Kinds.Statement (.fetchNotices body) := by
  intro kind h; cases h; exact ⟨by decide, by decide, rfl⟩

theorem Kinds.readSpindles (body : List Byte) : Kinds.Statement (.readSpindles body) := by
  intro kind h; cases h; exact ⟨by decide, by decide, rfl⟩

theorem Kinds.readPiecingList (body : List Byte) : Kinds.Statement (.readPiecingList body) := by
  intro kind h; cases h; exact ⟨by decide, by decide, rfl⟩

theorem Kinds.readGroups (body : List Byte) : Kinds.Statement (.readGroups body) := by
  intro kind h; cases h; exact ⟨by decide, by decide, rfl⟩

theorem Kinds.readRovingCalls (body : List Byte) : Kinds.Statement (.readRovingCalls body) := by
  intro kind h; cases h; exact ⟨by decide, by decide, rfl⟩

theorem Kinds.readCarriages (body : List Byte) : Kinds.Statement (.readCarriages body) := by
  intro kind h; cases h; exact ⟨by decide, by decide, rfl⟩

theorem Kinds.readDoffState (body : List Byte) : Kinds.Statement (.readDoffState body) := by
  intro kind h; cases h; exact ⟨by decide, by decide, rfl⟩

theorem Kinds.readDoffLog (body : List Byte) : Kinds.Statement (.readDoffLog body) := by
  intro kind h; cases h; exact ⟨by decide, by decide, rfl⟩

theorem Kinds.readShift (body : List Byte) : Kinds.Statement (.readShift body) := by
  intro kind h; cases h; exact ⟨by decide, by decide, rfl⟩

theorem Kinds.readFaults (body : List Byte) : Kinds.Statement (.readFaults body) := by
  intro kind h; cases h; exact ⟨by decide, by decide, rfl⟩

theorem Kinds.clearFaults (body : List Byte) : Kinds.Statement (.clearFaults body) := by
  intro kind h; cases h; exact ⟨by decide, by decide, rfl⟩

theorem Kinds.readSettings (body : List Byte) : Kinds.Statement (.readSettings body) := by
  intro kind h; cases h; exact ⟨by decide, by decide, rfl⟩

theorem Kinds.writeSettings (body : List Byte) : Kinds.Statement (.writeSettings body) := by
  intro kind h; cases h; exact ⟨by decide, by decide, rfl⟩

theorem Kinds.writeLot (body : List Byte) : Kinds.Statement (.writeLot body) := by
  intro kind h; cases h; exact ⟨by decide, by decide, rfl⟩

theorem Kinds.readZones (body : List Byte) : Kinds.Statement (.readZones body) := by
  intro kind h; cases h; exact ⟨by decide, by decide, rfl⟩

theorem Kinds.writeZone (body : List Byte) : Kinds.Statement (.writeZone body) := by
  intro kind h; cases h; exact ⟨by decide, by decide, rfl⟩

theorem Kinds.pieceSpindle (body : List Byte) : Kinds.Statement (.pieceSpindle body) := by
  intro kind h; cases h; exact ⟨by decide, by decide, rfl⟩

theorem Kinds.lockSpindle (body : List Byte) : Kinds.Statement (.lockSpindle body) := by
  intro kind h; cases h; exact ⟨by decide, by decide, rfl⟩

theorem Kinds.releaseSpindle (body : List Byte) : Kinds.Statement (.releaseSpindle body) := by
  intro kind h; cases h; exact ⟨by decide, by decide, rfl⟩

theorem Kinds.callRoving (body : List Byte) : Kinds.Statement (.callRoving body) := by
  intro kind h; cases h; exact ⟨by decide, by decide, rfl⟩

theorem Kinds.declareRoving (body : List Byte) : Kinds.Statement (.declareRoving body) := by
  intro kind h; cases h; exact ⟨by decide, by decide, rfl⟩

theorem Kinds.holdDoff (body : List Byte) : Kinds.Statement (.holdDoff body) := by
  intro kind h; cases h; exact ⟨by decide, by decide, rfl⟩

theorem Kinds.resumeDoff (body : List Byte) : Kinds.Statement (.resumeDoff body) := by
  intro kind h; cases h; exact ⟨by decide, by decide, rfl⟩

theorem Kinds.doffNow (body : List Byte) : Kinds.Statement (.doffNow body) := by
  intro kind h; cases h; exact ⟨by decide, by decide, rfl⟩

theorem Kinds.setDoffProgress (body : List Byte) : Kinds.Statement (.setDoffProgress body) := by
  intro kind h; cases h; exact ⟨by decide, by decide, rfl⟩

theorem Kinds.releaseCarriage (body : List Byte) : Kinds.Statement (.releaseCarriage body) := by
  intro kind h; cases h; exact ⟨by decide, by decide, rfl⟩

theorem Kinds.closeShift (broadcast : Bool) (body : List Byte) : Kinds.Statement (.closeShift broadcast body) := by
  cases broadcast <;> intro kind h <;> cases h
  exact ⟨by decide, by decide, rfl⟩

theorem Kinds.setClock (broadcast : Bool) (body : List Byte) : Kinds.Statement (.setClock broadcast body) := by
  cases broadcast <;> intro kind h <;> cases h
  exact ⟨by decide, by decide, rfl⟩

theorem Kinds.restart (body : List Byte) : Kinds.Statement (.restart body) := by
  intro kind h; cases h; exact ⟨by decide, by decide, rfl⟩

theorem Kinds.replyEnd : Kinds.Statement .replyEnd := by
  intro k h; cases h

theorem Kinds.carriageLinkDiscard (cause : LinkDiscard) : Kinds.Statement (.carriageLinkDiscard cause) := by
  intro k h; cases h

theorem Kinds.transportLinkDiscard : Kinds.Statement .transportLinkDiscard := by
  intro k h; cases h

theorem Kinds.powerLoss : Kinds.Statement .powerLoss := by
  intro k h; cases h

end Sys2Proof.Laws
end

