-- ==== Sys2Proof/Laws/Values.lean ====
section
/-! SUPPORT. What the shared operations leave in the tables they touch: the numbered tables read back, settling, a change of state, and
how a command and a request are taken. -/

namespace Sys2Proof.Machine

open Sys2Proof

/-! ## Numbered tables -/

@[simp] theorem nth_zero {α : Type} (l : List α) (d : α) : nth l 0 d = d := rfl

theorem nth_succ {α : Type} (l : List α) (k : Nat) (d : α) : nth l (k + 1) d = l.getD k d := rfl

theorem nth_of_length_lt {α : Type} (l : List α) (n : Nat) (d : α) (h : l.length < n) : nth l n d = d := by
  cases n with
  | zero => rfl
  | succ k => simp [nth_succ, List.getD_eq_getElem?_getD, List.getElem?_eq_none (by omega : l.length ≤ k)]

@[simp] theorem length_modifyNth {α : Type} (l : List α) (n : Nat) (f : α → α) : (modifyNth l n f).length = l.length := by
  cases n <;> simp [modifyNth]

theorem nth_modifyNth_same {α : Type} (l : List α) (n : Nat) (f : α → α) (d : α) (h : 1 ≤ n) (k : n ≤ l.length) :
    nth (modifyNth l n f) n d = f (nth l n d) := by
  cases n with
  | zero => omega
  | succ j =>
    have hj : j < l.length := by omega
    simp [nth_succ, modifyNth, List.getD_eq_getElem?_getD, List.getElem?_eq_getElem hj]

theorem nth_modifyNth_other {α : Type} (l : List α) (n m : Nat) (f : α → α) (d : α) (h : m ≠ n) :
    nth (modifyNth l n f) m d = nth l m d := by
  cases n with
  | zero => rfl
  | succ j =>
    cases m with
    | zero => rfl
    | succ i =>
      have hij : ¬ j = i := by omega
      simp [nth_succ, modifyNth, List.getD_eq_getElem?_getD, hij]

/-- Past the table's end an update does nothing. -/
theorem modifyNth_out {α : Type} (l : List α) (n : Nat) (f : α → α) (h : l.length < n) : modifyNth l n f = l := by
  cases n with
  | zero => rfl
  | succ j => simp only [modifyNth]; exact List.modify_eq_self (by omega)

theorem spindle_updSpindle_same (n : Nat) (f : Spindle → Spindle) (s : State) (h : 1 ≤ n) (k : n ≤ s.spindles.length) :
    spindle (updSpindle n f s) n = f (spindle s n) := nth_modifyNth_same _ _ _ _ h k

theorem spindle_updSpindle_other (n m : Nat) (f : Spindle → Spindle) (s : State) (h : m ≠ n) :
    spindle (updSpindle n f s) m = spindle s m := nth_modifyNth_other _ _ _ _ _ h

theorem lockOf_updLock_same (k : Nat) (f : Lock → Lock) (s : State) (h : 1 ≤ k) (hk : k ≤ s.locks.length) :
    lockOf (updLock k f s) k = f (lockOf s k) := nth_modifyNth_same _ _ _ _ h hk

theorem lockOf_updLock_other (k j : Nat) (f : Lock → Lock) (s : State) (h : j ≠ k) :
    lockOf (updLock k f s) j = lockOf s j := nth_modifyNth_other _ _ _ _ _ h

theorem lampOf_updLamp_same (k : Nat) (f : Lamp → Lamp) (s : State) (h : 1 ≤ k) (hk : k ≤ s.lamps.length) :
    lampOf (updLamp k f s) k = f (lampOf s k) := nth_modifyNth_same _ _ _ _ h hk

/-! ## Counters (R17) -/

theorem satAdd_le (top a b : Nat) : satAdd top a b ≤ top := Nat.min_le_left _ _

theorem satAdd_eq (top a b : Nat) (h : a + b ≤ top) : satAdd top a b = a + b := Nat.min_eq_right h

theorem satAdd_assoc (top a b c : Nat) : satAdd top (satAdd top a b) c = satAdd top a (b + c) := by
  simp only [satAdd]; omega

/-! ## Settling (R20) -/

theorem spindle_settleSpindle_same (n : Nat) (s : State) (h : hasSpindle s n = true) :
    spindle (settleSpindle n s) n = (spindle s n).settled s.delivery.driving s.delivery.now s.delivery.phi := by
  have hb : 1 ≤ n ∧ n ≤ s.spindles.length := by simpa [hasSpindle] using h
  simp only [settleSpindle, h, ite_true]
  exact spindle_updSpindle_same n _ { s with shift := _ } hb.1 hb.2

theorem spindle_settleSpindle_other (n m : Nat) (s : State) (h : m ≠ n) :
    spindle (settleSpindle n s) m = spindle s m := by
  simp only [settleSpindle]; split
  · exact spindle_updSpindle_other n m _ { s with shift := _ } h
  · rfl

@[simp] theorem length_settleSpindle (n : Nat) (s : State) : (settleSpindle n s).spindles.length = s.spindles.length := by
  simp only [settleSpindle]; split <;> simp

@[simp] theorem length_settleEach (ns : List Nat) : ∀ s : State, (settleEach ns s).spindles.length = s.spindles.length := by
  induction ns with
  | nil => intro s; rfl
  | cons n ns ih => intro s; exact (ih _).trans (length_settleSpindle n s)

/-- A settled spindle owes nothing at the same clock and odometer. -/
theorem owedPulses_settled (sp : Spindle) (driving : Bool) (now phi : Nat) : owedPulses phi (sp.settled driving now phi) = 0 := by
  cases h : sp.state <;> simp [owedPulses, Spindle.settled, Spindle.addPulses, Spindle.addSeconds, SpindleState.isRunning, h]

/-- R20: settling moves the pulse mark of a RUNNING spindle alone. -/
@[simp] theorem settled_pulseMark (sp : Spindle) (driving : Bool) (now phi : Nat) :
    (sp.settled driving now phi).pulseMark = if sp.state.isRunning then some phi else sp.pulseMark := rfl

theorem owedSeconds_settled (sp : Spindle) (driving : Bool) (now phi : Nat) : owedSeconds now (sp.settled driving now phi) = 0 := by
  simp [owedSeconds, Spindle.settled]

/-! ## A change of state (R36) -/

theorem spindle_changeState_same (n : Nat) (st : SpindleState) (s : State) (h : hasSpindle s n = true) :
    spindle (changeState n st s) n = (spindle s n).changed s.delivery.driving s.delivery.now s.delivery.phi st := by
  have hb : 1 ≤ n ∧ n ≤ s.spindles.length := by simpa [hasSpindle] using h
  simp only [changeState, h, ite_true]
  exact spindle_updSpindle_same n _ { s with shift := _ } hb.1 hb.2

theorem spindle_changeState_other (n m : Nat) (st : SpindleState) (s : State) (h : m ≠ n) :
    spindle (changeState n st s) m = spindle s m := by
  simp only [changeState]; split
  · exact spindle_updSpindle_other n m _ { s with shift := _ } h
  · rfl

@[simp] theorem length_changeState (n : Nat) (st : SpindleState) (s : State) :
    (changeState n st s).spindles.length = s.spindles.length := by
  simp only [changeState]; split
  · exact length_modifyNth _ _ _
  · rfl

@[simp] theorem changed_state (sp : Spindle) (driving : Bool) (now phi : Nat) (st : SpindleState) :
    (sp.changed driving now phi st).state = st := by
  cases st <;> rfl

@[simp] theorem changed_pulseMark (sp : Spindle) (driving : Bool) (now phi : Nat) (st : SpindleState) :
    (sp.changed driving now phi st).pulseMark = markOnChange phi sp st := by
  cases st <;> rfl

/-- R18, R31: a spindle that was not RUNNING has its mark at Φ in RUNNING and none in every other state. -/
theorem markOnChange_entered (phi : Nat) (sp : Spindle) (st : SpindleState) (h : sp.state.isRunning = false) :
    markOnChange phi sp st = if st.isRunning then some phi else none := by
  simp [markOnChange, h]

@[simp] theorem changed_streak (sp : Spindle) (driving : Bool) (now phi : Nat) (st : SpindleState) :
    (sp.changed driving now phi st).streak = 0 := by
  cases st <;> rfl

@[simp] theorem changed_stopEngaged (sp : Spindle) (driving : Bool) (now phi : Nat) (st : SpindleState) :
    (sp.changed driving now phi st).stopEngaged = engagedOnEntry st := by
  cases st <;> rfl

/-- A number with no record changes nothing. -/
theorem changeState_none (n : Nat) (st : SpindleState) (s : State) (h : hasSpindle s n = false) : changeState n st s = s := by
  simp [changeState, h]

theorem spindle_enterState (n m : Nat) (st : SpindleState) (s : State) :
    spindle (enterState n st s) m = spindle (changeState n st s) m := by
  obtain ⟨u, hu⟩ := tellPlanner_onlyPlanner (groupOf n) (changeState n st s)
  simp only [enterState, hu, spindle]

/-! ## How a command is taken -/

theorem live_powered (act : State → State) (s : State) (h : s.powered = true) : live act s = .next (act { s with emitted := [] }) := by
  simp [live, h]

theorem live_unpowered (act : State → State) (s : State) (h : s.powered = false) : live act s = .next s := by
  simp [live, h]

/-- R201: with no reply waiting, bytes that arrive withhold none. -/
theorem withholdReply_none (s : State) (h : s.line.reply = none) : withholdReply s = s := by
  simp [withholdReply, h]

/-- R201: a request at a unit that listens, with no reply waiting. -/
theorem takeRequest_ready (kind : Nat) (lengthOk : Bool) (answer : State → Answer) (s : State) (h : lineReady s) :
    live (takeRequest kind lengthOk answer) s =
      .next
        (hold kind
          (if lengthOk then answer { s with emitted := [] }
           else refuse .badLength (countBadRequest { s with emitted := [] }))) := by
  obtain ⟨hp, ha, hr, hn⟩ := h
  have hw : withholdReply { s with emitted := [] } = { s with emitted := [] } := withholdReply_none _ hn
  rw [live_powered _ _ hp]
  cases lengthOk <;> simp [takeRequest, receive, hw, hr, ha, Receiver.takes]

/-- R201, R202: what a request that is refused leaves. -/
theorem hold_refuse (kind : Nat) (o : RequestOutcome) (s : State) :
    hold kind (refuse o { s with emitted := [] }) = withReply kind (outcomeByte o) .none s := rfl

theorem hold_reading (kind : Nat) (body : List Byte) (s : State) :
    hold kind (reading body { s with emitted := [] }) = withReply kind body .none s := rfl

end Sys2Proof.Machine
end

