-- ==== Sys2Proof/Tests/Slice0.lean ====
section
/-! SUPPORT. Tests: what well-formedness refuses, the manual's worked figures, one small step each, and for every obligation with
conditions a state that meets them. Expected values are the manual's, or worked by hand from its rules. -/

namespace Sys2Proof.Tests

-- Each test is evaluated in turn: in parallel they ask for more threads than the memory bound of check.sh allows.
set_option Elab.async false

open Sys2Proof Sys2Proof.Machine

/-! ## Well-formedness refuses -/

theorem test_wf_address : (Instr.powerOnReset 32 0 false false).wf = false := by decide
theorem test_wf_speed : (Instr.powerOnReset 31 4 false false).wf = false := by decide
theorem test_wf_strap_top : (Instr.powerOnReset 31 3 true true).wf = true := by decide
theorem test_wf_spindle_zero : (Instr.settleLimitReached 0).wf = false := by decide
theorem test_wf_spindle_above : (Instr.position 1 2017 .up).wf = false := by decide
theorem test_wf_sector : (Instr.lampHoldExpiry 85).wf = false ∧ (Instr.waitLimitExpiry 0).wf = false := by decide
theorem test_wf_station : (Instr.parked 0).wf = false ∧ (Instr.carriageStatus 16).wf = false := by decide
theorem test_wf_revision : (Instr.ability 1 .a { pieces := true, parks := true, cleans := false } 256).wf = false := by decide
theorem test_wf_order_tag : (Instr.arrived 1 16).wf = false ∧ (Instr.result 1 16 .pieced).wf = false := by decide
theorem test_wf_change_tag : (Instr.transportAccept 256).wf = false ∧ (Instr.aborted 256).wf = false := by decide
theorem test_wf_kind_is_request : (Instr.unknownKind 0x1F).wf = false := by decide
theorem test_wf_kind_is_reply : (Instr.unknownKind 0x80).wf = false := by decide
theorem test_wf_body : (Instr.identify (List.replicate 251 0)).wf = false := by decide +kernel
theorem test_wf_discard : (Instr.carriageLinkDiscard (.badField 0)).wf = false := by decide
theorem test_wf_broadcast_body : (Instr.closeShift true (List.replicate 251 0)).wf = false := by decide +kernel

/-! ## Worked figures (section 1.8) -/

/-- The default front roller: d = 2700, P = 4. -/
def roller : Delivery := State.reset.delivery

theorem test_factors : factorM roller = 958500 ∧ factorK roller = 45200 := by decide
theorem test_length : millimetres roller 100000 = 2120575 ∧ metres roller 100000 = 2120 := by decide
theorem test_doff_distances :
    doffPulses roller defaultLot = 188629 ∧ warningPulses roller defaultLot = 7073 ∧ restartPulses roller 30 = 1414 ∧
      overrunDistance 188629 5 = 198060 := by decide
theorem test_full_cop : millimetres roller 188629 = 4000019 ∧ grams roller 1476 188629 = 59 := by decide
theorem test_roving :
    capacity roller defaultLot = 4951486 ∧ callMarginPulses roller defaultLot 300 = 495148 ∧
      outMarginPulses roller defaultLot 2 = 99029 ∧ residueMetres roller defaultLot 4951486 = 2999 := by decide
/-- Chapter 7: lot 118, Ls = 4200 m. -/
theorem test_lot_118 : doffPulses roller { defaultLot with ls := 4200 } = 198060 ∧ overrunDistance 198060 5 = 207963 := by decide
theorem test_shift_figures :
    let c : Categories :=
      { running := 54000000, settling := 600000, broken := 1200000, piecing := 900000, waitRoving := 300000, locked := 100000
        stopped := 960800, withheld := 0 }
    c.total = 58060800 ∧ spindleEfficiency c = some 9457 ∧ frameEfficiency c = some 9300 ∧
      breakRate 600 54000000 = some 400 := by decide
/-- Section 1.8, a frame idle for the whole shift. -/
theorem test_idle_shift :
    let c : Categories := { zeroCategories with stopped := 58060800 }
    spindleEfficiency c = none ∧ frameEfficiency c = some 0 ∧ breakRate 0 0 = none := by decide

/-! ## Geometry (section 1.2) and frames (R208) -/

/-- Chapter 6: change group 63 is tier 3 of sector 21, spindles 497 to 504. -/
theorem test_group_63 :
    spindlesOfGroup 63 = [497, 498, 499, 500, 501, 502, 503, 504] ∧ groupOf 500 = 63 ∧ tierOf 504 = 3 ∧ sectorOfGroup 63 = 21 := by
  decide
theorem test_last_spindle : sectorOf 2016 = 84 ∧ positionOf 2016 = 24 ∧ groupOf 2016 = 252 := by decide
/-- The check value of the CRC-16 with these parameters, over the digits 1 to 9. -/
theorem test_crc : crc16 [0x31, 0x32, 0x33, 0x34, 0x35, 0x36, 0x37, 0x38, 0x39] = 0x29B1#16 := by decide +kernel
/-- The bytes of R208 in order: mark, address, length, kind, check. -/
theorem test_frame_of_identify : (frameOf 5 0x01 []).take 4 = [0xC3, 5, 0, 0x01] ∧ (frameOf 5 0x01 []).length = 6 := by decide +kernel
theorem test_frame_judged : judgeFrame 5 ((frameOf 5 0x1B [50]).drop 1) = .setDoffProgress [50] := by decide +kernel
theorem test_frame_bad_check : judgeFrame 5 [5, 0, 1, 0, 0] = .frameDiscarded := by decide +kernel
theorem test_frame_other_unit : judgeFrame 6 ((frameOf 5 0x01 []).drop 1) = .frameIgnored := by decide +kernel
theorem test_frame_broadcast : judgeFrame 6 ((frameOf 0 0x1D []).drop 1) = .closeShift true [] := by decide +kernel

/-! ## A small frame: one side of one sector, 24 spindles -/

/-- Its store. -/
def smallImage : Image :=
  { settings := { defaultRetained with sides := 1, sectors := 1 }, zones := defaultZones, ring := [], sequence := 5 }

/-- The small frame right after power-on reset. -/
def small (driving : Bool) : State :=
  powerOn { copy1 := some smallImage, copy2 := none, writer := .idle, rewrite := false } 3 1 driving false []

/-- What a step answers, where it answers a next state. -/
def after (c : Instr) (s : State) : State :=
  match exec c s with
  | .next t => t
  | _ => s

/-- Spindle `n` put in a state, with its stop. -/
def put (n : Nat) (st : SpindleState) (s : State) : State :=
  updSpindle n (fun sp => { sp with state := st, stopEngaged := engagedOnEntry st }) s

/-- Spindle `n` RUNNING since pulse 0. -/
def spinning (n : Nat) (s : State) : State := updSpindle n (fun sp => { sp with pulseMark := some 0 }) (put n .running s)

/-- Spindle `n` BROKEN since `time`, with its entry. -/
def broken (n time : Nat) (s : State) : State := makeEntry n false (put n (.broken .yarn time) s)

/-- Station 3, which pieces and parks. -/
def station3 : Station := { number := 3, abilities := { pieces := true, parks := true, cleans := false }, revision := 7 }

/-- Record 1 holds side A for station 3, in a state of work. -/
def enrolled (w : CarriageWork) (s : State) : State :=
  updCarriage .one (fun c => { c with link := .enrolled station3 .a 5 .up w, linkTimer := some (s.delivery.now + 5) }) s

/-- The order that record 1 has on spindle 5. -/
def order5 (s : State) : Order :=
  { spindle := 5, tag := 2, issued := s.delivery.now, deadline := s.delivery.now + 60, arrived := false, parkPending := false }

/-- Record 1 BUSY with spindle 5, PIECING since 0, its sector held. -/
def busy (s : State) : State :=
  updLock 1 (fun l => { l with holder := .carriage .one none })
    (put 5 (.piecing .yarn 0) (enrolled (.busy (order5 s)) s))

/-- Seconds gone by. -/
def later (n : Nat) (s : State) : State := updDelivery (fun d => { d with now := d.now + n, mill := d.mill + n }) s

/-- The odometer at a count, the last doff at 0. -/
def atPulse (n : Nat) (s : State) : State := updDelivery (fun d => { d with phi := n }) s

/-- The doff in a state. -/
def phased (ph : DoffPhase) (s : State) : State := updDoff (fun d => d.toPhase ph) s

/-- A doff called at 0. -/
def call0 : CallInfo := { early := false, forced := false, held := false, stamp := 0 }

/-- A doff record of five cops. -/
def record5 : DoffRecord :=
  { number := 1, callStamp := 0, clearStamp := 0, completion := none, delivered := 190000, cops := 5, shortCops := 1, empty := 19
    lot := 0, appliedLot := none, early := false, forced := false, held := false }

/-- A planned call of group 2. -/
def call2 : Call := { group := 2, urgency := .planned, queued := 0, origin := .plan }

/-- The change of group 2 in flight with tag 4. -/
def change2 (s : State) : ActiveChange :=
  { call := call2, tag := 4, callTime := s.delivery.now, accepted := false, timeout := 1200, deadline := s.delivery.now + 1200 }

/-- The transport in a state of the change of group 2. -/
def transporting (f : ActiveChange → Transport) (s : State) : State :=
  updPlanner (fun p => { p with transport := f (change2 s), tag := 4 }) s

/-- A claim of the change of group 2. -/
def claim2 : Claim := { tag := 4, group := 2, urgency := 1, waitStart := 0, waitLimit := some 120 }

/-- A unit ready to take a request, as one test. -/
theorem lineReady_of (s : State)
    (h : s.powered = true ∧ s.line.address ≠ 0 ∧ s.line.receiver = .hunting ∧ s.line.reply = none) : lineReady s := h

theorem test_small :
    (small false).spindles.length = 24 ∧ (small false).doff.dPulses = 188629 ∧ (small true).delivery.driving = true ∧
      (spindle (small true) 24).pulseMark = some 0 := by decide +kernel

/-! ## One step each -/

/-- R4, R138: D − W = 181 556 is the warning point. -/
theorem test_warning_point :
    (after .frontRollerPulse (atPulse 181554 (small true))).doff.phase = .spinning ∧
      (after .frontRollerPulse (atPulse 181555 (small true))).doff.phase = .warned := by decide +kernel

/-- R138, R140: the call at D = 188 629. -/
theorem test_call_point :
    (after .frontRollerPulse (phased .warned (atPulse 188628 (small true)))).doff.phase = .called call0 ∧
      (after .frontRollerPulse (phased .warned (atPulse 188628 (small true)))).doff.request = true := by decide +kernel

/-- Section 7.6: a held doff is forced at 198 060, FORCED and HELD. -/
theorem test_overrun :
    let s := updDoff (fun d => { d with hold := true, overdue := true }) (phased .warned (atPulse 198059 (small true)))
    (after .frontRollerPulse s).doff.phase = .called { early := false, forced := true, held := true, stamp := 0 } := by
  decide +kernel

theorem test_second_wraps :
    let s := updDelivery (fun d => { d with now := 4294967295, mill := 4294967295 }) (small false)
    (after .runSecond s).delivery.now = 4294967295 ∧ (after .runSecond s).delivery.mill = 0 := by decide +kernel

/-- R8, R37: the drive rises at 7, IDLE spindles settle. -/
theorem test_drive_rise : (spindle (after .driveRunningRise (later 7 (small false))) 24).state = .settling .driveStart 7 := by
  decide +kernel

/-- Section 1.8, a drive stop in the middle: 300 seconds and 64 000 pulses. -/
theorem test_drive_stop :
    let s := spinning 24 (atPulse 64000 (later 300 (small true)))
    let sp := spindle (after .driveRunningFall s) 24
    sp.state = .idle ∧ sp.pulseMark = none ∧ sp.shiftSeconds = 300 ∧ sp.copPulses = 64000 ∧ sp.rovingUsed = 64000 := by decide +kernel

/-- R9: pulse loss after 10 seconds. -/
theorem test_pulse_loss :
    (after .pulseLoss (later 9 (small true))).delivery.pulseLost = false ∧
      (after .pulseLoss (later 10 (small true))).delivery.pulseLost = true := by decide +kernel

/-- R22: the poll carries the stops of the sector: spindle 2 alone is engaged. -/
theorem test_head_poll :
    (after (.headPoll .a) (broken 2 0 (small false))).emitted =
      [.poll .a 1 ([false, true] ++ List.replicate 22 false) .off false] := by decide +kernel

/-- A head ACTIVE with its poll in flight. -/
def polled (s : State) : State :=
  updRail .a (fun r => { r with inFlight := some 1, heads := [{ state := .active, misses := 2, returnMark := false }] }) s

/-- R41, R42: the second absent report breaks a RUNNING spindle (break confirm 2). -/
theorem test_break_confirmed :
    let s := updSpindle 1 (fun sp => { sp with streak := 1 }) (spinning 1 (polled (later 9 (small true))))
    (spindle (after (.pollAnswer .a true true 0) s) 1).state = .broken .yarn 9 ∧
      (after (.pollAnswer .a true true 0) s).shift.breaks.yarn = 1 ∧
      (after (.pollAnswer .a true true 0) s).listA.length = 1 := by decide +kernel

/-- R39: the fourth present report ends settling (settle count 4). R43: at a BROKEN spindle it is a hand piecing. -/
theorem test_settled :
    let third := updSpindle 1 fun sp => { sp with streak := 3 }
    let t := after (.pollAnswer .a true true 1) (third (broken 1 0 (polled (later 9 (small true)))))
    (spindle (after (.pollAnswer .a true true 1) (third (polled (atPulse 700 (small true))))) 1).pulseMark = some 700 ∧
      (spindle t 1).state = .settling .hand 9 ∧ t.listA = [] ∧ t.shift.handPieced = 1 := by decide +kernel

/-- R25: the third miss silences the head. -/
theorem test_head_silent :
    (headAt (after (.answerWaitExpiry .a) (polled (small true))) .a 1).state = .silent ∧
      (after (.answerWaitExpiry .a) (polled (small true))).faults.status.getLsbD 6 = true := by decide +kernel

/-- R40, R42: 60 seconds of settling without yarn. -/
theorem test_settle_limit :
    (spindle (after (.settleLimitReached 4) (polled (later 59 (small true)))) 4).state = .settling .driveStart 0 ∧
      (spindle (after (.settleLimitReached 4) (polled (later 60 (small true)))) 4).state = .broken .noStart 60 := by decide +kernel

/-- R28: one head told to sleep ends the round and puts the rail to sleep. -/
theorem test_sleep_poll :
    let s := updRail .a (fun r => { r with sleepRound := true }) (small false)
    (after (.sleepPoll .a) s).railA.awake = false ∧ (headAt (after (.sleepPoll .a) s) .a 1).state = .asleep := by decide +kernel

/-- R78, R79: the first enrolment of a side. -/
theorem test_ability :
    let t := after (.ability 3 .a station3.abilities 7) (small false)
    t.car1.link = .enrolled station3 .a 1 .up .ready ∧ t.emitted = [.carriage 3 (.accept .a 1 24)] := by decide +kernel

/-- R79: side B does not exist on a one-side frame. -/
theorem test_ability_no_side :
    (after (.ability 3 .b station3.abilities 7) (small false)).emitted = [.carriage 3 (.refuse .noSide)] := by decide +kernel

/-- R35, R84: ARRIVED releases the stop. R72: a tag above 15 is out of its range. -/
theorem test_arrived :
    (spindle (after (.arrived 3 2) (busy (small true))) 5).stopEngaged = false ∧
      (after (.arrived 3 15) (busy (small true))).car1.counters.late = 1 ∧
      (after (.arrived 3 16) (busy (small true))).car1.counters.late = 0 ∧
      (after (.arrived 3 16) (busy (small true))).carDiscards = 1 := by decide +kernel

/-- R44, R85: PIECED with the drive running. -/
theorem test_result_pieced :
    (spindle (after (.result 3 2 .pieced) (busy (later 8 (small true)))) 5).state = .settling .pieced 8 ∧
      (lockOf (after (.result 3 2 .pieced) (busy (small true))) 1).holder = .free := by decide +kernel

/-- R64: the third failure locks (failure limit 3). -/
theorem test_result_fails :
    let s := updSpindle 5 (fun sp => { sp with failures := 2 }) (busy (small true))
    (spindle (after (.result 3 2 .failed) s) 5).state = .locked .fails := by decide +kernel

/-- R88: the order timeout. -/
theorem test_order_timeout :
    (after (.orderTimerExpiry .one) (later 60 (busy (small false)))).car1.link = .enrolled station3 .a 5 .up .suspect ∧
      (spindle (after (.orderTimerExpiry .one) (later 60 (busy (small false)))) 5).state = .broken .yarn 0 := by decide +kernel

/-- R91: link loss after 5 seconds. -/
theorem test_link_loss :
    (after (.linkLossTimerExpiry .one) (later 4 (enrolled .ready (small false)))).car1.link.isEnrolled = true ∧
      (after (.linkLossTimerExpiry .one) (later 5 (enrolled .ready (small false)))).car1.link = .absent := by decide +kernel

/-- R102, R127: PROCEED in a FREE sector, WAITING where a carriage holds it. -/
theorem test_at_sector :
    (after (.atSector 4) (transporting .called (small true))).emitted = [.transport (.proceed 4)] ∧
      (lockOf (after (.atSector 4) (transporting .called (busy (small true)))) 1).claim.isSome = true := by decide +kernel

/-- R126: a change of eight untouched positions books 8 · 2999 m (section 1.8). -/
theorem test_changed :
    let s := transporting .changing (small false)
    (after (.changed 4) s).shift.residue = 23992 ∧ (after (.changed 4) s).shift.changes = 1 := by decide +kernel

/-- R125: DECLINE, and its back-off of 30 seconds. -/
theorem test_decline :
    (after (.decline 4) (transporting .called (later 3 (small true)))).planner.backOff = some 33 := by decide +kernel

/-- Chapter 6: e = 6 of 8 leaves roving used 1 237 871. -/
theorem test_declare :
    (spindle (after (.declareRoving [2, 6]) (small false)) 9).rovingUsed = 1237871 := by decide +kernel

/-- R145: the doff empties the cops and counts them. -/
theorem test_doff_complete :
    let s := updSpindle 1 (fun sp => { sp with copPulses := 9 }) (phased (.doffing call0 record5) (atPulse 190000 (small false)))
    let t := after .doffComplete s
    t.shift.cops = 5 ∧ t.doff.phiD = 190000 ∧ t.doff.phase = .restarting ∧ (spindle t 1).copPulses = 0 := by decide +kernel

/-- R144: a doff complete outside DOFFING. -/
theorem test_frame_signal : (after .doffComplete (small false)).faults.status.getLsbD 8 = true := by decide +kernel

/-- R152: 50 % of D. -/
theorem test_set_progress :
    (after (.setDoffProgress [50]) (atPulse 500000 (small false))).doff.phiD = 500000 - 94314 := by decide +kernel

/-- R165: the ring takes the closed shift; the next number opens. -/
theorem test_close_shift :
    (after (.closeShift true []) (small false)).ring.length = 1 ∧ (after (.closeShift true []) (small false)).shift.number = 2 := by
  decide +kernel

/-- R7: Set Clock, most significant byte first. -/
theorem test_set_clock : (after (.setClock false [0, 0, 1, 2]) (small false)).delivery.mill = 258 := by decide +kernel

/-- R153: a set length of 100 m is held to 500. -/
theorem test_write_lot :
    (after (.writeLot [0, 9, 5, 196, 13, 172, 0, 100, 0, 150, 11, 184, 80]) (small false)).doff.pendingLot =
      some { number := 9, t := 1476, r := 3500, ls := 500, lw := 150, lr := 3000, ps := 80 } := by decide +kernel

/-- R180: a retained-only field does not go into the working copy. -/
theorem test_write_settings :
    ((after (.writeSettings [0, 1, 0, 0, 0, 1]) (small false)).line.reply.map (·.body)) = some [5] ∧
      (after (.writeSettings [0, 20, 0, 0, 0, 90]) (small false)).settings.working.settleLimit = 90 := by decide +kernel

/-- R174 to R177: extent 0 from the low end takes sector 1. -/
theorem test_write_zone :
    (spindle (after (.writeZone [1, 1, 1, 0, 0, 0]) (small false)) 24).state = .withheld := by decide +kernel

/-- R66, R67. -/
theorem test_lock_and_release :
    (spindle (after (.lockSpindle [0, 9]) (small false)) 9).state = .locked .byRequest ∧
      (spindle (after (.releaseSpindle [0, 9]) (put 9 (.locked .rogue) (later 6 (small false)))) 9).state = .broken .yarn 6 := by
  decide +kernel

/-- R206: the identity of the small frame: vendor 0x2C61, part 2416, revision 1. -/
theorem test_identify :
    ((after (.identify []) (small false)).line.reply.map (·.body)) = some [0, 0x2C, 0x61, 0x09, 0x70, 1, 1, 1, 0, 24, 3, 1] := by
  decide +kernel

/-- R202: a request with a body too long. -/
theorem test_bad_length :
    ((after (.identify [0]) (small false)).line.reply.map (·.body)) = some [3] ∧
      (after (.identify [0]) (small false)).line.badRequests = 1 := by decide +kernel

/-- R192: Clear Faults of STORE_INVALID, after reset. -/
theorem test_clear_faults :
    (after (.clearFaults [4, 0]) State.reset).faults.status = 0#11 ∧ (after (.clearFaults [4, 0]) State.reset).faults.alarm = false := by
  decide +kernel

/-- R184, R185: a write that ends leaves its copy valid. -/
theorem test_store_write :
    (after .storeWriteDone State.reset).store.copy1 = some defaultImage ∧
      (after .storeWriteFailed State.reset).store.copy1 = none := by decide +kernel

/-- R198: the notice fetched goes when its reply is sent. -/
theorem test_fetch :
    (after .replySend (after (.fetchNotices [0]) State.reset)).notices.queue = [] ∧
      (after .replyWithheld (after (.fetchNotices [0]) State.reset)).notices.queue.length = 1 := by decide +kernel

/-- R195: sending the Status reply clears the latch it reported, and not one set after the request was taken. -/
theorem test_status_latches :
    (after .replySend (after (.readStatus []) State.reset)).notices.latches = 0#6 ∧
      (after .replySend (after .pulseLoss (after (.readStatus []) (later 10 (small true))))).notices.latches = 0b100000#6 := by
  decide +kernel

/-- R208: a figure in seconds takes four bytes, a count of at most 255 one. -/
theorem test_setting_widths : (∀ field ∈ [16, 17, 20, 21, 25, 27, 29], settingWidth field = 4) ∧ settingWidth 1 = 1 := by decide

/-- R207: Restart is made when its reply has gone out. -/
theorem test_restart :
    let s := after .replySend (after (.restart []) (busy (small true)))
    s.car1.link.isEnrolled = true ∧ (after .replyEnd s).car1.link = .absent := by decide +kernel

/-- R200: bytes that fail their check put the receiver in RESYNC. -/
theorem test_frame_discarded :
    (after .frameDiscarded (small false)).line.receiver = .resync ∧
      (after .resyncSilence (after .frameDiscarded (small false))).line.receiver = .hunting := by decide +kernel

/-! ## Witnesses: for each obligation with conditions, a state and operands that meet them

Named `witness_<obligation>`, with a clause's name where an obligation has several. -/

/-- The small frame powered, listening, with no reply waiting. -/
theorem ready_small (b : Bool) : lineReady (small b) := by cases b <;> exact lineReady_of _ (by decide +kernel)

theorem table_small (b : Bool) : tableOk (small b) := by
  cases b <;> exact ⟨.inl (by decide +kernel), by decide +kernel, by decide +kernel, by decide +kernel⟩

theorem geometry_small (b : Bool) : geometrySound (small b) := by
  refine ⟨⟨?_, ?_, ?_⟩, fun _ => ⟨table_small b, ?_⟩⟩
  · intro x h
    have hx : x = smallImage := by cases b <;> exact (Option.some.inj h).symm
    subst hx; exact ⟨.inl rfl, by decide, by decide⟩
  · intro x h; cases b <;> cases h
  · intro x h; cases b <;> cases h
  · cases b <;> exact ⟨.inl (by decide +kernel), by decide +kernel, by decide +kernel⟩

theorem witness_StepTakesTheFrontCommand : ∃ s : State, s.pending = [] := ⟨small false, by decide +kernel⟩

theorem witness_GeometryAndClocksStand :
    ∃ t, (∀ a v d f, Instr.runSecond ≠ .powerOnReset a v d f) ∧ Instr.runSecond ≠ .powerLoss ∧
      exec .runSecond (small true) = .next t :=
  ⟨_, by intro a v d f; simp, by simp, rfl⟩

theorem witness_StepKeepsOutputs : ∃ s t : State, (outputsSound s ∧ clearSound s) ∧ step s = .next t := by
  refine ⟨small false, _, ⟨⟨⟨?_, ?_⟩, ⟨?_, ?_⟩, ⟨?_, ?_⟩⟩, ?_⟩, rfl⟩
  · exact fun h => absurd h (by decide +kernel)
  · rintro ⟨c, h | h | ⟨r, h⟩⟩ <;> cases h
  · exact fun h => absurd h (by decide +kernel)
  · rintro ⟨c, r, h⟩; cases h
  · exact fun h => absurd h (by decide +kernel)
  · rintro ⟨cls, h, -⟩
    have hz : (small false).faults.status = 0#11 := by decide +kernel
    rw [hz] at h; simp at h
  · rintro ⟨c, r, h⟩; cases h

theorem witness_StepKeepsCapacities : ∃ s t : State, capacitiesSound s ∧ step s = .next t := by
  refine ⟨small false, _, ⟨?_, ?_, ?_, ?_, ?_, ?_, ?_, ?_, ?_, ?_, by decide +kernel⟩, rfl⟩
  iterate 6 decide +kernel
  · show ∀ sp ∈ (small false).spindles, sp.streak ≤ 16 ∧ sp.attempts ≤ 7 ∧ sp.failures ≤ 7 ∧ sp.breakRing.length ≤ 4
    decide +kernel
  · intro x h
    have hx : x = smallImage := (Option.some.inj h).symm
    subst hx; decide
  · intro x h; cases h
  · intro x h; cases h

theorem witness_StepKeepsTheBooks : ∃ s t : State, booksSound s ∧ step s = .next t :=
  ⟨small true, _, ⟨geometry_small true, fun _ => by decide +kernel⟩, rfl⟩

theorem witness_StepKeepsCopsWithinProgress : ∃ s t : State, copsSound s ∧ step s = .next t := by
  refine ⟨small true, _, ⟨geometry_small true, ?_, ?_, ?_, ?_⟩, rfl⟩
  · show ∀ sp ∈ (small true).spindles, (sp.state.code = 2 ∨ sp.state.code = 3) → (small true).delivery.driving = true
    decide +kernel
  · decide +kernel
  · decide +kernel
  · decide +kernel

theorem witness_StepKeepsTheLists : ∃ s t : State, listsSound s ∧ step s = .next t := by
  refine ⟨small false, _, ⟨geometry_small false, fun _ => ⟨?_, ?_, ?_, ?_, ?_, ?_, ?_, ?_, ?_⟩⟩, rfl⟩
  · exact List.Pairwise.nil
  · exact List.Pairwise.nil
  · decide +kernel
  · decide +kernel
  · intro e h; cases h
  · intro e h; cases h
  · show ∀ n ∈ allSpindles (small false),
      if (spindle (small false) n).state.isBroken = true then
        (listed (small false) n = true ↔ (spindle (small false) n).unlisted = false)
      else (spindle (small false) n).unlisted = false
    decide +kernel
  · show ∀ side ∈ configuredSides (small false), unlistedOf (small false) side = [] ∨ (pieceList (small false) side).length = 96
    decide +kernel
  · decide +kernel

theorem witness_FramesRoundTrip :
    (1 ≤ 1 ∧ 31 ≤ 31) ∧ kindOfRequest (.writeSettings (List.replicate 250 0)) = some 0x0F ∧
      (bodyOfRequest (.writeSettings (List.replicate 250 0))).length ≤ 250 ∧ kindOfRequest (.restart []) = some 0x1F ∧
      (bodyOfRequest (.restart [])).length ≤ 250 := by decide +kernel

/-- One valid copy, and two of which copy 2 is the newer. -/
theorem witness_PowerOnLoadsTheNewestCopy :
    newestCopy (small true).store.cutOff = some (.one, smallImage) ∧
      newestCopy ({ copy1 := some smallImage, copy2 := some { smallImage with sequence := 6 }, writer := .idle
                    rewrite := true : Store }).cutOff = some (.two, { smallImage with sequence := 6 }) := by decide +kernel

theorem witness_PowerOnOfAnInvalidStore :
    State.reset.store.cutOff.copy1 = none ∧ State.reset.store.cutOff.copy2 = none ∧ State.reset.pending = [] := by decide +kernel

theorem witness_SecondAdvancesBothClocks : (small false).powered = true ∧ (later 4294967295 (small false)).powered = true := by
  decide +kernel

/-- What PulseBetweenThePoints asks of a state, as one test. -/
def betweenPoints (s : State) : Bool :=
  s.powered && !s.delivery.pulseLost &&
    (let progress := min 281474976710655 (s.delivery.phi + 1) - s.doff.phiD
     match s.doff.phase with
     | .spinning => progress < s.doff.dPulses - s.doff.wPulses && progress < s.doff.overrun
     | .warned => s.doff.dPulses - s.doff.wPulses ≤ progress && progress < s.doff.dPulses && progress < s.doff.overrun
     | .restarting => progress < s.doff.rwPulses
     | _ => true)

theorem witness_PulseBetweenThePoints :
    (let s := updPlanner (fun p => { p with points := [(181556, 1)] }) (atPulse 181554 (small true))
     betweenPoints s = true ∧ ∀ q ∈ s.planner.points, min 281474976710655 (s.delivery.phi + 1) < q.1) ∧
      (let s := updPlanner (fun p => { p with points := [(181555, 2), (181556, 3)] }) (atPulse 181554 (small true))
       betweenPoints s = true ∧ s.planner.points = (181555, 2) :: [(181556, 3)] ∧
         181555 ≤ min 281474976710655 (s.delivery.phi + 1) ∧ min 281474976710655 (s.delivery.phi + 1) < 181556 ∧
         callState s 2 = .none ∧ whollyWithheld s 2 = false) ∧
      betweenPoints (phased .warned (atPulse 181555 (small true))) = true ∧
      betweenPoints (phased .warned (atPulse 188627 (small true))) = true ∧
      betweenPoints (phased .restarting (atPulse 1412 (small true))) = true ∧
      betweenPoints (phased (.called call0) (atPulse 300000 (small true))) = true := by decide +kernel

theorem witness_PulseFollowsTheDoffTable :
    (atPulse 188628 (small true)).doff.phase = .spinning ∧ (phased .warned (atPulse 198059 (small true))).doff.phase = .warned ∧
      (phased .warned (atPulse 198059 (small true))).powered = true := by decide +kernel

theorem witness_PulseLossIsRaisedAndEnds :
    (later 10 (small true)).delivery.pulseTimer = some 10 ∧ (later 10 (small true)).delivery.now = 10 ∧
      (small false).delivery.pulseTimer = none ∧ (later 9 (small true)).delivery.now < 10 ∧
      (after .pulseLoss (later 10 (small true))).delivery.pulseLost = true ∧
      (after .pulseLoss (later 10 (small true))).delivery.driving = true ∧
      (after .pulseLoss (later 10 (small true))).powered = true ∧
      (after .pulseLoss (later 10 (small true))).doff.hold = false := by decide +kernel

theorem witness_DriveEdgesStartAndStopTheFrame :
    (∀ b, (small b).powered = true ∧ (small b).delivery.driving = b ∧ (small b).spindles.length = spindleCount (small b)) ∧
      (∀ awake round, ∀ side ∈ [Side.a, .b],
        let s := updRail side (fun r => { r with awake := awake, sleepRound := round }) (small false)
        (railOf s side).awake = awake ∧ (railOf s side).sleepRound = round ∧ s.powered = true ∧ s.delivery.driving = false ∧
          s.spindles.length = spindleCount s) ∧
      (spindle (broken 24 0 (small false)) 24).state = .broken .yarn 0 ∧
      (spindle (spinning 1 (small true)) 1).state = .running ∧ (spindle (small true) 24).state = .settling .driveStart 0 ∧
      (∀ w ∈ [CarriageWork.ready, .suspect, .busy (order5 (small true)), .parked],
        let s := phased (.called call0) (enrolled w (small true))
        s.doff.phase = .called call0 ∧ s.delivery.driving = true ∧ s.powered = true ∧
          (carriage s .one).link = .enrolled station3 .a 5 .up w ∧ frameClear s = decide (w = .parked)) := by decide +kernel

theorem witness_PollsCarryTheSector :
    (small true).powered = true ∧ (railOf (small true) .a).inFlight = none ∧ (railOf (small true) .a).awake = true ∧
      (nth (railOf (small true) .a).heads 1 freshHead).state ≠ .asleep ∧
      (railOf (updRail .a (fun r => { r with sleepRound := true }) (small false)) .a).sleepRound = true := by decide +kernel

/-- A poll in flight to head 1, in a state of that head. -/
def polledHead (h : HeadState) (s : State) : State :=
  updRail .a (fun r => { r with inFlight := some 1, heads := [{ state := h, misses := 2, returnMark := true }] }) s

theorem witness_HeadsFallSilentAndReturn :
    (∀ h ∈ [HeadState.active, .silent, .settlingHead 2, .settlingHead 1],
      let s := polledHead h (small true)
      s.powered = true ∧ (railOf s .a).inFlight = some 1 ∧ 1 ≤ (railOf s .a).heads.length ∧
        sectorOfHead s .a 1 * 24 ≤ s.spindles.length ∧ (headAt s .a 1).state = h) ∧
      (railOf (small true) .a).inFlight = none ∧ (true && false) = false := by decide +kernel

theorem witness_AcceptedReportDecidesEachSpindle :
    (∀ st ∈ [SpindleState.settling .driveStart 0, .running, .idle, .withheld, .locked .fails, .waitRoving 0, .piecing .yarn 0],
      ∀ p ∈ [0, 23],
        let s := put (24 * (sectorOfHead (small true) .a 1 - 1) + p + 1) st (polledHead .active (small true))
        s.powered = true ∧ (railOf s .a).inFlight = some 1 ∧ (railOf s .a).heads.length = 1 ∧ (headAt s .a 1).state = .active ∧
          sectorOfHead s .a 1 * 24 ≤ s.spindles.length ∧ s.listA ++ s.listB = [] ∧
          (spindle s (24 * (sectorOfHead s .a 1 - 1) + p + 1)).state = st ∧
          (spindle s (24 * (sectorOfHead s .a 1 - 1) + p + 1)).unlisted = false) ∧
      (let s := updSpindle 24 (fun sp => { sp with streak := 3 }) (broken 24 0 (polledHead .active (small true)))
       (spindle s 24).state = .broken .yarn 0 ∧ listed s 24 = true ∧ (headAt s .a 1).state = .active ∧
         handPiecedIn s 1 0x800000#24 = [24] ∧ s.shift.handPieced ≤ 4294967295) := by decide +kernel

theorem witness_SettleLimitBreaksASpindle :
    (∀ n ∈ [1, 24],
      let s := polledHead .active (later 60 (small true))
      s.powered = true ∧ isSpindle s n = true ∧ n ≤ s.spindles.length ∧ (spindle s n).state = .settling .driveStart 0 ∧
        unsensed s n = false ∧ 0 + s.settings.working.settleLimit ≤ s.delivery.now) ∧
      (spindle (put 3 (.settling .pieced 0) (polledHead .active (later 60 (small true)))) 3).state = .settling .pieced 0 ∧
      rovingOut (updSpindle 3 (fun sp => { sp with rovingUsed := 4951486, estimateValid := true }) (small true)) 3 = true ∧
      unsensed (small true) 3 = true ∧ isSpindle (small true) 25 = false ∧
      (polledHead .active (later 59 (small true))).delivery.now < 0 + 60 ∧ sectorOf 24 ≤ (small true).lamps.length := by
  decide +kernel

theorem witness_SensingTimersExpire :
    expired (lampOf (updLamp 1 (fun _ => { state := .steady, hold := some 3 }) (later 3 (small true))) 1).hold 3 = true ∧
      expired (later 600 (small false)).drowse.timer (later 600 (small false)).delivery.now = true ∧
      expired (later 599 (small false)).drowse.timer (later 599 (small false)).delivery.now = false ∧
      (phased (.called call0) (later 600 (small false))).doff.phase.callInfo = some call0 ∧
      (later 600 (small false)).powered = true ∧ 24 ≤ (small true).spindles.length ∧ sectorOf 24 ≤ (small true).lamps.length ∧
      (changeState 24 (.locked .fails) (small true)).lamps = [{ state := .flashing, hold := none }] := by decide +kernel

/-- An unlisted BROKEN spindle beside a listed one. -/
def crowded : State := updSpindle 7 (fun sp => { sp with unlisted := true }) (put 7 (.broken .yarn 1) (broken 2 0 (small false)))

theorem witness_PieceSpindleHurriesOrDisplaces :
    (lineReady crowded ∧ (∀ e ∈ pieceList crowded (sideOf crowded (0 * 256 + 7)), sideOf crowded e.spindle = sideOf crowded 7) ∧
      (spindle crowded 7).state = .broken .yarn 1 ∧ listed crowded 7 = false ∧ listed crowded 2 = true ∧
      ∃ e ∈ pieceList crowded .a, e.urgent = false ∧
        ∀ f ∈ pieceList crowded .a, f.urgent = false →
          f = e ∨ f.time < e.time ∨ (f.time = e.time ∧ f.spindle < e.spindle)) ∧
      isSpindle crowded 25 = false ∧ (spindle (put 3 .withheld crowded) 3).state = .withheld := by
  refine ⟨⟨lineReady_of _ (by decide +kernel), by decide +kernel, by decide +kernel, by decide +kernel, by decide +kernel,
    { spindle := 2, cause := .yarn, time := 0, urgent := false }, by decide +kernel, rfl, by decide +kernel⟩, by decide +kernel,
    by decide +kernel⟩

theorem witness_LockAndReleaseSpindle :
    lineReady (small true) ∧ 0 * 256 + 24 ≤ (small true).spindles.length ∧ isSpindle (small true) 24 = true ∧
      isSpindle (small true) 0 = false ∧ sectorOf 24 ≤ (small true).lamps.length ∧
      ∀ st ∈ [SpindleState.withheld, .piecing .yarn 0, .locked .rogue, .idle], (spindle (put 24 st (small true)) 24).state = st :=
  ⟨ready_small true, by decide +kernel⟩

/-- Record 1 REJECTED for station 3. -/
def rejected (s : State) : State :=
  updCarriage .one (fun c => { c with link := .rejected station3 .a, linkTimer := some (s.delivery.now + 5) }) s

/-- Both records in use: no room for station 15. -/
def fullRecords : State :=
  updCarriage .two (fun c => { c with link := .rejected { station3 with number := 4 } .a }) (rejected (small true))

theorem witness_EnrolmentChecksInOrder :
    ((small true).powered = true ∧ recordOfStation (small true) 1 = none ∧ absentRecord (small true) = some .one) ∧
      (recordOfStation (rejected (small true)) 3 = some .one ∧ (carriage (rejected (small true)) .one).link.isEnrolled = false) ∧
      (recordOfStation fullRecords 15 = none ∧ absentRecord fullRecords = none ∧ fullRecords.powered = true) ∧
      (∀ ph ∈ [DoffPhase.spinning, .called call0, .parking call0, .doffing call0 record5],
        (phased ph (small true)).doff.phase = ph ∧ recordOfStation (phased ph (small true)) 15 = none ∧
          absentRecord (phased ph (small true)) = some .one ∧ sideConfigured (phased ph (small true)) .a = true) ∧
      (∀ ph ∈ [DoffPhase.spinning, .parking call0, .doffing call0 record5], ∀ w ∈ [CarriageWork.parked, .busy (order5 (small true))],
        let s := phased ph (put 5 (.piecing .yarn 0) (enrolled w (small true)))
        let held := updCarriage .two (fun c => { c with link := .enrolled { station3 with number := 5 } .a 1 .up .ready }) s
        s.powered = true ∧ (carriage s .one).link = .enrolled station3 .a 5 .up w ∧ recordOfStation s 3 = some .one ∧
          sideConfigured s .b = false ∧ (spindle s 5).state = .piecing .yarn 0 ∧ 5 ≤ s.spindles.length ∧
          (carriage s (otherRecord .one)).link.isClear = true ∧ (carriage held (otherRecord .one)).link.isClear = false ∧
          recordOfStation held 3 = some .one ∧ (carriage held (otherRecord .one)).link.side? = some .a ∧
          sideConfigured held .a = true) ∧
      ∀ ph ∈ [DoffPhase.spinning, .called call0, .parking call0],
        ∀ w ∈ [CarriageWork.ready, .busy (order5 (small true)), .suspect, .parking, .parked],
          let s := phased ph (put 5 (.piecing .yarn 0) (enrolled w (small true)))
          s.powered = true ∧ (carriage s .one).link = .enrolled station3 .a 5 .up w ∧ recordOfStation s 3 = some .one ∧
            sideConfigured s .a = true ∧ (carriage s .two).link.side? ≠ some .a ∧ (carriage s .two).link.isClear = true ∧
            s.doff.phase.code ≠ 4 ∧ (spindle s 5).state = .piecing .yarn 0 ∧ 5 ≤ s.spindles.length := by
  decide +kernel

theorem witness_LinkMessagesByTheStateTable :
    (recordOfStation (small true) 3 = none ∧ (small true).powered = true) ∧
      (recordOfStation (rejected (small true)) 3 = some .one ∧ (carriage (rejected (small true)) .one).link.isEnrolled = false) ∧
      (recordOfStation (busy (small true)) 3 = some .one ∧ (carriage (busy (small true)) .one).link.isEnrolled = true ∧
        (carriage (busy (small true)) .one).link.order? = some (order5 (small true)) ∧ (order5 (small true)).tag ≠ 15 ∧
        (order5 (small true)).tag ≠ 16) ∧
      (let s := enrolled .suspect (small true)
       s.powered = true ∧ recordOfStation s 3 = some .one ∧ (carriage s .one).link = .enrolled station3 .a 5 .up .suspect ∧
         isSpindle s 0 = false ∧ isSpindle s 25 = false) ∧
      ∀ w ∈ [CarriageWork.ready, .parking, .parked, .busy (order5 (small true))],
        recordOfStation (enrolled w (small true)) 3 = some .one ∧
          (carriage (enrolled w (small true)) .one).link = .enrolled station3 .a 5 .up w ∧ w ≠ .suspect := by decide +kernel

theorem witness_CarriageReportsAreTaken :
    (∀ w ∈ [CarriageWork.suspect, .parking, .busy (order5 (small true))],
      recordOfStation (enrolled w (small true)) 3 = some .one ∧ (enrolled w (small true)).powered = true ∧
        (carriage (enrolled w (small true)) .one).link = .enrolled station3 .a 5 .up w) ∧
      isSpindle (small true) 24 = true ∧ sideOf (small true) 24 = .a ∧
      (phased (.parking call0) (enrolled .parking (small false))).doff.phase = .parking call0 ∧
      (carriage (enrolled .parking (small false)) .two).link.isClear = true ∧
      (let o : Order := { order5 (small false) with parkPending := true }
       let s := phased (.parking call0) (put 5 (.piecing .yarn 0) (enrolled (.busy o) (small false)))
       s.powered = true ∧ recordOfStation s 3 = some .one ∧ (carriage s .one).link = .enrolled station3 .a 5 .up (.busy o) ∧
         (spindle s 5).state = .piecing .yarn 0 ∧ 5 ≤ s.spindles.length ∧ (carriage s .two).link.isClear = true) := by
  decide +kernel

theorem witness_ResultEndsTheOrder :
    let s := busy (small true)
    s.powered = true ∧ recordOfStation s 3 = some .one ∧
      (carriage s .one).link = .enrolled station3 .a 5 .up (.busy (order5 (small true))) ∧
      (spindle s (order5 (small true)).spindle).state = .piecing .yarn 0 ∧ 1 ≤ (order5 (small true)).spindle ∧
      (order5 (small true)).spindle ≤ s.spindles.length ∧ s.listA ++ s.listB = [] := by decide +kernel

theorem witness_CarriageTimersExpire :
    (let s := later 60 (busy (small true))
     s.powered = true ∧ (carriage s .one).link = .enrolled station3 .a 5 .up (.busy (order5 (small true))) ∧
       (order5 (small true)).deadline ≤ s.delivery.now ∧ (spindle s 5).state = .piecing .yarn 0 ∧ 5 ≤ s.spindles.length) ∧
      (later 59 (busy (small true))).delivery.now < (order5 (small true)).deadline ∧
      expired (some 90) (later 90 (small true)).delivery.now = true := by decide +kernel

theorem witness_CarriageBecomesAbsent :
    (let s := later 5 (busy (small true))
     s.powered = true ∧ (carriage s .one).link = .enrolled station3 .a 5 .up (.busy (order5 (small true))) ∧
       (carriage s .one).linkTimer = some 5 ∧ s.delivery.now = 5 ∧ (spindle s 5).state = .piecing .yarn 0 ∧
       5 ≤ s.spindles.length) ∧
      lineReady (enrolled .ready (small true)) ∧
      (let s := phased (.doffing call0 record5) (enrolled .parked (small false))
       s.doff.phase = .doffing call0 record5 ∧ recordOfStation s 3 = some .one ∧ station3.abilities.pieces = true ∧
         station3.abilities.parks = true ∧ (carriage s .two).link.side? ≠ some .a ∧ sideConfigured s .a = true) ∧
      (carriage (small true) .two).link = .absent ∧
      (carriage (rejected (small true)) .one).link = .rejected station3 .a ∧
      (carriage (rejected (small true)) .one).linkTimer = some 5 ∧ (3 : Byte) ≠ 1 ∧ (3 : Byte) ≠ 2 ∧
      lineReady (rejected (small true)) :=
  ⟨by decide +kernel, lineReady_of _ (by decide +kernel), by decide +kernel, by decide +kernel, by decide +kernel,
    by decide +kernel, by decide +kernel, by decide +kernel, lineReady_of _ (by decide +kernel)⟩

theorem witness_WaitLimitAndBackOffExpire :
    (let s := updLock 1 (fun l => { l with holder := .carriage .one (some claim2) }) (later 120 (small true))
     s.powered = true ∧ (lockOf s 1).holder = .carriage .one (some claim2) ∧ expired claim2.waitLimit s.delivery.now = true) ∧
      (let s := updPlanner (fun p => { p with calls := [call2], backOff := some 30 }) (later 30 (small true))
       s.powered = true ∧ expired s.planner.backOff s.delivery.now = true ∧ s.planner.transport = .idle ∧
         s.planner.calls = [call2]) := by decide +kernel

theorem witness_TransportAcceptsOrDeclines :
    let s := transporting .called (small true)
    s.powered = true ∧ s.planner.transport = .called (change2 (small true)) ∧ (change2 (small true)).tag = 4 ∧
      (small true).planner.transport = .idle := by decide +kernel

theorem witness_AtSectorClaimsTheLock :
    (∀ f ∈ [Transport.called, .waiting, .changing],
      (transporting f (small true)).planner.transport.change = some (change2 (small true)) ∧
        (transporting f (small true)).powered = true) ∧
      (small true).planner.transport.change = none ∧ (lockOf (small true) 1).holder = .free ∧
      (lockOf (busy (small true)) 1).holder = .carriage .one none := by decide +kernel

theorem witness_ChangedRenewsTheGroup :
    (let s := transporting .changing (broken 20 0 (small true))
     s.powered = true ∧ (currentChange s 4).map (·.call.group) = some 2 ∧ 8 * 2 ≤ s.spindles.length ∧
       s.listA.length = 1 ∧ ∀ e ∈ s.listA ++ s.listB, (spindle s e.spindle).state.isRunning = false) ∧
      (let s := updPlanner (fun p => { p with lastTimedOut := some (3, 9), calls := [{ call2 with group := 3 }] }) (small true)
       currentChange s 9 = none ∧ lateGroup s 9 = some 3 ∧ 8 * 3 ≤ s.spindles.length) ∧
      currentChange (small true) 9 = none ∧ lateGroup (small true) 9 = none := by decide +kernel

theorem witness_ChangesAreGivenUp :
    (∀ f ∈ [Transport.called, .waiting, .changing],
      (transporting f (later 5 (small true))).powered = true ∧
        (transporting f (later 5 (small true))).planner.transport.change = some (change2 (later 5 (small true)))) ∧
      (change2 (small true)).deadline ≤ (later 1200 (transporting .changing (small true))).delivery.now ∧
      (later 1199 (transporting .changing (small true))).delivery.now < (change2 (small true)).deadline ∧
      (change2 (small true)).tag ≠ 5 := by decide +kernel

theorem witness_CallAndDeclareRoving :
    lineReady (small true) ∧ 8 * (3 : Byte).toNat ≤ (small true).spindles.length ∧ isGroup (small true) 3 = true ∧
      isGroup (small true) 4 = false ∧ isActiveGroup (transporting .called (small true)) 2 = true ∧
      whollyWithheld (small true) 3 = false ∧
      inCallList (updPlanner (fun p => { p with calls := [call2] }) (small true)) 2 = true ∧
      inCallList (small true) 2 = false ∧ (spindle (put 9 .running (small true)) 9).state.isRunning = true ∧
      (spindle (small true) 9).state.eligible = true ∧
      (let full := capacity (small true).delivery (small true).doff.lot
       full - min 4294967295 (full * (8 - 0) / 8) ≤
           callMarginPulses (small true).delivery (small true).doff.lot (small true).settings.working.callMargin ∧
         callMarginPulses (small true).delivery (small true).doff.lot (small true).settings.working.callMargin <
           full - min 4294967295 (full * (8 - 8) / 8)) :=
  ⟨ready_small true, by decide +kernel⟩

theorem witness_DofferSignalsAreJudged :
    (small true).powered = true ∧ (small true).doff.dofferActive = false ∧ (small true).doff.phase.code ≠ 4 ∧
      (phased (.doffing call0 record5) (small false)).doff.phase.code = 4 := by decide +kernel

theorem witness_DoffCompleteEmptiesTheCops :
    let s := updDoff (fun d => { d with pendingLot := some { defaultLot with ls := 500 } })
      (phased (.doffing call0 record5) (enrolled .parked (atPulse 190000 (small false))))
    s.powered = true ∧ s.doff.phase = .doffing call0 record5 ∧ s.spindles.length = spindleCount s ∧
      2 ≤ doffPulses s.delivery s.doff.lot ∧ (∀ lot ∈ s.doff.pendingLot, 2 ≤ doffPulses s.delivery lot) ∧
      (carriage s .one).link = .enrolled station3 .a 5 .up .parked := by decide +kernel

theorem witness_HoldDoffSetsTheFlag :
    lineReady (small true) ∧ (small true).doff.phase.callInfo = none ∧
      (∃ t, exec (.resumeDoff []) (small true) = .next t) ∧ (∃ t, exec (.powerOnReset 1 0 true true) (small true) = .next t) ∧
      (let held := updDoff (fun d => { d with hold := true }) (phased .restarting (small true))
       held.powered = true ∧ held.doff.phase = .restarting ∧ held.doff.hold = true ∧
         min 281474976710655 (held.delivery.phi + 1) - held.doff.phiD < held.doff.overrun) :=
  ⟨ready_small true, by decide +kernel, ⟨_, rfl⟩, ⟨_, rfl⟩, by decide +kernel⟩

theorem witness_ResumeDoffAppliesTheTable :
    lineReady (phased (.called call0) (small true)) ∧ (phased (.called call0) (small true)).doff.phase.callInfo ≠ none ∧
      lineReady (small true) ∧ (small true).doff.hold = false ∧ lineReady (phased .restarting (small true)) ∧
      lineReady (updDoff (fun d => { d with hold := true, overdue := true }) (phased .warned (atPulse 188629 (small true)))) ∧
      (updDoff (fun d => { d with hold := true }) (phased .warned (atPulse 188629 (small true)))).doff.phase = .warned :=
  ⟨lineReady_of _ (by decide +kernel), by decide +kernel, ready_small true, by decide +kernel, lineReady_of _ (by decide +kernel),
    lineReady_of _ (by decide +kernel), by decide +kernel⟩

theorem witness_DoffNowCallsTheDoff :
    lineReady (small false) ∧ frameClear (small false) = true ∧ frameClear (enrolled .ready (small false)) = false ∧
      ∀ ph ∈ [DoffPhase.spinning, .warned, .restarting, .called call0, .parking call0, .doffing call0 record5],
        (phased ph (small false)).doff.phase = ph :=
  ⟨ready_small false, by decide +kernel⟩

theorem witness_SetDoffProgressMovesThePoint :
    lineReady (small true) ∧ (small true).doff.phase = .spinning ∧ ¬ 100 < (100 : Byte).toNat ∧ 100 < (101 : Byte).toNat ∧
      lineReady (phased .restarting (small true)) :=
  ⟨ready_small true, by decide +kernel, by decide, by decide, lineReady_of _ (by decide +kernel)⟩

theorem witness_CloseShiftMovesTheBooks : lineReady (small true) ∧ tableOk (small true) := ⟨ready_small true, table_small true⟩

theorem witness_PlainWritesChangeOneThing : lineReady (small true) := ready_small true

theorem witness_StoreOutlivesWritesAndPowerLoss :
    (State.reset.powered = true ∧ State.reset.store.writer = .writing .one defaultImage) ∧
      ((small true).powered = true ∧ (small true).store.writer = .idle) ∧
      ((powerOff (small true)).powered = false ∧ Instr.runSecond ≠ .powerLoss) := by decide +kernel

theorem witness_WriteSettingsChecksThenWrites :
    lineReady (small true) ∧
      (∀ body ∈ [[0, 20, 0, 0, 0, 90], [1, 34, 0, 0, 7, 255], ([0, 1, 0, 0, 0, 1] : List Byte), [2, 12, 0, 0, 0, 1], [0, 35, 0, 0, 0, 1],
          [0, 15, 0, 0, 0, 20], [0, 33, 0, 0, 0, 0]],
        6 ≤ body.length ∧ body.length % 5 = 1) ∧
      settingItems [1, 34, 0, 0, 7, 255] = [(34, 2047)] ∧ settingItems [0, 15, 0, 0, 0, 20] = [(15, 20)] ∧
      itemsInRange [(15, 20)] = true ∧ (phased .warned (small true)).doff.phase = .warned ∧ itemsInRange [(34, 2047)] = true ∧ itemsInRange [(35, 1)] = false ∧
      (small true).store.writer = .idle ∧ State.reset.store.writer ≠ .idle :=
  ⟨ready_small true, by decide +kernel⟩

/-- Sector 1 withheld by record 1 of side A. -/
def withheldFrame : State := after .replyWithheld (after (.writeZone [1, 1, 1, 0, 0, 0]) (small false))

theorem witness_WriteZoneMovesSectors :
    lineReady (small true) ∧ (small true).spindles.length = spindleCount (small true) ∧
      configuredSideOfCode (small true) 1 = some .a ∧ configuredSideOfCode (small true) 2 = none ∧ recordOfCode 2 = some .two ∧
      recordOfCode 3 = none ∧ lineReady withheldFrame ∧ withheldFrame.zones.withheld = [1] ∧
      withheldFrame.spindles.length = spindleCount withheldFrame ∧ (∀ k ∈ (small true).zones.withheld, 1 ≤ k) ∧
      ∀ k ∈ withheldFrame.zones.withheld, 1 ≤ k :=
  ⟨ready_small true, by decide +kernel, by decide +kernel, by decide +kernel, by decide +kernel, by decide +kernel,
    lineReady_of _ (by decide +kernel), by decide +kernel, by decide +kernel, by decide +kernel, by decide +kernel⟩

theorem witness_ClearFaultsClearsTheSet :
    lineReady State.reset ∧ State.reset.faults.counts.length = 11 ∧ 2048 ≤ (8 : Byte).toNat * 256 + (0 : Byte).toNat ∧
      (7 : Byte).toNat * 256 + (255 : Byte).toNat < 2048 :=
  ⟨lineReady_of _ (by decide +kernel), by decide +kernel⟩

/-- A full queue whose notices are INFO. -/
def fullQueue : State :=
  { small true with
    notices :=
      { latches := 0, lost := 255, latchedSince := 0, lostSince := 0
        queue := List.replicate 32
          { kind := .headBack, level := .info, stamp := 0, subject := .none, detail := .none, fetched := false } } }

theorem witness_RaisingFaultsAndNotices :
    (small true).faults.counts.length = 11 ∧ (small true).notices.queue.length ≤ 32 ∧ fullQueue.notices.queue.length = 32 ∧
      (∃ m ∈ fullQueue.notices.queue, m.level ≠ .critical) := by decide +kernel

theorem witness_RefusalsLeaveEverything :
    lineReady (small true) ∧ kindOfRequest (.pieceSpindle [0, 25]) = some 0x13 ∧
      (∃ t, exec (.pieceSpindle [0, 25]) (small true) = .next t ∧
        t.line.reply = some { kind := 0x13, body := [4], effect := .none }) ∧
      ([4] : List Byte).head? = some 4 ∧ 2 ≤ (4 : Byte).toNat ∧ lengthSuits 0x13 (bodyOfRequest (.pieceSpindle [0])) = false :=
  ⟨ready_small true, rfl, ⟨after (.pieceSpindle [0, 25]) (small true), rfl, by decide +kernel⟩, by decide +kernel⟩

theorem witness_ReadingsChangeNothing :
    lineReady (small true) ∧ tableOk (small true) ∧
      (∀ c ∈ [Instr.identify [], .readPiecingList [1, 0, 24], .readGroups [3], .readRovingCalls [0], .readCarriages [],
          .readDoffState [], .readDoffLog [15], .readShift [0, 9], .readFaults [], .readSettings [1, 34], .readZones [1]],
        ∃ kind ∈ kindOfRequest c,
          kind ∈ [0x01, 0x05, 0x06, 0x07, 0x08, 0x09, 0x0A, 0x0B, 0x0C, 0x0E, 0x11] ∧ lengthSuits kind (bodyOfRequest c) = true) :=
  ⟨ready_small true, table_small true, by decide +kernel⟩

theorem witness_IdentifyGivesTheIdentity :
    lineReady (small true) ∧ (small true).delivery.sides ≤ 2 ∧ (small true).delivery.sectors ≤ 42 ∧
      (small true).line.address ≤ 31 ∧ (small true).line.speed ≤ 3 :=
  ⟨ready_small true, by decide +kernel⟩

theorem witness_StatusAndSpindlesActAtTheirSending :
    lineReady (small true) ∧ tableOk (small true) ∧ 64 ≤ (small true).settings.working.replyLimit ∧
      (∀ n ∈ [1, 24], isSpindle (small true) n = true) ∧ spindleCount (small true) < 25 ∧ (2 : Byte).toNat ≤ 2 :=
  ⟨ready_small true, table_small true, by decide +kernel⟩

theorem witness_FetchRemovesWhatItReturned :
    lineReady State.reset ∧ (∀ n ∈ State.reset.notices.queue, n.fetched = false) ∧ 32 < (33 : Byte).toNat ∧
      ¬ 32 < (32 : Byte).toNat ∧ lineReady fullQueue ∧ (∀ n ∈ fullQueue.notices.queue, n.fetched = false) ∧
      fullQueue.notices.queue.length = 32 ∧
      fullQueue.settings.working.enables.getLsbD (NoticeKind.fault .pulseLoss).classBit = true :=
  ⟨lineReady_of _ (by decide +kernel), by decide +kernel, by decide +kernel, by decide +kernel,
    lineReady_of _ (by decide +kernel), by decide +kernel, by decide +kernel, by decide +kernel⟩

theorem witness_PagedRepliesFit :
    lineReady (small true) ∧ kindOfRequest (.readSpindles [0, 1, 0, 0]) = some 0x04 ∧
      64 ≤ (small true).settings.working.replyLimit ∧ (small true).settings.working.replyLimit ≤ 250 ∧
      (∃ t r, exec (.readSpindles [0, 1, 0, 0]) (small true) = .next t ∧ t.line.reply = some r) ∧
      (spindle (small true) 1).breakRing.length ≤ 4 ∧ (∀ sp ∈ (small true).spindles, sp.breakRing.length ≤ 4) :=
  ⟨ready_small true, by decide +kernel, by decide +kernel, by decide +kernel,
    ⟨after (.readSpindles [0, 1, 0, 0]) (small true), _, rfl, rfl⟩, by decide +kernel, by decide +kernel⟩

/-- The line in a receiver state, with a reply waiting or not. -/
def onLine (r : Receiver) (reply : Option Reply) : State := updLine (fun l => { l with receiver := r, reply := reply }) (small true)

theorem witness_FramesAndRepliesOnTheLine :
    (∀ r ∈ [Receiver.hunting, .inFrame, .resync, .replying],
      (onLine r none).powered = true ∧ (onLine r none).line.receiver = r ∧ (onLine r none).line.reply = none ∧
        (onLine r none).line.address ≠ 0) ∧
      (kindOfRequest (.identify []) = some 0x01 ∧ kindOfRequest (.restart []) = some 0x1F ∧
        kindOfRequest (.setClock false []) = some 0x1E) ∧
      ((0 : Byte) = 0 ∧ 0x20 ≤ (0x7F : Byte).toNat ∧ (0x7F : Byte).toNat < 0x80) ∧
      (onLine .hunting (some { kind := 1, body := [0], effect := .none })).line.reply =
        some { kind := 1, body := [0], effect := .none } := by decide +kernel

theorem witness_RestartRebuildsTheBoard :
    lineReady (small true) ∧
      (∀ r ∈ [Receiver.hunting, .replying],
        let s := onLine r (some { kind := 0x1F, body := [0], effect := .restart })
        s.powered = true ∧ s.spindles.length = spindleCount s ∧
          s.line.reply = some { kind := 0x1F, body := [0], effect := .restart } ∧ s.line.receiver = r ∧
          (∀ n ∈ s.notices.queue, n.fetched = false) ∧ s.planner.transport = .idle ∧ s.planner.backOff = none ∧
          ∀ l ∈ s.locks, l.claim = none) ∧
      booksSound (small true) ∧
      (let s := updLock 1 (fun l => { l with holder := .carriage .one (some claim2) }) (transporting .waiting (busy (small true)))
       (carriage s .one).link.station? = some station3 ∧ s.planner.transport.change = some (change2 (small true)) ∧
         ∃ l ∈ s.locks, l.claim ≠ none) ∧
      ∀ ph ∈ [DoffPhase.called call0, .parking call0], (phased ph (small false)).doff.phase = ph :=
  ⟨ready_small true, by decide +kernel, ⟨geometry_small true, fun _ => by decide +kernel⟩, by decide +kernel, by decide +kernel⟩

/-- R112, R118, R207: the group whose last spindle, withhold-pending, becomes WITHHELD at Restart is in no call after it. -/
theorem test_restart_drops_call :
    let s := updPlanner (fun p => { p with calls := [{ call2 with group := 1 }], backOff := some 9 })
      (updSpindle 8 (fun sp => { sp with withholdPending := true }) (put 8 (.piecing .yarn 0) withheldFrame))
    whollyWithheld s 1 = false ∧
      (after .replyEnd (after .replySend (after (.restart []) s))).planner.calls = [] := by decide +kernel

theorem witness_FiguresStayInTheirBounds :
    (1800 ≤ ({ roller with d := 1800, p := 1 } : Delivery).d ∧ 1 ≤ ({ roller with d := 1800, p := 1 } : Delivery).p ∧
        1 ≤ ({ defaultLot with ls := 1 } : Lot).ls) ∧
      spindleEfficiency { zeroCategories with running := 1 } = some 10000 ∧
      frameEfficiency { zeroCategories with running := 1 } = some 10000 := by decide

/-- Two entries of side A, the older one nearer the bottom. -/
def twoBroken (w : CarriageWork) : State := broken 20 1 (broken 2 0 (enrolled w (small true)))

theorem witness_OrdersAreChosenIssuedAndCarriedOver :
    (let s := twoBroken .suspect
     s.powered = true ∧ recordOfStation s 3 = some .one ∧ (carriage s .one).link = .enrolled station3 .a 5 .up .suspect ∧
       s.delivery.driving = true ∧ s.doff.phase = .spinning ∧ (pieceList s .a).length = 2 ∧
       (chooseEntry s.delivery.now s.settings.working.ageLimit 5 .up
          ((pieceList s .a).filter fun f => sectorFree s (sectorOf f.spindle))).map (·.spindle) = some 20 ∧
       sideOf s 20 = .a ∧ 20 ≤ s.spindles.length ∧ sectorOf 20 ≤ s.locks.length ∧ (spindle s 20).state = .broken .yarn 1) ∧
      pieceList (enrolled .suspect (small true)) .a = [] ∧
      (∀ waiting ∈ [none, some claim2],
        let s := updLock 1 (fun l => { l with holder := .carriage .one waiting }) (transporting .waiting (busy (small true)))
        s.powered = true ∧ recordOfStation s 3 = some .one ∧ recordOfSide s .a = some .one ∧
          (carriage s .one).link = .enrolled station3 .a 5 .up (.busy (order5 (small true))) ∧ sideOf s 5 = .a ∧
          sectorOf 5 ≤ s.locks.length ∧ (lockOf s (sectorOf 5)).holder = .carriage .one waiting ∧
          carryOverAllowed s .one 1 = false) ∧
      carryOverAllowed (updLock 1 (fun l => { l with holder := .carriage .one (some claim2) }) (twoBroken .ready)) .one 1 = true := by
  decide +kernel

end Sys2Proof.Tests
end

/-! # What a spindle keeps: seconds booked, cops read, SETTLING and RUNNING only while driven -/

namespace Sys2Proof.Machine

open Sys2Proof

/-- A spindle's cop pulses as read at an odometer (R19). -/
def copAt (phi : Nat) (sp : Spindle) : Nat := satAdd Config.top32 sp.copPulses (owedPulses phi sp)

theorem copRead_eq (s : State) (sp : Spindle) : copRead s sp = copAt s.delivery.phi sp := rfl

/-- R34: the states that exist only while drive running is asserted. -/
def needsDrive (st : SpindleState) : Prop :=
  match st with
  | .settling _ _ => True
  | .running => True
  | _ => False

theorem needsDrive_iff (st : SpindleState) : needsDrive st ↔ st.code = 2 ∨ st.code = 3 := by
  cases st <;> simp [needsDrive, SpindleState.code]

/-! ## One record of the table -/

theorem hasSpindle_iff (s : State) (n : Nat) : hasSpindle s n = true ↔ 1 ≤ n ∧ n ≤ s.spindles.length := by
  simp [hasSpindle]

/-- A number with no record is changed by nothing. -/
theorem updSpindle_none (n : Nat) (f : Spindle → Spindle) (s : State) (h : hasSpindle s n = false) : updSpindle n f s = s := by
  cases n with
  | zero => rfl
  | succ k =>
    have hlt : s.spindles.length < k + 1 := by simp [hasSpindle] at h; omega
    simp only [updSpindle, modifyNth_out _ _ _ hlt]

theorem spindle_updSpindle (n m : Nat) (f : Spindle → Spindle) (s : State) :
    spindle (updSpindle n f s) m = if m = n ∧ hasSpindle s n = true then f (spindle s m) else spindle s m := by
  by_cases hm : m = n
  · subst hm
    cases hr : hasSpindle s m
    · simp [updSpindle_none m f s hr]
    · have hb := (hasSpindle_iff s m).1 hr
      simp [spindle_updSpindle_same m f s hb.1 hb.2]
  · simp [hm, spindle_updSpindle_other n m f s hm]

theorem spindle_changeState (n m : Nat) (st : SpindleState) (s : State) :
    spindle (changeState n st s) m =
      if m = n ∧ hasSpindle s n = true then (spindle s m).changed s.delivery.driving s.delivery.now s.delivery.phi st
      else spindle s m := by
  by_cases hm : m = n
  · subst hm
    cases hr : hasSpindle s m
    · simp [changeState_none m st s hr]
    · simp [spindle_changeState_same m st s hr]
  · simp [hm, spindle_changeState_other n m st s hm]

/-! ## What one record's change books -/

/-- A change of one record that books `seconds` of what it owed, reads no more cop pulses than before, and puts a spindle in SETTLING
or RUNNING only while the frame is driven or where it was so already. -/
structure Booked (dl : Delivery) (seconds : Nat) (sp sp' : Spindle) : Prop where
  mark : sp.secondsMark ≤ dl.now → sp'.secondsMark ≤ dl.now
  owed : sp.secondsMark ≤ dl.now → owedSeconds dl.now sp' + seconds = owedSeconds dl.now sp
  cop : copAt dl.phi sp' ≤ copAt dl.phi sp
  driven : needsDrive sp'.state → needsDrive sp.state ∨ dl.driving = true

theorem Booked.refl (dl : Delivery) (sp : Spindle) : Booked dl 0 sp sp :=
  ⟨id, fun _ => rfl, Nat.le_refl _, Or.inl⟩

/-- A change that leaves mark, pulses and state alone books nothing. -/
theorem Booked.of_same {dl : Delivery} {sp sp' : Spindle} (hm : sp'.secondsMark = sp.secondsMark) (hs : sp'.state = sp.state)
    (hp : sp'.pulseMark = sp.pulseMark) (hc : sp'.copPulses ≤ sp.copPulses) : Booked dl 0 sp sp' := by
  refine ⟨fun h => hm ▸ h, fun _ => by simp [owedSeconds, hm], ?_, fun h => Or.inl (hs ▸ h)⟩
  simp only [copAt, owedPulses, satAdd, hs, hp]
  omega

/-- R18: seconds booked touch the shift running seconds alone. -/
@[simp] theorem addSeconds_copPulses (sp : Spindle) (k : Category) (n : Nat) : (sp.addSeconds k n).copPulses = sp.copPulses := rfl

@[simp] theorem settled_state (sp : Spindle) (driving : Bool) (now phi : Nat) : (sp.settled driving now phi).state = sp.state := rfl

@[simp] theorem settled_secondsMark (sp : Spindle) (driving : Bool) (now phi : Nat) :
    (sp.settled driving now phi).secondsMark = now := rfl

@[simp] theorem settled_copPulses (sp : Spindle) (driving : Bool) (now phi : Nat) :
    (sp.settled driving now phi).copPulses = copAt phi sp := rfl

/-- R20: settling moves no reading. -/
@[simp] theorem copAt_settled (sp : Spindle) (driving : Bool) (now phi : Nat) :
    copAt phi (sp.settled driving now phi) = copAt phi sp := by
  simp only [copAt, settled_copPulses, owedPulses_settled, satAdd]
  omega

/-- R20: a settle books all that a spindle owes. -/
theorem Booked.settled (dl : Delivery) (sp : Spindle) :
    Booked dl (owedSeconds dl.now sp) sp (sp.settled dl.driving dl.now dl.phi) where
  mark _ := Nat.le_refl _
  owed _ := by simp [owedSeconds]
  cop := Nat.le_of_eq (copAt_settled _ _ _ _)
  driven h := Or.inl h

@[simp] theorem changed_secondsMark (sp : Spindle) (driving : Bool) (now phi : Nat) (st : SpindleState) :
    (sp.changed driving now phi st).secondsMark =
      if categoryOf driving sp.state = categoryOf driving st then sp.secondsMark else now := by
  cases st <;> rfl

@[simp] theorem changed_copPulses (sp : Spindle) (driving : Bool) (now phi : Nat) (st : SpindleState) :
    (sp.changed driving now phi st).copPulses = satAdd Config.top32 sp.copPulses (pulsesOnChange phi sp st) := by
  cases st <;> rfl

/-- R18: what a spindle owes after a change of state: nothing, but for one that stays RUNNING, which owes what it owed. -/
theorem owedPulses_changed (sp : Spindle) (driving : Bool) (now phi : Nat) (st : SpindleState) :
    owedPulses phi (sp.changed driving now phi st) = if st.isRunning then owedPulses phi sp else 0 := by
  simp only [owedPulses, changed_state, changed_pulseMark, markOnChange]
  cases st.isRunning <;> cases sp.state.isRunning <;> simp

/-- R18: a change of state moves no reading. -/
@[simp] theorem copAt_changed (sp : Spindle) (driving : Bool) (now phi : Nat) (st : SpindleState) :
    copAt phi (sp.changed driving now phi st) = copAt phi sp := by
  simp only [copAt, changed_copPulses, owedPulses_changed, pulsesOnChange, satAdd]
  cases st.isRunning <;> simp; omega

/-- R18, R36: a change of state books the seconds of the category it leaves. -/
theorem Booked.changed (dl : Delivery) (sp : Spindle) (st : SpindleState)
    (h : needsDrive st → needsDrive sp.state ∨ dl.driving = true) :
    Booked dl (secondsOnChange dl.driving dl.now sp st) sp (sp.changed dl.driving dl.now dl.phi st) where
  mark hm := by rw [changed_secondsMark]; split <;> omega
  owed hm := by
    simp only [owedSeconds, changed_secondsMark, secondsOnChange]
    split <;> omega
  cop := Nat.le_of_eq (copAt_changed _ _ _ _ _)
  driven hd := h (by simpa using hd)

/-! ## The books: seconds stored and seconds owed -/

/-- The seconds all spindles owe. -/
def owedTotal (now : Nat) (l : List Spindle) : Nat := (l.map (owedSeconds now)).sum

/-- Changing one item of a list exchanges its share of a sum. -/
theorem sum_modify {α : Type} (g : α → Nat) (f : α → α) : ∀ (l : List α) (k : Nat) (h : k < l.length),
    ((l.modify k f).map g).sum + g l[k] = (l.map g).sum + g (f l[k])
  | x :: l, 0, _ => by simp; omega
  | x :: l, k + 1, h => by
    have ih := sum_modify g f l k (by simpa using h)
    simp only [List.modify_succ_cons, List.map_cons, List.sum_cons, List.getElem_cons_succ]
    omega

theorem spindle_eq_getElem (s : State) (n : Nat) (h : hasSpindle s n = true) :
    ∃ hk : n - 1 < s.spindles.length, spindle s n = s.spindles[n - 1] ∧ 1 ≤ n := by
  have hb : 1 ≤ n ∧ n ≤ s.spindles.length := by simpa [hasSpindle] using h
  obtain ⟨k, rfl⟩ : ∃ k, n = k + 1 := ⟨n - 1, by omega⟩
  have hk : k < s.spindles.length := by omega
  exact ⟨by simpa using hk, by simp [spindle, nth_succ, hk], hb.1⟩

theorem spindle_mem (s : State) (n : Nat) (h : hasSpindle s n = true) : spindle s n ∈ s.spindles := by
  obtain ⟨hk, he, _⟩ := spindle_eq_getElem s n h
  exact he ▸ List.getElem_mem hk

theorem owedTotal_modifyNth (now n : Nat) (f : Spindle → Spindle) (s : State) (h : hasSpindle s n = true) :
    owedTotal now (modifyNth s.spindles n f) + owedSeconds now (spindle s n) =
      owedTotal now s.spindles + owedSeconds now (f (spindle s n)) := by
  obtain ⟨hk, he, h1⟩ := spindle_eq_getElem s n h
  obtain ⟨k, rfl⟩ : ∃ k, n = k + 1 := ⟨n - 1, by omega⟩
  rw [he]
  exact sum_modify (owedSeconds now) f s.spindles k (by simpa using hk)

/-- R17, R18: spindle-seconds are added to one category, where the total stays in range. -/
theorem total_add (c : Categories) (k : Category) (n : Nat) (h : c.total + n ≤ Config.top48) :
    (c.add k n).total = c.total + n := by
  unfold Categories.total at *
  cases k <;> simp only [Categories.add, satAdd] <;> omega

/-- An addition that ends below the top of the range was exact. -/
theorem total_of_add_lt (c : Categories) (k : Category) (n : Nat) (h : (c.add k n).total < Config.top48) :
    c.total + n = (c.add k n).total := by
  revert h
  unfold Categories.total
  cases k <;> simp only [Categories.add, satAdd] <;> omega

/-- R19: the categories as read are those stored with all that is owed, as long as either sum stays below the top. -/
theorem total_foldl_add (kind : Spindle → Category) (owed : Spindle → Nat) : ∀ (l : List Spindle) (c : Categories),
    c.total + (l.map owed).sum < Config.top48 ∨ (l.foldl (fun c sp => c.add (kind sp) (owed sp)) c).total < Config.top48 →
      (l.foldl (fun c sp => c.add (kind sp) (owed sp)) c).total = c.total + (l.map owed).sum
  | [], c, _ => by simp
  | sp :: l, c, h => by
    have ih := total_foldl_add kind owed l (c.add (kind sp) (owed sp))
    simp only [List.foldl_cons, List.map_cons, List.sum_cons] at h ⊢
    rcases h with h | h
    · have e := total_add c (kind sp) (owed sp) (by omega)
      rw [ih (Or.inl (by omega)), e]; omega
    · have e := ih (Or.inr h)
      have := total_of_add_lt c (kind sp) (owed sp) (by omega)
      omega

theorem categoriesRead_total (s : State)
    (h : s.shift.categories.total + owedTotal s.delivery.now s.spindles < Config.top48 ∨ (categoriesRead s).total < Config.top48) :
    (categoriesRead s).total = s.shift.categories.total + owedTotal s.delivery.now s.spindles :=
  total_foldl_add (fun sp => categoryOf s.delivery.driving sp.state) (owedSeconds s.delivery.now) s.spindles _ h

end Sys2Proof.Machine

/-! # What a command is composed of, said once, and the three invariants that follow by induction on it -/

namespace Sys2Proof.Machine

open Sys2Proof

/-- R1, R179: the geometry is in range in the store and in the retained settings. -/
def geometryHeld (s : State) : Prop := storeOk s.store ∧ s.settings.retained.geometryOk

/-- Supply, clocks, straps, books and the start of the doff progress stand, and the geometry stays in range. -/
structure Quiet (s t : State) : Prop where
  powered : t.powered = s.powered
  delivery : t.delivery = s.delivery
  address : t.line.address = s.line.address
  speed : t.line.speed = s.line.speed
  openSecond : t.shift.openSecond = s.shift.openSecond
  categories : t.shift.categories = s.shift.categories
  phiD : t.doff.phiD = s.doff.phiD
  geometry : geometryHeld s → geometryHeld t

theorem Quiet.refl (s : State) : Quiet s s := ⟨rfl, rfl, rfl, rfl, rfl, rfl, rfl, id⟩

/-- R20: every spindle has just been settled. -/
def settledNow (t : State) : Prop :=
  ∀ sp ∈ t.spindles, sp.secondsMark = t.delivery.now ∧ owedPulses t.delivery.phi sp = 0

/-- R4, R152: the doff progress starts within the odometer, and no cop reads more than the progress. -/
structure CopsWithin (s : State) : Prop where
  phi : s.delivery.phi ≤ Config.top48
  phiD : s.doff.phiD ≤ s.delivery.phi
  cops : ∀ sp ∈ s.spindles, copAt s.delivery.phi sp ≤ s.delivery.phi - s.doff.phiD

/-- R152, R145: the start of the doff progress and the cops are set anew; marks, states and all else stand. -/
structure Rebased (s t : State) : Prop where
  quiet : Quiet s { t with doff := s.doff }
  spindles : List.Forall₂ (fun sp sp' => sp'.secondsMark = sp.secondsMark ∧ sp'.state = sp.state) s.spindles t.spindles
  cops : tableOk s → s.delivery.phi ≤ Config.top48 → CopsWithin t

/-- What every command of a powered board is composed of, but for the two resets, the clocks, the odometer and the drive. -/
inductive Runs (s : State) : State → Prop where
  | refl : Runs s s
  /-- something besides clocks and books changes, and no spindle's account is moved -/
  | touch {t u : State} : Runs s t → Quiet t u → List.Forall₂ (Booked t.delivery 0) t.spindles u.spindles → Runs s u
  /-- a spindle's seconds and pulses are booked, at a settle or at a change of state -/
  | book {t : State} (n : Nat) (f : Spindle → Spindle) (k : Category) (seconds pulses : Nat) : Runs s t →
      hasSpindle t n = true → Booked t.delivery seconds (spindle t n) (f (spindle t n)) →
      Runs s (updSpindle n f { t with shift := t.shift.accrue k seconds pulses })
  /-- a shift is opened, every spindle having been settled -/
  | shiftOpened {t : State} (number : Nat) : Runs s t → (tableOk t → settledNow t) → Runs s (openShift number t)
  /-- the doff progress starts elsewhere -/
  | rebased {t u : State} : Runs s t → Rebased t u → Runs s u
  /-- pulse-loss detection starts again or stops -/
  | watched {t : State} (timer : Option Nat) (lost : Bool) : Runs s t →
      Runs s { t with delivery := { t.delivery with pulseTimer := timer, pulseLost := lost } }

theorem Runs.trans {s t u : State} (h : Runs s t) (k : Runs t u) : Runs s u := by
  induction k with
  | refl => exact h
  | touch _ q f ih => exact ih.touch q f
  | book n f k x y _ hn hb ih => exact ih.book n f k x y hn hb
  | shiftOpened n _ hs ih => exact ih.shiftOpened n hs
  | rebased _ r ih => exact ih.rebased r
  | watched a b _ ih => exact ih.watched a b

/-- Composition, written from the last operation back to the first. -/
theorem Runs.after {s t u : State} (k : Runs t u) (h : Runs s t) : Runs s u := h.trans k

theorem forall₂_booked_refl (dl : Delivery) (l : List Spindle) : List.Forall₂ (Booked dl 0) l l :=
  List.forall₂_same.2 fun sp _ => Booked.refl dl sp

/-- A change that touches no spindle. -/
theorem Quiet.runs {s t : State} (h : Quiet s t) (hs : t.spindles = s.spindles) : Runs s t :=
  Runs.refl.touch h (hs ▸ forall₂_booked_refl _ _)

theorem forall₂_modify {α : Type} {R : α → α → Prop} (hr : ∀ x, R x x) (f : α → α) :
    ∀ (l : List α) (k : Nat), (∀ x ∈ l[k]?, R x (f x)) → List.Forall₂ R l (l.modify k f)
  | [], _, _ => by simp
  | x :: l, 0, h => by
    simpa [List.forall₂_same] using ⟨h x rfl, fun y _ => hr y⟩
  | x :: l, k + 1, h => by
    simpa using ⟨hr x, forall₂_modify hr f l k (by simpa using h)⟩

/-- One record changed in what its account does not see. -/
theorem updSpindle_runs (n : Nat) (f : Spindle → Spindle) (s : State)
    (h : hasSpindle s n = true → Booked s.delivery 0 (spindle s n) (f (spindle s n))) : Runs s (updSpindle n f s) := by
  refine Runs.refl.touch ⟨rfl, rfl, rfl, rfl, rfl, rfl, rfl, id⟩ ?_
  cases n with
  | zero => exact forall₂_booked_refl _ _
  | succ k =>
    refine forall₂_modify (Booked.refl _) f s.spindles k fun x hx => ?_
    obtain ⟨hk, rfl⟩ := List.getElem?_eq_some_iff.1 hx
    simpa [spindle, nth_succ, hk] using h (by simp [hasSpindle]; omega)

/-! ## What stands -/

/-- R3, R4, R6, R7, R8, R187: geometry, straps, odometer, clocks and drive level stand, and the supply. -/
structure ClocksStand (s t : State) : Prop where
  powered : t.powered = s.powered
  sides : t.delivery.sides = s.delivery.sides
  sectors : t.delivery.sectors = s.delivery.sectors
  d : t.delivery.d = s.delivery.d
  p : t.delivery.p = s.delivery.p
  address : t.line.address = s.line.address
  speed : t.line.speed = s.line.speed
  phi : t.delivery.phi = s.delivery.phi
  now : t.delivery.now = s.delivery.now
  clockSet : t.delivery.clockSet = s.delivery.clockSet
  mill : t.delivery.mill = s.delivery.mill
  driving : t.delivery.driving = s.delivery.driving

theorem ClocksStand.refl (s : State) : ClocksStand s s := ⟨rfl, rfl, rfl, rfl, rfl, rfl, rfl, rfl, rfl, rfl, rfl, rfl⟩

theorem ClocksStand.trans {s t u : State} (h : ClocksStand s t) (k : ClocksStand t u) : ClocksStand s u :=
  ⟨k.powered.trans h.powered, k.sides.trans h.sides, k.sectors.trans h.sectors, k.d.trans h.d, k.p.trans h.p,
    k.address.trans h.address, k.speed.trans h.speed, k.phi.trans h.phi, k.now.trans h.now, k.clockSet.trans h.clockSet,
    k.mill.trans h.mill, k.driving.trans h.driving⟩

theorem ClocksStand.of_delivery {s t : State} (hd : t.delivery = s.delivery) (hp : t.powered = s.powered)
    (ha : t.line.address = s.line.address) (hs : t.line.speed = s.line.speed) : ClocksStand s t := by
  constructor <;> simp only [hd, hp, ha, hs]

theorem Quiet.clocks {s t : State} (h : Quiet s t) : ClocksStand s t := .of_delivery h.delivery h.powered h.address h.speed

theorem Runs.clocks {s t : State} (h : Runs s t) : ClocksStand s t := by
  induction h with
  | refl => exact .refl s
  | touch _ q _ ih => exact ih.trans q.clocks
  | book n f k x y _ _ _ ih => exact ih.trans (.of_delivery rfl rfl rfl rfl)
  | shiftOpened n _ _ ih => exact ih.trans (.of_delivery rfl rfl rfl rfl)
  | rebased _ r ih =>
    have c := r.quiet.clocks
    exact ih.trans ⟨c.1, c.2, c.3, c.4, c.5, c.6, c.7, c.8, c.9, c.10, c.11, c.12⟩
  | watched a b _ ih => exact ih.trans ⟨rfl, rfl, rfl, rfl, rfl, rfl, rfl, rfl, rfl, rfl, rfl, rfl⟩

theorem Runs.length {s t : State} (h : Runs s t) : t.spindles.length = s.spindles.length := by
  induction h with
  | refl => rfl
  | touch _ _ f ih => exact f.length_eq.symm.trans ih
  | book n f k x y _ _ _ ih => simpa using ih
  | shiftOpened n _ _ ih => simpa [openShift] using ih
  | rebased _ r ih => exact r.spindles.length_eq.symm.trans ih
  | watched a b _ ih => exact ih

theorem ClocksStand.spindleCount {s t : State} (h : ClocksStand s t) : spindleCount t = spindleCount s := by
  simp only [Machine.spindleCount, sectorCount, h.sides, h.sectors]

theorem tableOk_of_stand {s t : State} (c : ClocksStand s t) (hl : t.spindles.length = s.spindles.length) (h : tableOk s) :
    tableOk t := by
  obtain ⟨h1, h2, h3, h4⟩ := h
  rw [← c.sides] at h1
  rw [← c.sectors] at h2 h3
  exact ⟨h1, h2, h3, by rw [hl, c.spindleCount, h4]⟩

theorem Runs.table {s t : State} (h : Runs s t) : tableOk s → tableOk t := tableOk_of_stand h.clocks h.length

theorem Runs.geometry {s t : State} (h : Runs s t) : geometryHeld s → geometryHeld t := by
  induction h with
  | refl => exact id
  | touch _ q _ ih => exact q.geometry ∘ ih
  | book n f k x y _ _ _ ih => exact ih
  | shiftOpened n _ _ ih => exact ih
  | rebased _ r ih => exact r.quiet.geometry ∘ ih
  | watched a b _ ih => exact ih

/-! ## The books -/

/-- R19: no mark lies in the future, and seconds stored and owed add up to the spindle-seconds of the shift. -/
structure Accounts (s : State) : Prop where
  now : s.delivery.now ≤ Config.top32
  opened : s.shift.openSecond ≤ s.delivery.now
  marks : ∀ sp ∈ s.spindles, sp.secondsMark ≤ s.delivery.now
  total : s.shift.categories.total + owedTotal s.delivery.now s.spindles =
    s.spindles.length * (s.delivery.now - s.shift.openSecond)

/-- R1: a frame has at most 2016 spindles. -/
theorem tableOk.length_le {s : State} (h : tableOk s) : s.spindles.length ≤ 2016 := by
  obtain ⟨hs, _, h42, hl⟩ := h
  simp only [hl, spindleCount, sectorCount, Config.sectorSpindles]
  rcases hs with hs | hs <;> rw [hs] <;> omega

/-- R17, R19: the spindle-seconds of a shift stay far below the top of a category. -/
theorem Accounts.total_lt {s : State} (h : Accounts s) (ht : tableOk s) :
    s.shift.categories.total + owedTotal s.delivery.now s.spindles < Config.top48 := by
  rw [h.total]
  calc s.spindles.length * (s.delivery.now - s.shift.openSecond)
      ≤ 2016 * Config.top32 := Nat.mul_le_mul ht.length_le (by have := h.now; omega)
    _ < Config.top48 := by decide

theorem owedTotal_eq_of_booked {dl : Delivery} {l l' : List Spindle} (h : List.Forall₂ (Booked dl 0) l l')
    (hm : ∀ sp ∈ l, sp.secondsMark ≤ dl.now) : owedTotal dl.now l' = owedTotal dl.now l := by
  induction h with
  | nil => rfl
  | cons hb _ ih =>
    simp only [owedTotal, List.map_cons, List.sum_cons, List.forall_mem_cons] at *
    have := hb.owed hm.1
    rw [ih hm.2]; omega

theorem forall₂_forall_mem {α β : Type} {R : α → β → Prop} {P : α → Prop} {Q : β → Prop} {l : List α} {l' : List β}
    (h : List.Forall₂ R l l') (hp : ∀ x ∈ l, P x) (hq : ∀ x y, R x y → P x → Q y) : ∀ y ∈ l', Q y := by
  induction h with
  | nil => simp
  | cons hr _ ih =>
    simp only [List.forall_mem_cons] at hp ⊢
    exact ⟨hq _ _ hr hp.1, ih hp.2⟩

theorem forall_mem_modifyNth {P : Spindle → Prop} (n : Nat) (f : Spindle → Spindle) (s : State) (hn : hasSpindle s n = true)
    (h : ∀ sp ∈ s.spindles, P sp) (hf : P (spindle s n) → P (f (spindle s n))) : ∀ sp ∈ modifyNth s.spindles n f, P sp := by
  obtain ⟨hk, he, h1⟩ := spindle_eq_getElem s n hn
  obtain ⟨k, rfl⟩ : ∃ k, n = k + 1 := ⟨n - 1, by omega⟩
  intro sp hsp
  obtain ⟨i, hi, rfl⟩ := List.mem_iff_getElem.1 hsp
  rw [he] at hf
  simp only [Nat.add_sub_cancel] at hf hk
  simp only [modifyNth, List.length_modify] at hi
  simp only [modifyNth, List.getElem_modify]
  split
  · subst_vars; exact hf (h _ (List.getElem_mem hk))
  · exact h _ (List.getElem_mem hi)

theorem owedTotal_eq_of_marks {now : Nat} {l l' : List Spindle}
    (h : List.Forall₂ (fun sp sp' : Spindle => sp'.secondsMark = sp.secondsMark ∧ sp'.state = sp.state) l l') :
    owedTotal now l' = owedTotal now l := by
  induction h with
  | nil => rfl
  | cons hb _ ih => simp only [owedTotal, List.map_cons, List.sum_cons, owedSeconds, hb.1] at *; rw [ih]

theorem Accounts.book {t : State} (a : Accounts t) (ht : tableOk t) (n : Nat) (f : Spindle → Spindle) (k : Category)
    (seconds pulses : Nat) (hn : hasSpindle t n = true) (hb : Booked t.delivery seconds (spindle t n) (f (spindle t n))) :
    Accounts (updSpindle n f { t with shift := t.shift.accrue k seconds pulses }) where
  now := a.now
  opened := a.opened
  marks := forall_mem_modifyNth n f t hn a.marks hb.mark
  total := by
    have hm := a.marks _ (spindle_mem t n hn)
    have ho := hb.owed hm
    have hs := owedTotal_modifyNth t.delivery.now n f t hn
    have hlt := a.total_lt ht
    have hle : owedSeconds t.delivery.now (spindle t n) ≤ owedTotal t.delivery.now t.spindles :=
      List.le_sum_of_mem (List.mem_map_of_mem (spindle_mem t n hn))
    have hadd := total_add t.shift.categories k seconds (by omega)
    have ha := a.total
    show (t.shift.categories.add k seconds).total + owedTotal t.delivery.now (modifyNth t.spindles n f) =
      (modifyNth t.spindles n f).length * (t.delivery.now - t.shift.openSecond)
    rw [hadd, length_modifyNth, ← ha]
    omega

theorem Accounts.openShift {t : State} (a : Accounts t) (h : settledNow t) (number : Nat) :
    Accounts (openShift number t) where
  now := a.now
  opened := Nat.le_refl _
  marks := by
    intro sp hsp
    obtain ⟨x, hx, rfl⟩ := List.mem_map.1 hsp
    exact a.marks x hx
  total := by
    have hz : ∀ l : List Spindle, (∀ sp ∈ l, sp.secondsMark = t.delivery.now) →
        owedTotal t.delivery.now (l.map Spindle.newShift) = 0 := by
      intro l hl
      refine List.sum_eq_zero fun x hx => ?_
      simp only [List.mem_map] at hx
      obtain ⟨_, ⟨sp, hsp, rfl⟩, rfl⟩ := hx
      simp [owedSeconds, Spindle.newShift, hl sp hsp]
    have := hz t.spindles fun sp hsp => (h sp hsp).1
    simp only [Machine.openShift, freshShift, Nat.sub_self, Nat.mul_zero]
    rw [this]; rfl

theorem Runs.books {s t : State} (h : Runs s t) (ht : tableOk s) (a : Accounts s) : Accounts t := by
  induction h with
  | refl => exact a
  | touch _ q f ih =>
    refine ⟨?_, ?_, ?_, ?_⟩
    · rw [q.delivery]; exact ih.now
    · rw [q.delivery, q.openSecond]; exact ih.opened
    · rw [q.delivery]; exact forall₂_forall_mem f ih.marks fun _ _ b => b.mark
    · rw [q.delivery, q.openSecond, q.categories, owedTotal_eq_of_booked f ih.marks, ← f.length_eq]; exact ih.total
  | book n f k x y r hn hb ih => exact ih.book (Runs.table r ht) n f k x y hn hb
  | shiftOpened n r hs ih => exact ih.openShift (hs (Runs.table r ht)) n
  | rebased _ r ih =>
    have q := r.quiet
    have hd := q.delivery; have ho := q.openSecond; have hc := q.categories
    dsimp only at hd ho hc
    refine ⟨?_, ?_, ?_, ?_⟩
    · rw [hd]; exact ih.now
    · rw [hd, ho]; exact ih.opened
    · rw [hd]; exact forall₂_forall_mem r.spindles ih.marks fun _ _ b h => b.1 ▸ h
    · rw [hd, ho, hc, owedTotal_eq_of_marks r.spindles, ← r.spindles.length_eq]; exact ih.total
  | watched x y _ ih => exact ⟨ih.now, ih.opened, ih.marks, ih.total⟩

/-! ## The cops and the drive -/

theorem Runs.cops {s t : State} (h : Runs s t) (ht : tableOk s) (a : CopsWithin s) : CopsWithin t := by
  induction h with
  | refl => exact a
  | touch _ q f ih =>
    refine ⟨?_, ?_, ?_⟩
    · rw [q.delivery]; exact ih.phi
    · rw [q.delivery, q.phiD]; exact ih.phiD
    · rw [q.delivery, q.phiD]; exact forall₂_forall_mem f ih.cops fun _ _ b h => b.cop.trans h
  | book n f k x y _ hn hb ih => exact ⟨ih.phi, ih.phiD, forall_mem_modifyNth n f _ hn ih.cops hb.cop.trans⟩
  | shiftOpened n _ _ ih =>
    refine ⟨ih.phi, ih.phiD, fun sp hsp => ?_⟩
    obtain ⟨x, hx, rfl⟩ := List.mem_map.1 hsp
    exact ih.cops x hx
  | rebased h r ih => exact r.cops (Runs.table h ht) ih.phi
  | watched x y _ ih => exact ⟨ih.phi, ih.phiD, ih.cops⟩

/-- R34, as it is said of one record. -/
theorem Booked.keeps_driven {dl : Delivery} {seconds : Nat} {sp sp' : Spindle} (b : Booked dl seconds sp sp')
    (h : sp.state.code = 2 ∨ sp.state.code = 3 → dl.driving = true) (hd : sp'.state.code = 2 ∨ sp'.state.code = 3) :
    dl.driving = true :=
  (b.driven ((needsDrive_iff _).2 hd)).elim (fun k => h ((needsDrive_iff _).1 k)) id

theorem Runs.driven {s t : State} (h : Runs s t) (a : drivenSound s) : drivenSound t := by
  induction h with
  | refl => exact a
  | touch _ q f ih =>
    unfold drivenSound; rw [q.delivery]
    exact forall₂_forall_mem f ih fun _ _ b => b.keeps_driven
  | book n f k x y _ hn hb ih => exact forall_mem_modifyNth n f _ hn ih hb.keeps_driven
  | shiftOpened n _ _ ih =>
    intro sp hsp
    obtain ⟨x, hx, rfl⟩ := List.mem_map.1 hsp
    exact ih x hx
  | rebased _ r ih =>
    have hd := r.quiet.delivery
    dsimp only at hd
    unfold drivenSound; rw [hd]
    exact forall₂_forall_mem r.spindles ih fun _ _ b h => by rw [b.2]; exact h
  | watched x y _ ih => exact ih

end Sys2Proof.Machine

/-! # The break dispatcher, the orders and the locks: what their work does to a spindle -/

namespace Sys2Proof.Machine

open Sys2Proof

/-! ## Changes that leave every account alone -/

/-- Nothing but rails, drowse, lamps, lists, carriages, locks, planner, reports and the messages sent has changed. -/
def onlyAside (s t : State) : Prop :=
  ∃ u : State,
    t =
      { s with
        emitted := u.emitted, railA := u.railA, railB := u.railB, drowse := u.drowse, lamps := u.lamps, listA := u.listA
        listB := u.listB, car1 := u.car1, car2 := u.car2, carDiscards := u.carDiscards, locks := u.locks
        planner := u.planner, faults := u.faults, notices := u.notices }

theorem onlyAside.runs {s t : State} (h : onlyAside s t) : Runs s t := by
  obtain ⟨u, rfl⟩ := h
  exact Quiet.runs ⟨rfl, rfl, rfl, rfl, rfl, rfl, rfl, id⟩ rfl

theorem onlyPlanner.aside {s t : State} (h : onlyPlanner s t) : onlyAside s t := by
  obtain ⟨u, rfl⟩ := h; exact ⟨{ s with planner := u.planner, emitted := u.emitted }, rfl⟩

theorem onlyPlanner.runs {s t : State} (h : onlyPlanner s t) : Runs s t := h.aside.runs

theorem updCarriage_aside (r : RecordNo) (f : Carriage → Carriage) (s : State) : onlyAside s (updCarriage r f s) :=
  ⟨updCarriage r f s, by cases r <;> rfl⟩

theorem updRail_aside (side : Side) (f : Rail → Rail) (s : State) : onlyAside s (updRail side f s) :=
  ⟨updRail side f s, by cases side <;> rfl⟩

theorem updLock_aside (k : Nat) (f : Lock → Lock) (s : State) : onlyAside s (updLock k f s) := ⟨updLock k f s, rfl⟩

theorem updLamp_aside (k : Nat) (f : Lamp → Lamp) (s : State) : onlyAside s (updLamp k f s) := ⟨updLamp k f s, rfl⟩

theorem setPieceList_aside (side : Side) (l : List Entry) (s : State) : onlyAside s (setPieceList side l s) :=
  ⟨setPieceList side l s, by cases side <;> rfl⟩

theorem raiseNotice_aside (k : NoticeKind) (l : NoticeLevel) (x : Subject) (d : Detail) (s : State) :
    onlyAside s (raiseNotice k l x d s) := ⟨raiseNotice k l x d s, rfl⟩

theorem raiseFault_aside (c : FaultClass) (x : Subject) (d : Detail) (s : State) : onlyAside s (raiseFault c x d s) := by
  rw [raiseFault_eq]
  exact ⟨{ s with faults := (raiseFault c x d s).faults, notices := (raiseFault c x d s).notices }, rfl⟩

/-- The open shift changes but for its opening and its categories. -/
theorem shift_runs (sh : Shift) (s : State) (ho : sh.openSecond = s.shift.openSecond) (hc : sh.categories = s.shift.categories) :
    Runs s { s with shift := sh } :=
  Quiet.runs ⟨rfl, rfl, rfl, rfl, ho, hc, rfl, id⟩ rfl

theorem updPiecing_runs (f : PiecingCounts → PiecingCounts) (s : State) : Runs s (updPiecing f s) := shift_runs _ s rfl rfl

/-- The doff sequencer changes but for the start of the progress. -/
theorem updDoff_runs (f : Doff → Doff) (s : State) (h : (f s.doff).phiD = s.doff.phiD) : Runs s (updDoff f s) :=
  Quiet.runs ⟨rfl, rfl, rfl, rfl, rfl, rfl, h, id⟩ rfl

/-- The line changes but for its straps. -/
theorem updLine_runs (f : Line → Line) (s : State) (ha : (f s.line).address = s.line.address)
    (hs : (f s.line).speed = s.line.speed) : Runs s (updLine f s) :=
  Quiet.runs ⟨rfl, rfl, ha, hs, rfl, rfl, rfl, id⟩ rfl

/-- A fold runs where each of its steps runs. -/
theorem foldl_runs {α : Type} (f : State → α → State) (hf : ∀ s x, Runs s (f s x)) (l : List α) (s : State) :
    Runs s (l.foldl f s) := foldl_keeps Runs (fun _ => .refl) Runs.after f hf l s

/-! ## Settling and a change of state -/

theorem settleSpindle_runs (n : Nat) (s : State) : Runs s (settleSpindle n s) := by
  unfold settleSpindle; dsimp only; split
  · exact Runs.refl.book n _ _ _ _ ‹_› (Booked.settled _ _)
  · exact .refl

theorem settleEach_runs (ns : List Nat) (s : State) : Runs s (settleEach ns s) :=
  foldl_runs _ (fun t n => settleSpindle_runs n t) ns s

theorem settleAll_runs (s : State) : Runs s (settleAll s) := settleEach_runs _ _

/-- R34: a change of state keeps the accounts where it starts nothing that needs the drive without it. -/
theorem changeState_runs (n : Nat) (st : SpindleState) (s : State)
    (h : needsDrive st → needsDrive (spindle s n).state ∨ s.delivery.driving = true) : Runs s (changeState n st s) := by
  unfold changeState; dsimp only; split
  · exact (updLamp_aside _ _ _).runs.after (Runs.refl.book n _ _ _ _ ‹_› (Booked.changed _ _ _ h))
  · exact .refl

theorem enterState_runs (n : Nat) (st : SpindleState) (s : State)
    (h : needsDrive st → needsDrive (spindle s n).state ∨ s.delivery.driving = true) : Runs s (enterState n st s) :=
  (tellPlanner_onlyPlanner _ _).runs.after (changeState_runs n st s h)

/-! ## One spindle under the dispatcher's work -/

/-- What the dispatcher's work does to one record: its unlisted flag is cleared, or its order is issued (R44, R83). -/
inductive Spindle.Passes (dl : Delivery) (sp : Spindle) : Spindle → Prop where
  | refl : Passes dl sp sp
  | unmark {x : Spindle} : Passes dl sp x → Passes dl sp { x with unlisted := false }
  | ordered {x : Spindle} : Passes dl sp x → Passes dl sp (x.changed dl.driving dl.now dl.phi x.state.toPiecing)

namespace Spindle.Passes

variable {dl : Delivery} {sp x y : Spindle}

theorem trans (h : Passes dl sp x) (k : Passes dl x y) : Passes dl sp y := by
  induction k with
  | refl => exact h
  | unmark _ ih => exact ih.unmark
  | ordered _ ih => exact ih.ordered

/-- R44, R83: a state stands, but for BROKEN, which an order turns to PIECING. -/
theorem state (h : Passes dl sp x) :
    x.state = sp.state ∨ ∃ c t, sp.state = .broken c t ∧ x.state = .piecing c t := by
  induction h with
  | refl => exact .inl rfl
  | unmark _ ih => exact ih
  | ordered _ ih =>
    rw [changed_state]
    rcases ih with ih | ⟨c, t, hs, hx⟩
    · rw [ih]
      cases hs : sp.state
      case broken c t => exact .inr ⟨c, t, rfl, rfl⟩
      all_goals exact .inl rfl
    · exact .inr ⟨c, t, hs, by rw [hx]; rfl⟩

/-- A spindle that is BROKEN afterwards has had at most its unlisted flag cleared. -/
theorem eq_of_broken (h : Passes dl sp x) (hb : x.state.isBroken = true) : x = sp ∨ x = { sp with unlisted := false } := by
  induction h with
  | refl => exact .inl rfl
  | unmark _ ih => rcases ih hb with rfl | rfl <;> exact .inr rfl
  | @ordered x _ _ =>
    rw [changed_state] at hb
    cases hs : x.state <;> simp [hs, SpindleState.toPiecing, SpindleState.isBroken] at hb

theorem copAt (h : Passes dl sp x) : copAt dl.phi x = Machine.copAt dl.phi sp := by
  induction h with
  | refl => rfl
  | unmark _ ih => exact ih
  | ordered _ ih => rw [copAt_changed, ih]

end Spindle.Passes

theorem toPiecing_isRunning (st : SpindleState) : st.toPiecing.isRunning = st.isRunning := by cases st <;> rfl

theorem toPiecing_needsDrive {st : SpindleState} (h : needsDrive st.toPiecing) : needsDrive st := by
  cases st with
  | broken => exact h.elim
  | _ => exact h

/-! ## The whole frame under the dispatcher's work -/

/-- What the dispatcher's work is composed of: lists, locks, carriages, planner and piecing counts change; an unlisted flag is cleared;
an order puts in PIECING a spindle that `W` allows. -/
inductive Dispatches (W : Nat → Prop) (s : State) : State → Prop where
  | refl : Dispatches W s s
  | apart {t u : State} : Dispatches W s t → onlyTables t u → u.spindles = t.spindles →
      u.shift = { t.shift with piecing := u.shift.piecing } → Dispatches W s u
  | unmark {t : State} (n : Nat) : Dispatches W s t → Dispatches W s (updSpindle n (fun x => { x with unlisted := false }) t)
  | order {t : State} (n : Nat) : W n → Dispatches W s t → Dispatches W s (changeState n (spindle t n).state.toPiecing t)

/-- The dispatcher's work without a limit on the spindles it may order. -/
abbrev DispatchesAny : State → State → Prop := Dispatches fun _ => True

namespace Dispatches

variable {W : Nat → Prop} {s t u : State}

theorem after (k : Dispatches W t u) (h : Dispatches W s t) : Dispatches W s u := by
  induction k with
  | refl => exact h
  | apart _ a b c ih => exact ih.apart a b c
  | unmark n _ ih => exact ih.unmark n
  | order n hn _ ih => exact ih.order n hn

theorem any (h : Dispatches W s t) : DispatchesAny s t := by
  induction h with
  | refl => exact .refl
  | apart _ a b c ih => exact ih.apart a b c
  | unmark n _ ih => exact ih.unmark n
  | order n _ _ ih => exact ih.order n trivial

theorem tables (h : Dispatches W s t) : onlyTables s t := by
  induction h with
  | refl => exact .refl s
  | apart _ a _ _ ih => exact a.after ih
  | unmark n _ ih => exact (updSpindle_onlyTables n _ _).after ih
  | order n _ _ ih => exact (changeState_onlyTables n _ _).after ih

theorem delivery (h : Dispatches W s t) : t.delivery = s.delivery := by obtain ⟨_, rfl⟩ := h.tables; rfl

theorem settings (h : Dispatches W s t) : t.settings = s.settings := by obtain ⟨_, rfl⟩ := h.tables; rfl

theorem doff (h : Dispatches W s t) : t.doff = s.doff := by obtain ⟨_, rfl⟩ := h.tables; rfl

theorem runs (h : Dispatches W s t) : Runs s t := by
  induction h with
  | refl => exact .refl
  | @apart t u _ a b c ih =>
    obtain ⟨x, hx⟩ := a
    refine ih.trans (Quiet.runs ?_ b)
    have ho : u.shift.openSecond = t.shift.openSecond := by rw [c]
    have hc : u.shift.categories = t.shift.categories := by rw [c]
    subst hx
    exact ⟨rfl, rfl, rfl, rfl, ho, hc, rfl, id⟩
  | unmark n _ ih => exact ih.trans (updSpindle_runs n _ _ fun _ => Booked.of_same rfl rfl rfl (Nat.le_refl _))
  | order n _ _ ih => exact ih.trans (changeState_runs n _ _ fun h => .inl (toPiecing_needsDrive h))

/-- What the dispatcher's work does to every record. -/
theorem passes (h : Dispatches W s t) (m : Nat) : (spindle s m).Passes s.delivery (spindle t m) := by
  induction h with
  | refl => exact .refl
  | apart _ _ b _ ih => simpa only [spindle, b] using ih
  | @unmark t n _ ih =>
    rw [spindle_updSpindle]; split
    · exact ih.unmark
    · exact ih
  | @order t n _ h ih =>
    rw [spindle_changeState]; split
    · rename_i hm; rw [h.delivery, ← hm.1]; exact ih.ordered
    · exact ih

/-- A spindle that may not be ordered has had at most its unlisted flag cleared. -/
theorem spindle_of_not (h : Dispatches W s t) {m : Nat} (hm : ¬ W m) :
    spindle t m = spindle s m ∨ spindle t m = { spindle s m with unlisted := false } := by
  induction h with
  | refl => exact .inl rfl
  | apart _ _ b _ ih => simpa only [spindle, b] using ih
  | @unmark t n _ ih =>
    rw [spindle_updSpindle]; split
    · rcases ih with ih | ih <;> exact .inr (by rw [ih])
    · exact ih
  | @order t n hn _ ih =>
    rw [spindle_changeState_other n m _ t (by rintro rfl; exact hm hn)]; exact ih

end Dispatches

end Sys2Proof.Machine

/-! # The operations of the dispatcher and of the locks, each as the dispatcher's work -/

namespace Sys2Proof.Machine

open Sys2Proof

section
variable {W : Nat → Prop}

theorem onlyPlanner.dispatches {s t : State} (h : onlyPlanner s t) : Dispatches W s t := by
  obtain ⟨u, rfl⟩ := h
  exact Dispatches.refl.apart ⟨{ s with planner := u.planner, emitted := u.emitted }, rfl⟩ rfl rfl

theorem updLock_dispatches (k : Nat) (f : Lock → Lock) (s : State) : Dispatches W s (updLock k f s) :=
  Dispatches.refl.apart (updLock_onlyTables k f s) rfl rfl

theorem updCarriage_dispatches (r : RecordNo) (f : Carriage → Carriage) (s : State) : Dispatches W s (updCarriage r f s) :=
  Dispatches.refl.apart (updCarriage_onlyTables r f s) (updCarriage_spindles r f s) (by rw [updCarriage_shift])

theorem setPieceList_dispatches (side : Side) (l : List Entry) (s : State) : Dispatches W s (setPieceList side l s) :=
  Dispatches.refl.apart (setPieceList_onlyTables side l s) (setPieceList_spindles side l s) (by rw [setPieceList_shift])

theorem countIssued_dispatches (s : State) : Dispatches W s (countIssued s) :=
  Dispatches.refl.apart (countIssued_onlyTables s) rfl rfl

theorem unmark_dispatches (n : Nat) (s : State) : Dispatches W s (updSpindle n (fun x => { x with unlisted := false }) s) :=
  Dispatches.refl.unmark n

theorem makeEntry_dispatches (n : Nat) (urgent : Bool) (s : State) : Dispatches W s (makeEntry n urgent s) := by
  unfold makeEntry; split
  · exact (setPieceList_dispatches _ _ _).after (unmark_dispatches n s)
  · exact .refl

theorem dropFromList_dispatches (n : Nat) (s : State) : Dispatches W s (dropFromList n s) :=
  (setPieceList_dispatches _ _ _).after (unmark_dispatches n s)

theorem refillUpTo_dispatches : ∀ (fuel : Nat) (side : Side) (s : State), Dispatches W s (refillUpTo fuel side s)
  | 0, _, _ => .refl
  | k + 1, side, s => by
    unfold refillUpTo; split
    · exact .refl
    · split
      · exact (refillUpTo_dispatches k side _).after (makeEntry_dispatches _ _ _)
      · exact .refl

theorem refill_dispatches (side : Side) (s : State) : Dispatches W s (refill side s) := refillUpTo_dispatches _ _ _

theorem issueOrder_dispatches (r : RecordNo) (e : Entry) (carried : Bool) (s : State) (h : W e.spindle) :
    Dispatches W s (issueOrder r e carried s) := by
  unfold issueOrder; dsimp only
  exact
    (countIssued_dispatches _).after <|
      (updCarriage_dispatches _ _ _).after <|
        (tellPlanner_onlyPlanner _ _).dispatches.after <|
          (Dispatches.refl.order e.spindle h).after <|
            (refill_dispatches _ _).after <|
              (dropFromList_dispatches _ _).after <| (emit_onlyPlanner _ _).dispatches.after (updLock_dispatches _ _ _)

/-! ### What is chosen stood in the list -/

theorem pick_mem {α : Type} {better : α → α → Bool} : ∀ {l : List α} {x : α}, pick better l = some x → x ∈ l
  | y :: rest, x, h => by
    unfold pick at h
    split at h
    · simp_all
    · rename_i z hz
      have := pick_mem hz
      split at h <;> simp_all

theorem pick_filter_mem {better : Entry → Entry → Bool} {p : Entry → Bool} {l : List Entry} {x : Entry}
    (h : pick better (l.filter p) = some x) : x ∈ l := List.mem_of_mem_filter (pick_mem h)

/-- R82: the entry chosen is one of the candidates. -/
theorem chooseEntry_mem {now ageLimit position : Nat} {direction : Direction} {l : List Entry} {e : Entry}
    (h : chooseEntry now ageLimit position direction l = some e) : e ∈ l := by
  unfold chooseEntry at h
  dsimp only at h
  obtain ⟨o, ho, he⟩ := List.exists_of_findSome?_eq_some h
  subst he
  simp only [List.mem_cons, List.not_mem_nil, or_false] at ho
  cases direction <;> rcases ho with ho | ho | ho | ho <;> exact pick_filter_mem ho.symm

theorem dispatchAmong_dispatches (allowed : Entry → Bool) (carried : Bool) (r : RecordNo) (s : State)
    (h : ∀ side, (carriage s r).link.side? = some side → ∀ e ∈ pieceList s side, W e.spindle) :
    Dispatches W s (dispatchAmong allowed carried r s) := by
  unfold dispatchAmong; split
  · rename_i st side _ _ hl
    split
    · split
      · rename_i e he
        exact issueOrder_dispatches _ _ _ _ (h side (by rw [hl]; rfl) e (List.mem_of_mem_filter (chooseEntry_mem he)))
      · exact .refl
    · exact .refl
  · exact .refl

theorem side_of_recordOfSide {s : State} {side : Side} {r : RecordNo} (h : recordOfSide s side = some r) :
    (carriage s r).link.side? = some side := by
  unfold recordOfSide at h
  split at h
  · cases h; assumption
  · split at h
    · cases h; assumption
    · cases h

/-- R81: an order for the carriage of a side goes to a spindle that has an entry there. -/
theorem attemptSide_dispatches (side : Side) (s : State) (h : ∀ e ∈ pieceList s side, W e.spindle) :
    Dispatches W s (attemptSide side s) := by
  unfold attemptSide; split
  · exact .refl
  · rename_i r hr
    refine dispatchAmong_dispatches _ _ _ _ fun x hx => ?_
    rw [side_of_recordOfSide hr] at hx
    cases hx; exact h

end

theorem dispatch_any (r : RecordNo) (s : State) : DispatchesAny s (dispatch r s) :=
  dispatchAmong_dispatches _ _ _ _ fun _ _ _ _ => trivial

theorem dispatchCarried_any (k : Nat) (r : RecordNo) (s : State) : DispatchesAny s (dispatchCarried k r s) :=
  dispatchAmong_dispatches _ _ _ _ fun _ _ _ _ => trivial

theorem attemptSide_any (side : Side) (s : State) : DispatchesAny s (attemptSide side s) :=
  attemptSide_dispatches side s fun _ _ => trivial

theorem attemptBoth_any (s : State) : DispatchesAny s (attemptBoth s) := (attemptSide_any _ _).after (attemptSide_any _ _)

theorem refillAndAttempt_any (side : Side) (s : State) : DispatchesAny s (refillAndAttempt side s) := by
  refine Dispatches.after ?_ (refill_dispatches side s)
  show DispatchesAny _ (if _ then _ else _)
  split
  · exact attemptSide_any _ _
  · exact .refl

theorem attemptIfListed_any (n : Nat) (s : State) : DispatchesAny s (attemptIfListed n s) := by
  unfold attemptIfListed; split
  · exact attemptSide_any _ _
  · exact .refl

theorem releaseLock_any (k : Nat) (s : State) : DispatchesAny s (releaseLock k s) := by
  unfold releaseLock; split
  · exact (plannerGranted_onlyPlanner _).dispatches.after (updLock_dispatches _ _ _)
  · exact (attemptSide_any _ _).after (updLock_dispatches _ _ _)
  · exact .refl

theorem endClaim_any (k : Nat) (s : State) : DispatchesAny s (endClaim k s) := by
  unfold endClaim; split
  · exact (attemptSide_any _ _).after (updLock_dispatches _ _ _)
  · exact updLock_dispatches _ _ _
  · exact .refl

theorem endClaimOfChange_any (s : State) : DispatchesAny s (endClaimOfChange s) := by
  unfold endClaimOfChange; split
  · exact endClaim_any _ _
  · exact endClaim_any _ _
  · exact .refl

theorem claimSector_any (c : ActiveChange) (s : State) : DispatchesAny s (claimSector c s) := by
  unfold claimSector; dsimp only; split
  · exact (plannerGranted_onlyPlanner _).dispatches.after (updLock_dispatches _ _ _)
  · exact (plannerGranted_onlyPlanner _).dispatches
  · exact (updPlanner_onlyPlanner _ _).dispatches.after (updLock_dispatches _ _ _)
  · exact (updPlanner_onlyPlanner _ _).dispatches

theorem resumeRecord_any (r : RecordNo) (s : State) : DispatchesAny s (resumeRecord r s) := by
  unfold resumeRecord; split
  · exact (updCarriage_dispatches _ _ _).after (emit_onlyPlanner _ _).dispatches
  · exact .refl

theorem leaveSuspect_any (r : RecordNo) (s : State) : DispatchesAny s (leaveSuspect r s) := by
  unfold leaveSuspect; split
  · exact (dispatch_any _ _).after (updCarriage_dispatches _ _ _)
  · exact .refl

end Sys2Proof.Machine

/-! # The shared operations, each composed of what `Runs` allows -/

namespace Sys2Proof.Machine

open Sys2Proof

/-! ## The spindle table and the break dispatcher (chapters 2 and 3) -/

/-- R34: SETTLING is entered only while drive running is asserted, and IDLE takes its place otherwise. -/
theorem driving_of_settlingOrIdle {s : State} {o : SettleOrigin} (h : needsDrive (settlingOrIdle s o)) :
    s.delivery.driving = true := by
  unfold settlingOrIdle at h; split at h
  · assumption
  · exact h.elim

/-- A record changed in mark, state and pulses by nothing. -/
theorem updSpindle_same_runs (n : Nat) (f : Spindle → Spindle) (s : State)
    (h : ∀ sp, (f sp).secondsMark = sp.secondsMark ∧ (f sp).state = sp.state ∧ (f sp).pulseMark = sp.pulseMark ∧
      (f sp).copPulses = sp.copPulses) : Runs s (updSpindle n f s) :=
  updSpindle_runs n f s fun _ => by
    obtain ⟨hm, hs, hp, hc⟩ := h (spindle s n)
    exact .of_same hm hs hp (Nat.le_of_eq hc)

theorem listSpindle_runs (n : Nat) (s : State) : Runs s (listSpindle n s) := by
  unfold listSpindle; dsimp only; split
  · exact (makeEntry_dispatches (W := fun _ => True) _ _ _).runs
  · have h : Runs s (updSpindle n (fun x => { x with unlisted := true }) s) :=
      updSpindle_same_runs n _ s fun _ => ⟨rfl, rfl, rfl, rfl⟩
    split
    · exact (raiseFault_aside _ _ _ _).runs.after h
    · exact h

theorem enlist_runs (n : Nat) (check : LockCheck) (s : State) : Runs s (enlist n check s) := by
  unfold enlist; split
  · exact (tellPlanner_onlyPlanner _ _).runs.after
      ((raiseNotice_aside _ _ _ _ _).runs.after (changeState_runs n _ s fun h => h.elim))
  · exact (tellPlanner_onlyPlanner _ _).runs.after (listSpindle_runs n s)

theorem takeIn_runs (n : Nat) (check : LockCheck) (s : State) : Runs s (takeIn n check s) :=
  (attemptIfListed_any _ _).runs.after (enlist_runs n check s)

theorem countBreak_runs (n : Nat) (c : BreakCause) (s : State) : Runs s (countBreak n c s) := by
  have h : Runs s { s with shift := { s.shift with breaks := s.shift.breaks.bump c } } := shift_runs _ s rfl rfl
  unfold countBreak; dsimp only; split
  · exact Runs.after (updSpindle_same_runs n _ _ fun _ => ⟨rfl, rfl, rfl, rfl⟩) h
  · exact h

theorem breakSpindle_runs (n : Nat) (c : BreakCause) (s : State) : Runs s (breakSpindle n c s) := by
  unfold breakSpindle; split
  · exact (expedite_onlyPlanner _ _).runs.after
      ((countBreak_runs _ _ _).after (enterState_runs n _ s fun h => h.elim))
  · exact (enlist_runs _ _ _).after ((countBreak_runs _ _ _).after (changeState_runs n _ s fun h => h.elim))

theorem confirmBreak_runs (n : Nat) (c : BreakCause) (s : State) : Runs s (confirmBreak n c s) :=
  (attemptIfListed_any _ _).runs.after (breakSpindle_runs n c s)

theorem leaveBroken_runs (n : Nat) (st : SpindleState) (s : State) (h : needsDrive st → s.delivery.driving = true) :
    Runs s (leaveBroken n st s) := by
  have hd := dropFromList_dispatches (W := fun _ => True) n s
  exact (enterState_runs n st _ fun k => .inr (hd.delivery ▸ h k)).after hd.runs

theorem leaveList_runs (n : Nat) (st : SpindleState) (s : State) (h : needsDrive st → s.delivery.driving = true) :
    Runs s (leaveList n st s) := (refillAndAttempt_any _ _).runs.after (leaveBroken_runs n st s h)

theorem returnToBroken_runs (n : Nat) (check : LockCheck) (s : State) : Runs s (returnToBroken n check s) := by
  unfold returnToBroken; split
  · split
    · exact enterState_runs n _ s fun h => h.elim
    · exact (takeIn_runs _ _ _).after (changeState_runs n _ s fun h => h.elim)
  · exact .refl

theorem pieceDone_runs (n : Nat) (s : State) : Runs s (pieceDone n s) := by
  unfold pieceDone; split
  · split
    · exact enterState_runs n _ s fun h => h.elim
    · exact enterState_runs n _ s fun h => .inr (driving_of_settlingOrIdle h)
  · exact .refl

/-! ## Accepted reports and the heads (chapter 2) -/

theorem countHandPieced_runs (s : State) : Runs s (countHandPieced s) := shift_runs _ s rfl rfl

theorem actOnStreak_runs (n : Nat) (s : State) : Runs s (actOnStreak n s) := by
  unfold actOnStreak; dsimp only; split
  · rename_i h
    split
    · exact enterState_runs n _ s fun _ => .inl (by rw [h]; trivial)
    · exact .refl
  · split
    · exact breakSpindle_runs _ _ _
    · exact .refl
  · split
    · exact (leaveBroken_runs n _ _ fun h => driving_of_settlingOrIdle h).after (countHandPieced_runs s)
    · exact .refl
  · split
    · exact (enterState_runs n _ (countHandPieced s) fun h => .inr (driving_of_settlingOrIdle h)).after (countHandPieced_runs s)
    · exact .refl
  · exact .refl

theorem streak_runs (n : Nat) (f : Nat → Nat) (s : State) :
    Runs s (updSpindle n (fun sp => { sp with streak := f sp.streak }) s) :=
  updSpindle_same_runs n _ s fun _ => ⟨rfl, rfl, rfl, rfl⟩

theorem reportSpindle_runs (n : Nat) (present : Bool) (s : State) : Runs s (reportSpindle n present s) := by
  unfold reportSpindle; split
  · exact .refl
  · split
    · exact (actOnStreak_runs _ _).after (streak_runs n (fun k => satAdd Config.topStreak k 1) s)
    · exact streak_runs n (fun _ => 0) s

theorem acceptReport_runs (k : Nat) (present : PresenceFlags) (s : State) : Runs s (acceptReport k present s) := by
  have h : Runs s (refill (sideOfSector s k) (reportEach k present s)) :=
    (refill_dispatches (W := fun _ => True) _ _).runs.after (foldl_runs _ (fun t n => reportSpindle_runs n _ t) _ s)
  unfold acceptReport; dsimp only; split
  · exact (attemptSide_any _ _).runs.after h
  · exact h

theorem updHead_aside (side : Side) (h : Nat) (f : Head → Head) (s : State) : onlyAside s (updHead side h f s) :=
  updRail_aside _ _ _

theorem missPoll_runs (side : Side) (h : Nat) (s : State) : Runs s (missPoll side h s) := by
  have h1 : Runs s (updHead side h Head.missed (countMiss side s)) :=
    (updHead_aside _ _ _ _).runs.after (updRail_aside _ _ _).runs
  unfold missPoll; dsimp only; split
  · exact (raiseFault_aside _ _ _ _).runs.after ((updHead_aside _ _ _ _).runs.after h1)
  · exact h1

/-- R26: renewing a settle start keeps a SETTLING spindle SETTLING. -/
theorem sensed_booked (dl : Delivery) (sp : Spindle) (now : Nat) : Booked dl 0 sp (sp.sensed now) := by
  have hr : (sp.sensed now).state.isRunning = sp.state.isRunning := by
    simp only [Spindle.sensed]; cases sp.state <;> rfl
  refine ⟨id, fun _ => rfl, ?_, fun h => .inl ?_⟩
  · simp only [copAt, owedPulses, hr]; exact Nat.le_refl _
  · revert h; simp only [Spindle.sensed]; cases sp.state <;> exact id

theorem activateHead_runs (side : Side) (h : Nat) (s : State) : Runs s (activateHead side h s) := by
  have h2 : Runs s _ :=
    (foldl_runs (fun acc n => updSpindle n (fun sp => sp.sensed s.delivery.now) acc)
      (fun t n => updSpindle_runs n _ t fun _ => sensed_booked _ _ _) (spindlesOfSector (sectorOfHead s side h)) _).after
      (updHead_aside side h (fun x => { x with state := .active, returnMark := false }) s).runs
  unfold activateHead; dsimp only; split
  · exact (raiseNotice_aside _ _ _ _ _).runs.after h2
  · exact h2

theorem discardReport_runs (side : Side) (h k : Nat) (s : State) : Runs s (discardReport side h k s) := by
  unfold discardReport; split
  · exact activateHead_runs _ _ _
  · exact (updHead_aside _ _ _ _).runs

theorem validAnswer_runs (side : Side) (h : Nat) (present : PresenceFlags) (s : State) :
    Runs s (validAnswer side h present s) := by
  have h1 : Runs s (updHead side h (fun x => { x with misses := 0 }) s) := (updHead_aside _ _ _ _).runs
  unfold validAnswer; dsimp only; split
  · exact (acceptReport_runs _ _ _).after h1
  · exact (discardReport_runs _ _ _ _).after h1
  · exact (updHead_aside _ _ _ _).runs.after h1
  · exact .refl

theorem finishPoll_runs (side : Side) (act : Nat → State → State) (hact : ∀ h s, Runs s (act h s)) (s : State) :
    Runs s (finishPoll side act s) := by
  unfold finishPoll; split
  · exact .refl
  · exact (hact _ _).after (updRail_aside _ _ _).runs

theorem pollHead_runs (side : Side) (s : State) : Runs s (pollHead side s) := by
  unfold pollHead; dsimp only; split
  · exact (updRail_aside _ _ _).runs.after (emit_onlyPlanner _ _).runs
  · exact .refl

theorem sleepPoll_runs (side : Side) (s : State) : Runs s (sleepPoll side s) := by
  unfold sleepPoll; dsimp only; split
  · exact (updRail_aside _ _ _).runs.after (emit_onlyPlanner _ _).runs
  · exact .refl

theorem takeDrowse_runs (s : State) : Runs s (takeDrowse s) := onlyAside.runs ⟨takeDrowse s, rfl⟩

theorem drowseExpiry_runs (s : State) : Runs s (drowseExpiry s) := by
  unfold drowseExpiry; split
  · split
    · exact onlyAside.runs ⟨{ s with drowse := { s.drowse with timer := none, deferred := true } }, rfl⟩
    · exact takeDrowse_runs s
  · exact .refl

theorem settleLimit_runs (n : Nat) (s : State) : Runs s (settleLimit n s) := by
  unfold settleLimit; split
  · split
    · exact confirmBreak_runs _ _ _
    · exact .refl
  · exact .refl

theorem lampExpiry_runs (k : Nat) (s : State) : Runs s (lampExpiry k s) := by
  unfold lampExpiry; split
  · exact (updLamp_aside _ _ _).runs
  · exact .refl

/-! ## Roving changes (chapter 6) -/

theorem releaseFromRoving_runs (n : Nat) (s : State) : Runs s (releaseFromRoving n s) := by
  unfold releaseFromRoving; split
  · exact (takeIn_runs _ _ _).after (changeState_runs n _ s fun h => h.elim)
  · rename_i h; exact enterState_runs n _ s fun _ => .inl (by rw [h]; trivial)
  · exact .refl

theorem countChange_runs (k : Nat) (s : State) : Runs s (countChange k s) := shift_runs _ s rfl rfl

theorem renewGroup_runs (g : Nat) (s : State) : Runs s (renewGroup g s) := by
  unfold renewGroup; dsimp only
  exact
    (countChange_runs _ _).after <|
      (foldl_runs _ (fun t n => releaseFromRoving_runs n t) _ _).after <|
        (foldl_runs _ (fun t n => updSpindle_same_runs n Spindle.renewed t fun _ => ⟨rfl, rfl, rfl, rfl⟩) _ _).after (settleEach_runs _ _)

theorem completeChange_runs (c : ActiveChange) (s : State) : Runs s (completeChange c s) := by
  unfold completeChange; dsimp only
  exact
    (callTest_onlyPlanner _).runs.after <|
      (raiseNotice_aside _ _ _ _ _).runs.after <|
        (evaluateGroup_onlyPlanner _ _).runs.after <|
          (updPlanner_onlyPlanner _ _).runs.after <| (endClaimOfChange_any _).runs.after (renewGroup_runs _ _)

theorem honourLate_runs (g : Nat) (s : State) : Runs s (honourLate g s) := by
  unfold honourLate; dsimp only
  exact
    (updPlanner_onlyPlanner _ _).runs.after <|
      (raiseNotice_aside _ _ _ _ _).runs.after <|
        (evaluateGroup_onlyPlanner _ _).runs.after <| (renewGroup_runs _ _).after (removeCall_onlyPlanner _ _).runs

theorem discardTransport_onlyPlanner (s : State) : onlyPlanner s (discardTransport s) := updPlanner_onlyPlanner _ _

theorem relist_onlyPlanner (c : ActiveChange) (b : Bool) (s : State) : onlyPlanner s (relist c b s) := by
  unfold relist; dsimp only; split
  · exact updPlanner_onlyPlanner _ _
  · exact updPlanner_onlyPlanner _ _

theorem waitExpiry_runs (k : Nat) (s : State) : Runs s (waitExpiry k s) := by
  unfold waitExpiry; split
  · split
    · exact (updLock_aside _ _ _).runs
    · exact .refl
  · exact .refl

theorem takeAccept_runs (tag : Nat) (s : State) : Runs s (takeAccept tag s) := by
  unfold takeAccept; split
  · split
    · split
      · exact .refl
      · exact (updPlanner_onlyPlanner _ _).runs
    · exact (discardTransport_onlyPlanner _).runs
  · exact (discardTransport_onlyPlanner _).runs

theorem takeDecline_runs (tag : Nat) (s : State) : Runs s (takeDecline tag s) := by
  unfold takeDecline; split
  · split
    · exact (updPlanner_onlyPlanner _ _).runs.after (relist_onlyPlanner _ _ _).runs
    · exact (discardTransport_onlyPlanner _).runs
  · exact (discardTransport_onlyPlanner _).runs

theorem standAtSector_runs (s : State) : Runs s (standAtSector s) := by
  unfold standAtSector; split
  · exact (claimSector_any _ _).runs.after (updPlanner_onlyPlanner _ _).runs
  · exact (claimSector_any _ _).runs
  · exact (claimSector_any _ _).runs
  · exact .refl

theorem takeAtSector_runs (tag : Nat) (s : State) : Runs s (takeAtSector tag s) := by
  unfold takeAtSector; split
  · exact standAtSector_runs s
  · exact (discardTransport_onlyPlanner _).runs

theorem takeChanged_runs (tag : Nat) (s : State) : Runs s (takeChanged tag s) := by
  unfold takeChanged; split
  · exact completeChange_runs _ _
  · split
    · exact honourLate_runs _ _
    · exact (discardTransport_onlyPlanner _).runs

theorem takeAborted_runs (tag : Nat) (s : State) : Runs s (takeAborted tag s) := by
  unfold takeAborted; split
  · exact (callTest_onlyPlanner _).runs.after ((relist_onlyPlanner _ _ _).runs.after (endClaimOfChange_any _).runs)
  · exact (discardTransport_onlyPlanner _).runs

theorem transportExpiry_runs (s : State) : Runs s (transportExpiry s) := by
  unfold transportExpiry; split
  · split
    · exact
        (callTest_onlyPlanner _).runs.after <|
          (relist_onlyPlanner _ _ _).runs.after <|
            (updPlanner_onlyPlanner _ _).runs.after <|
              (endClaimOfChange_any _).runs.after <| (emit_onlyPlanner _ _).runs.after (raiseFault_aside _ _ _ _).runs
    · exact .refl
  · exact .refl

theorem backOffExpiry_runs (s : State) : Runs s (backOffExpiry s) := by
  unfold backOffExpiry; split
  · exact (callTest_onlyPlanner _).runs.after (updPlanner_onlyPlanner _ _).runs
  · exact .refl

/-! ## The doff called and the carriages parked (chapters 4 and 7) -/

theorem testDrowse_runs (s : State) : Runs s (testDrowse s) := by
  unfold testDrowse; split
  · exact takeDrowse_runs s
  · exact .refl

theorem enterPhase_runs (ph : DoffPhase) (s : State) : Runs s (enterPhase ph s) := by
  have h : Runs s (testDrowse (updDoff (fun d => d.toPhase ph) s)) := (testDrowse_runs _).after (updDoff_runs _ s rfl)
  unfold enterPhase; dsimp only; split
  · exact (attemptBoth_any _).runs.after h
  · exact h

theorem enterDoffing_runs (call : CallInfo) (s : State) : Runs s (enterDoffing call s) := by
  unfold enterDoffing; dsimp only
  exact (enterPhase_runs _ _).after (updDoff_runs _ s rfl)

theorem testClear_runs (s : State) : Runs s (testClear s) := by
  unfold testClear; split
  · split
    · exact enterDoffing_runs _ _
    · exact .refl
  · exact .refl

theorem parkRecord_dispatches (r : RecordNo) (s : State) : DispatchesAny s (parkRecord r s) := by
  unfold parkRecord; split
  · split
    · exact (updCarriage_dispatches _ _ _).after (emit_onlyPlanner _ _).dispatches
    · exact .refl
  · exact .refl

theorem enterParking_runs (call : CallInfo) (s : State) : Runs s (enterParking call s) :=
  (testClear_runs _).after <|
    (parkRecord_dispatches _ _).runs.after <| (parkRecord_dispatches _ _).runs.after (enterPhase_runs _ s)

theorem enterCalled_runs (early forced : Bool) (s : State) : Runs s (enterCalled early forced s) := by
  have h := updDoff_runs (fun d => { d with hold := false, overdue := false }) s rfl
  unfold enterCalled; dsimp only; split
  · exact (enterPhase_runs _ _).after h
  · exact (enterParking_runs _ _).after ((enterPhase_runs _ _).after h)

theorem forceDoff_runs (s : State) : Runs s (forceDoff s) :=
  (raiseNotice_aside _ _ _ _ _).runs.after ((enterCalled_runs _ _ _).after (updDoff_runs _ s rfl))

theorem toPhase_runs (ph : DoffPhase) (s : State) : Runs s (toPhase ph s) := by
  unfold toPhase; split
  · exact .refl
  · exact enterPhase_runs _ _

theorem applyTable_runs (s : State) : Runs s (applyTable s) := by
  unfold applyTable; dsimp only; split
  · exact forceDoff_runs s
  · split
    · split
      · exact (toPhase_runs _ _).after (updDoff_runs _ s rfl)
      · exact enterCalled_runs _ _ _
    · split
      · exact toPhase_runs _ _
      · exact (toPhase_runs _ _).after (updDoff_runs _ s rfl)

theorem followProgress_runs (s : State) : Runs s (followProgress s) := by
  unfold followProgress; split
  · exact applyTable_runs s
  · exact applyTable_runs s
  · exact .refl

theorem testWindow_runs (s : State) : Runs s (testWindow s) := by
  unfold testWindow; split
  · split
    · exact applyTable_runs s
    · exact .refl
  · exact .refl

theorem doffPoints_runs (s : State) : Runs s (doffPoints s) := by
  unfold doffPoints; split
  · exact testWindow_runs s
  · exact followProgress_runs s

/-! ## Carriages (chapter 4) -/

theorem signOfLife_aside (r : RecordNo) (s : State) : onlyAside s (signOfLife r s) := updCarriage_aside _ _ _

theorem updCounters_aside (r : RecordNo) (f : CarriageCounters → CarriageCounters) (s : State) :
    onlyAside s (updCounters r f s) := updCarriage_aside _ _ _

theorem discardCarriage_aside (s : State) : onlyAside s (discardCarriage s) := ⟨discardCarriage s, rfl⟩

theorem heard_runs (station : Nat) (s : State) : Runs s (heard station s) := by
  unfold heard; split
  · exact .refl
  · exact (signOfLife_aside _ _).runs

theorem dropOrder_runs (o : Option Order) (s : State) : Runs s (dropOrder o s) := by
  unfold dropOrder; split
  · exact .refl
  · exact (releaseLock_any _ _).runs.after (returnToBroken_runs _ _ _)

theorem makeAbsent_runs (r : RecordNo) (lost : Bool) (s : State) : Runs s (makeAbsent r lost s) := by
  unfold makeAbsent; dsimp only
  refine (testClear_runs _).after ((dropOrder_runs _ _).after ?_)
  split
  · split
    · exact (raiseFault_aside _ _ _ _).runs.after (updCarriage_aside _ _ _).runs
    · exact (updCarriage_aside _ _ _).runs
  · exact (updCarriage_aside _ _ _).runs

theorem rejectEnrolment_runs (r : RecordNo) (st : Station) (side : Side) (reason : RefuseReason) (s : State) :
    Runs s (rejectEnrolment r st side reason s) := by
  unfold rejectEnrolment; dsimp only
  exact
    (testClear_runs _).after <|
      (raiseFault_aside _ _ _ _).runs.after <|
        (signOfLife_aside _ _).runs.after <| (updCarriage_aside _ _ _).runs.after (emit_onlyPlanner _ _).runs

theorem acceptEnrolment_runs (r : RecordNo) (st : Station) (side : Side) (w : CarriageWork) (s : State) :
    Runs s (acceptEnrolment r st side w s) := by
  unfold acceptEnrolment; dsimp only
  refine (testClear_runs _).after <| (dispatch_any _ _).runs.after <| (raiseNotice_aside _ _ _ _ _).runs.after <|
    (signOfLife_aside _ _).runs.after <| (updCarriage_aside _ _ _).runs.after ?_
  split
  · exact (emit_onlyPlanner _ _).runs
  · exact ((emit_onlyPlanner _ _).after (emit_onlyPlanner _ _)).runs

theorem enrol_runs (r : RecordNo) (st : Station) (side : Side) (s : State) : Runs s (enrol r st side s) := by
  unfold enrol
  split
  · exact rejectEnrolment_runs _ _ _ _ _
  · split
    · exact rejectEnrolment_runs _ _ _ _ _
    · split
      · exact rejectEnrolment_runs _ _ _ _ _
      · split
        · exact (updCarriage_aside _ _ _).runs.after (emit_onlyPlanner _ _).runs
        all_goals exact acceptEnrolment_runs _ _ _ _ _

theorem noRoom_runs (st : Station) (side : Side) (s : State) : Runs s (noRoom st side s) :=
  (raiseFault_aside _ _ _ _).runs.after (emit_onlyPlanner _ _).runs

theorem enrolStation_runs (st : Station) (side : Side) (s : State) : Runs s (enrolStation st side s) := by
  unfold enrolStation; split
  · split
    · exact (enrol_runs _ _ _ _).after (makeAbsent_runs _ _ _)
    · exact enrol_runs _ _ _ _
  · split
    · exact enrol_runs _ _ _ _
    · exact noRoom_runs _ _ _

theorem completeOrder_runs (r : RecordNo) (o : Order) (s : State) : Runs s (completeOrder r o s) := by
  unfold completeOrder; dsimp only
  refine (testClear_runs _).after ?_
  generalize (if o.parkPending then CarriageWork.parking else .ready) = w
  split
  · exact (dispatchCarried_any _ _ _).runs.after (updCarriage_aside _ _ _).runs
  · exact (dispatch_any _ _).runs.after ((releaseLock_any _ _).runs.after (updCarriage_aside _ _ _).runs)

theorem tried_runs (n : Nat) (failed : Bool) (s : State) : Runs s (updSpindle n (fun x => x.tried failed) s) :=
  updSpindle_same_runs n _ s fun _ => ⟨rfl, rfl, rfl, rfl⟩

theorem settleOutcome_runs (r : RecordNo) (o : Order) (x : OrderOutcome) (s : State) : Runs s (settleOutcome r o x s) := by
  unfold settleOutcome
  cases x with
  | pieced =>
    exact (updPiecing_runs _ _).after <| (updCounters_aside _ _ _).runs.after <|
      (pieceDone_runs _ _).after (tried_runs _ _ _)
  | failed =>
    exact (updPiecing_runs _ _).after <| (updCounters_aside _ _ _).runs.after <|
      (returnToBroken_runs _ _ _).after (tried_runs _ _ _)
  | notReached => exact (updPiecing_runs _ _).after <| (updCounters_aside _ _ _).runs.after (returnToBroken_runs _ _ _)
  | cancelled => exact (updPiecing_runs _ _).after (returnToBroken_runs _ _ _)

theorem handleResult_runs (r : RecordNo) (o : Order) (x : OrderOutcome) (s : State) : Runs s (handleResult r o x s) :=
  (completeOrder_runs _ _ _).after (settleOutcome_runs _ _ _ _)

theorem reachPark_runs (r : RecordNo) (s : State) : Runs s (reachPark r s) :=
  (testClear_runs _).after (updCarriage_aside _ _ _).runs

theorem timeOutOrder_runs (r : RecordNo) (st : Station) (side : Side) (o : Order) (s : State) :
    Runs s (timeOutOrder r st side o s) := by
  unfold timeOutOrder; dsimp only
  exact
    (testClear_runs _).after <|
      (emit_onlyPlanner _ _).runs.after <|
        (updCarriage_aside _ _ _).runs.after <|
          (releaseLock_any _ _).runs.after <|
            (returnToBroken_runs _ _ _).after <|
              (updPiecing_runs _ _).after <| (updCounters_aside _ _ _).runs.after (raiseFault_aside _ _ _ _).runs

theorem fromStation_runs (station : Nat) (act : RecordNo → State → State) (hact : ∀ r s, Runs s (act r s)) (s : State) :
    Runs s (fromStation station act s) := by
  unfold fromStation; split
  · exact (discardCarriage_aside _).runs
  · exact (hact _ _).after (signOfLife_aside _ _).runs

theorem takeAbility_runs (station : Nat) (side : Side) (a : AbilitySet) (revision : Nat) (s : State) :
    Runs s (takeAbility station side a revision s) := by
  unfold takeAbility; split
  · exact (enrolStation_runs _ _ _).after (heard_runs _ _)
  · exact (discardCarriage_aside _).runs.after (heard_runs _ _)

theorem takePosition_runs (n : Nat) (dir : Direction) (r : RecordNo) (s : State) : Runs s (takePosition n dir r s) := by
  unfold takePosition; split
  · split
    · exact (leaveSuspect_any _ _).runs.after (updCarriage_aside _ _ _).runs
    · exact (discardCarriage_aside _).runs
  · exact (discardCarriage_aside _).runs

theorem arriveAt_runs (r : RecordNo) (o : Order) (s : State) : Runs s (arriveAt r o s) := by
  unfold arriveAt; split
  · exact .refl
  · exact Runs.after (updSpindle_same_runs _ _ _ fun _ => ⟨rfl, rfl, rfl, rfl⟩) (updCarriage_aside _ _ _).runs

theorem staleTag_runs (tag : Nat) (r : RecordNo) (s : State) : Runs s (staleTag tag r s) := by
  unfold staleTag; split
  · exact (updCounters_aside _ _ _).runs
  · exact (discardCarriage_aside _).runs

theorem takeArrived_runs (tag : Nat) (r : RecordNo) (s : State) : Runs s (takeArrived tag r s) := by
  unfold takeArrived; split
  · split
    · exact arriveAt_runs _ _ _
    · exact staleTag_runs _ _ _
  · exact staleTag_runs _ _ _
  · exact (discardCarriage_aside _).runs

theorem takeResult_runs (tag : Nat) (x : OrderOutcome) (r : RecordNo) (s : State) : Runs s (takeResult tag x r s) := by
  unfold takeResult; split
  · split
    · exact handleResult_runs _ _ _ _
    · exact staleTag_runs _ _ _
  · exact staleTag_runs _ _ _
  · exact (discardCarriage_aside _).runs

theorem takeParked_runs (r : RecordNo) (s : State) : Runs s (takeParked r s) := by
  unfold takeParked; split
  · exact reachPark_runs _ _
  · split
    · exact (reachPark_runs _ _).after (handleResult_runs _ _ _ _)
    · exact (discardCarriage_aside _).runs
  · exact .refl
  · exact (discardCarriage_aside _).runs

theorem takeStatus_runs (r : RecordNo) (s : State) : Runs s (takeStatus r s) := by
  unfold takeStatus; split
  · exact (leaveSuspect_any _ _).runs
  · exact (discardCarriage_aside _).runs

theorem takeDiscard_runs (cause : LinkDiscard) (s : State) : Runs s (takeDiscard cause s) := by
  cases cause with
  | badCheck => exact (discardCarriage_aside _).runs
  | unknownKind => exact (discardCarriage_aside _).runs.after (heard_runs _ _)
  | badField => exact (discardCarriage_aside _).runs.after (heard_runs _ _)

theorem orderExpiry_runs (r : RecordNo) (s : State) : Runs s (orderExpiry r s) := by
  unfold orderExpiry; split
  · split
    · exact timeOutOrder_runs _ _ _ _ _
    · exact .refl
  · exact .refl

theorem linkLossExpiry_runs (r : RecordNo) (s : State) : Runs s (linkLossExpiry r s) := by
  unfold linkLossExpiry; split
  · exact makeAbsent_runs _ _ _
  · exact .refl

theorem parkExpiry_runs (r : RecordNo) (s : State) : Runs s (parkExpiry r s) := by
  unfold parkExpiry; split
  · split
    · exact (raiseFault_aside _ _ _ _).runs.after (updCarriage_aside _ _ _).runs
    · exact .refl
  · exact .refl

end Sys2Proof.Machine

/-! # Settle-all, the store, the shift, the doff progress, Restart and the line -/

namespace Sys2Proof.Machine

open Sys2Proof

/-! ## A settle-all leaves nothing owed (R20) -/

theorem spindle_settleSpindle (n m : Nat) (s : State) :
    spindle (settleSpindle n s) m =
      if m = n ∧ hasSpindle s n = true then (spindle s m).settled s.delivery.driving s.delivery.now s.delivery.phi
      else spindle s m := by
  by_cases hm : m = n
  · subst hm
    cases hr : hasSpindle s m
    · simp [settleSpindle, hr]
    · simp [spindle_settleSpindle_same m s hr]
  · simp [hm, spindle_settleSpindle_other n m s hm]

@[simp] theorem settleSpindle_delivery (n : Nat) (s : State) : (settleSpindle n s).delivery = s.delivery := by
  obtain ⟨_, h⟩ := settleSpindle_onlyTables n s; rw [h]

@[simp] theorem settleEach_delivery (ns : List Nat) (s : State) : (settleEach ns s).delivery = s.delivery := by
  obtain ⟨_, h⟩ := settleEach_onlyTables ns s; rw [h]

@[simp] theorem settleAll_delivery (s : State) : (settleAll s).delivery = s.delivery := settleEach_delivery _ s

@[simp] theorem length_settleAll (s : State) : (settleAll s).spindles.length = s.spindles.length := length_settleEach _ s

@[simp] theorem hasSpindle_settleSpindle (n m : Nat) (s : State) : hasSpindle (settleSpindle n s) m = hasSpindle s m := by
  simp [hasSpindle]

/-- R20: spindles settled one after another, each once. -/
theorem spindle_settleEach (m : Nat) : ∀ (ns : List Nat), ns.Nodup → ∀ s : State,
    spindle (settleEach ns s) m =
      if m ∈ ns ∧ hasSpindle s m = true then (spindle s m).settled s.delivery.driving s.delivery.now s.delivery.phi
      else spindle s m
  | [], _, _ => by simp [settleEach]
  | n :: ns, hnd, s => by
    obtain ⟨hn, hnd⟩ := List.nodup_cons.1 hnd
    have ih := spindle_settleEach m ns hnd (settleSpindle n s)
    change spindle (settleEach ns (settleSpindle n s)) m = _
    rw [ih, spindle_settleSpindle]
    by_cases hm : m = n
    · subst hm; simp [hn]
    · simp [hm]

theorem mem_allSpindles (s : State) (n : Nat) : n ∈ allSpindles s ↔ 1 ≤ n ∧ n ≤ spindleCount s := by
  simp [allSpindles, List.mem_range'_1]; omega

theorem mem_spindles_iff (s : State) (sp : Spindle) : sp ∈ s.spindles ↔ ∃ n, hasSpindle s n = true ∧ spindle s n = sp := by
  constructor
  · intro h
    obtain ⟨k, hk, rfl⟩ := List.mem_iff_getElem.1 h
    exact ⟨k + 1, by simp [hasSpindle]; omega, by simp [spindle, nth_succ, hk]⟩
  · rintro ⟨n, hn, rfl⟩; exact spindle_mem s n hn

/-- R20: with a record for each configured spindle, a settle-all settles each. -/
theorem spindle_settleAll (s : State) (hl : s.spindles.length = spindleCount s) (n : Nat) :
    spindle (settleAll s) n =
      if hasSpindle s n = true then (spindle s n).settled s.delivery.driving s.delivery.now s.delivery.phi else spindle s n := by
  rw [settleAll, spindle_settleEach n (allSpindles s) List.nodup_range']
  simp only [mem_allSpindles, hasSpindle_iff, hl, and_self]

theorem settledNow_settleAll (s : State) (hl : s.spindles.length = spindleCount s) : settledNow (settleAll s) := by
  intro sp hsp
  obtain ⟨n, hn, rfl⟩ := (mem_spindles_iff _ sp).1 hsp
  have hn : hasSpindle s n = true := by simpa [hasSpindle] using hn
  rw [spindle_settleAll s hl, if_pos hn, settleAll_delivery]
  exact ⟨rfl, owedPulses_settled _ _ _ _⟩

theorem settledNow_of_tableOk (s : State) (h : tableOk (settleAll s)) : settledNow (settleAll s) := by
  obtain ⟨_, _, _, hl⟩ := h
  refine settledNow_settleAll s ?_
  simpa [spindleCount, sectorCount] using hl

/-! ## The store (R184, R185) -/

theorem storeOk_writing {st : Store} {c : CopyNo} {image : Image} (h : storeOk st) (hi : image.settings.geometryOk) :
    storeOk { st with writer := .writing c image } := by
  obtain ⟨h1, h2, _⟩ := h
  exact ⟨h1, h2, fun x hx => by cases hx; exact hi⟩

theorem storeOk_setCopy {st : Store} {c : CopyNo} {image : Option Image} (h : storeOk st) (hi : imageOk image) :
    storeOk (st.setCopy c image) := by
  obtain ⟨h1, h2, h3⟩ := h
  cases c
  · exact ⟨hi, h2, h3⟩
  · exact ⟨h1, hi, h3⟩

theorem imageOk_none : imageOk none := fun _ h => nomatch h

/-- The store changes and keeps its geometry in range. -/
theorem store_runs (st : Store) (s : State) (h : geometryHeld s → storeOk st) : Runs s { s with store := st } :=
  Quiet.runs ⟨rfl, rfl, rfl, rfl, rfl, rfl, rfl, fun g => ⟨h g, g.2⟩⟩ rfl

theorem beginWrite_runs (s : State) : Runs s (beginWrite s) :=
  store_runs _ s fun g => storeOk_writing g.1 g.2

theorem askWrite_runs (s : State) : Runs s (askWrite s) := by
  unfold askWrite; split
  · exact beginWrite_runs s
  · exact store_runs { s.store with rewrite := true } s fun g => g.1

theorem afterWrite_runs (s : State) : Runs s (afterWrite s) := by
  unfold afterWrite; split
  · exact (beginWrite_runs _).after (store_runs { s.store with rewrite := false } s fun g => g.1)
  · exact store_runs { s.store with writer := .idle } s fun g => ⟨g.1.1, g.1.2.1, imageOk_none⟩

theorem writeDone_runs (s : State) : Runs s (writeDone s) := by
  unfold writeDone; split
  · exact .refl
  · rename_i c image hw
    refine (afterWrite_runs _).after (store_runs (s.store.setCopy c (some image)) s fun g => ?_)
    refine storeOk_setCopy g.1 fun x hx => g.1.2.2 x ?_
    rw [hw]; exact hx

theorem writeFailed_runs (s : State) : Runs s (writeFailed s) := by
  unfold writeFailed; split
  · exact .refl
  · rename_i c image hw
    exact (afterWrite_runs _).after <| (raiseFault_aside _ _ _ _).runs.after
      (store_runs (s.store.setCopy c none) s fun g => storeOk_setCopy g.1 imageOk_none)

/-! ## Shifts and doffs (chapters 7 and 8) -/

theorem closeShiftNow_runs (s : State) : Runs s (closeShiftNow s) := by
  have h : Runs s { settleAll s with ring := (closedRecord (settleAll s) :: (settleAll s).ring).take Config.ringCapacity } :=
    (settleAll_runs s).trans (Quiet.runs ⟨rfl, rfl, rfl, rfl, rfl, rfl, rfl, id⟩ rfl)
  exact (raiseNotice_aside _ _ _ _ _).runs.after ((askWrite_runs _).after (h.shiftOpened _ (settledNow_of_tableOk s)))

theorem applyLot_runs (lot : Lot) (s : State) : Runs s (applyLot lot s) := by
  unfold applyLot; dsimp only
  refine (askWrite_runs _).after <| (evaluateGroups_onlyPlanner _ _).runs.after <| Runs.after ?_ (settleAll_runs s)
  exact Quiet.runs ⟨rfl, rfl, rfl, rfl, rfl, rfl, rfl, id⟩ rfl

theorem lotAtDoff_runs (s : State) : Runs s (lotAtDoff s).2 := by
  unfold lotAtDoff; split
  · exact .refl
  · split
    · exact applyLot_runs _ _
    · exact .refl

theorem forall₂_map_right {α : Type} {R : α → α → Prop} (f : α → α) (l : List α) (h : ∀ x ∈ l, R x (f x)) :
    List.Forall₂ R l (l.map f) := by
  rw [List.forall₂_map_right_iff]; exact List.forall₂_same.2 h

theorem copAt_of_owed {phi : Nat} {sp : Spindle} (h : owedPulses phi sp = 0) : copAt phi sp = min Config.top32 sp.copPulses := by
  simp [copAt, h, satAdd]

/-- R145: the cops emptied and the doff progress begun at the odometer, every spindle having been settled. -/
theorem emptied_rebased (t : State) (h : tableOk t → settledNow t) :
    Rebased t (updDoff (fun d => { d with phiD := t.delivery.phi }) { t with spindles := t.spindles.map Spindle.emptied }) where
  quiet := ⟨rfl, rfl, rfl, rfl, rfl, rfl, rfl, id⟩
  spindles := forall₂_map_right _ _ fun _ _ => ⟨rfl, rfl⟩
  cops ht hp := by
    refine ⟨hp, Nat.le_refl _, fun sp hsp => ?_⟩
    obtain ⟨x, hx, rfl⟩ := List.mem_map.1 hsp
    have h0 : owedPulses t.delivery.phi x.emptied = 0 := (h ht x hx).2
    show copAt t.delivery.phi x.emptied ≤ _
    rw [copAt_of_owed h0]
    simp [Spindle.emptied]

theorem countDoff_runs (r : DoffRecord) (s : State) : Runs s (countDoff r s) := shift_runs _ s rfl rfl

theorem completeDoff_runs (r : DoffRecord) (s : State) : Runs s (completeDoff r s) := by
  unfold completeDoff; dsimp only
  refine (raiseNotice_aside _ _ _ _ _).runs.after <| (testWindow_runs _).after <| (enterPhase_runs _ _).after <|
    (resumeRecord_any _ _).runs.after <| (resumeRecord_any _ _).runs.after <| (updDoff_runs _ _ rfl).after <|
      (lotAtDoff_runs _).after ?_
  exact ((settleAll_runs _).after (countDoff_runs r s)).rebased (emptied_rebased _ (settledNow_of_tableOk _))

theorem doffPulse_runs (s : State) : Runs s (doffPulse s) := by
  unfold doffPulse; split
  · exact completeDoff_runs _ _
  · exact (raiseFault_aside _ _ _ _).runs

theorem dofferRise_runs (s : State) : Runs s (dofferRise s) := by
  have h := updDoff_runs (fun d => { d with dofferActive := true }) s rfl
  unfold dofferRise; dsimp only; split
  · exact h
  · exact (raiseFault_aside _ _ _ _).runs.after h

/-! ### Set Doff Progress (R152) -/

/-- Settling reads nothing of the doff sequencer. -/
theorem settleEach_updDoff (f : Doff → Doff) : ∀ (ns : List Nat) (s : State),
    settleEach ns (updDoff f s) = updDoff f (settleEach ns s)
  | [], _ => rfl
  | n :: ns, s => by
    have h : settleSpindle n (updDoff f s) = updDoff f (settleSpindle n s) := by
      unfold settleSpindle
      by_cases hn : hasSpindle s n = true
      · rw [if_pos hn, if_pos (show hasSpindle (updDoff f s) n = true from hn)]; rfl
      · rw [if_neg hn, if_neg (show ¬ hasSpindle (updDoff f s) n = true from hn)]
    have ih := settleEach_updDoff f ns (settleSpindle n s)
    simp only [settleEach, List.foldl_cons] at ih ⊢
    rw [h, ih]

theorem settleAll_updDoff (f : Doff → Doff) (s : State) : settleAll (updDoff f s) = updDoff f (settleAll s) :=
  settleEach_updDoff f (allSpindles s) s

/-- R152: the doff progress set, and every cop held to it, every spindle having been settled. -/
theorem capped_rebased (t : State) (f : Doff → Doff) (hf : (f t.doff).phiD ≤ t.delivery.phi) (h : tableOk t → settledNow t) :
    Rebased t
      { updDoff f t with spindles := t.spindles.map fun sp => sp.capped (doffProgress (updDoff f t)) } where
  quiet := ⟨rfl, rfl, rfl, rfl, rfl, rfl, rfl, id⟩
  spindles := forall₂_map_right _ _ fun _ _ => ⟨rfl, rfl⟩
  cops ht hp := by
    refine ⟨hp, hf, fun sp hsp => ?_⟩
    obtain ⟨x, hx, rfl⟩ := List.mem_map.1 hsp
    have h0 : owedPulses t.delivery.phi (x.capped (doffProgress (updDoff f t))) = 0 := (h ht x hx).2
    show copAt t.delivery.phi (x.capped (doffProgress (updDoff f t))) ≤ doffProgress (updDoff f t)
    rw [copAt_of_owed h0]
    exact (Nat.min_le_right _ _).trans (Nat.min_le_right _ _)

theorem setProgress_runs (percent : Nat) (s : State) : Runs s (setProgress percent s) := by
  unfold setProgress; dsimp only
  rw [settleAll_updDoff]
  have h := (settleAll_runs s).rebased (capped_rebased (settleAll s)
    (fun d => { d with phiD := s.delivery.phi - d.dPulses * percent / 100 })
    (by rw [settleAll_delivery]; exact Nat.sub_le _ _) (settledNow_of_tableOk s))
  refine (followProgress_runs _).after ?_
  split
  · exact Runs.after (updDoff_runs _ _ rfl) h
  · exact h

/-! ## Restart (R207) -/

theorem refuseAtRestart_runs (r : RecordNo) (s : State) : Runs s (refuseAtRestart r s) := by
  unfold refuseAtRestart; split
  · exact .refl
  · exact (updCarriage_aside _ _ _).runs.after (emit_onlyPlanner _ _).runs

theorem releaseAtRestart_runs (s : State) : Runs s (releaseAtRestart s) := by
  have h : Runs s { s with locks := s.locks.map Lock.restarted } :=
    onlyAside.runs ⟨{ s with locks := s.locks.map Lock.restarted }, rfl⟩
  unfold releaseAtRestart; dsimp only; split
  · exact (plannerGranted_onlyPlanner _).runs.after h
  · exact h

/-- R48: what a rebuild makes of a spindle starts nothing without the drive, and reads no more cop pulses. -/
theorem rebuilt_booked (dl : Delivery) (withheld : List Nat) (n : Nat) (sp : Spindle) :
    Booked dl 0 sp (sp.rebuilt (rebuiltState withheld dl.driving dl.now n)) := by
  have hr : (rebuiltState withheld dl.driving dl.now n).isRunning = false := by
    unfold rebuiltState; split
    · rfl
    · split <;> rfl
  refine ⟨id, fun _ => rfl, ?_, fun h => .inr ?_⟩
  · simp only [copAt, owedPulses, Spindle.rebuilt, hr, satAdd]
    simp
  · simp only [Spindle.rebuilt, rebuiltState] at h
    split at h
    · exact h.elim
    · split at h
      · assumption
      · exact h.elim

theorem forall₂_zipIdx_map {R : Spindle → Spindle → Prop} (f : Spindle × Nat → Spindle) : ∀ (l : List Spindle) (k : Nat),
    (∀ x i, R x (f (x, i))) → List.Forall₂ R l ((l.zipIdx k).map f)
  | [], _, _ => by simp
  | x :: l, k, h => by
    rw [List.zipIdx_cons, List.map_cons]
    exact .cons (h x k) (forall₂_zipIdx_map f l (k + 1) h)

theorem rebuildSpindles_runs (s : State) : Runs s (rebuildSpindles s) := by
  refine Runs.refl.touch ⟨rfl, rfl, rfl, rfl, rfl, rfl, rfl, id⟩ ?_
  exact forall₂_zipIdx_map _ _ _ fun x i => rebuilt_booked _ _ _ _

theorem resetSensing_runs (s : State) : Runs s (resetSensing s) := by
  refine Runs.after ?_ (Runs.refl.watched (s := s)
    (if s.delivery.driving then some (s.delivery.now + s.settings.working.pulseLossTime) else none) false)
  exact onlyAside.runs ⟨resetSensing s, rfl⟩

theorem rebuildPoints_onlyPlanner (s : State) : onlyPlanner s (rebuildPoints s) :=
  (evaluateGroups_onlyPlanner _ _).after ((updPlanner_onlyPlanner _ _).after (updPlanner_onlyPlanner _ _))

theorem countRestart_runs (s : State) : Runs s (countRestart s) :=
  Quiet.runs ⟨rfl, rfl, rfl, rfl, rfl, rfl, rfl, id⟩ rfl

theorem doffAtRestart_runs (s : State) : Runs s (doffAtRestart s) := by
  unfold doffAtRestart; split
  · split
    · exact .refl
    · exact enterParking_runs _ _
  · exact testClear_runs _
  · exact .refl

theorem makeRestart_runs (s : State) : Runs s (makeRestart s) :=
  (doffAtRestart_runs _).after <|
    (countRestart_runs _).after <|
      (rebuildPoints_onlyPlanner _).runs.after <|
        (resetSensing_runs _).after <|
          (rebuildSpindles_runs _).after <|
            (releaseAtRestart_runs _).after <|
              (refuseAtRestart_runs _ _).after <| (refuseAtRestart_runs _ _).after (settleAll_runs s)

/-! ## The line (chapter 11) -/

theorem hunt_runs (s : State) : Runs s (hunt s) := updLine_runs _ s rfl rfl

theorem countBadRequest_runs (s : State) : Runs s (countBadRequest s) := updLine_runs _ s rfl rfl

theorem discardFrame_runs (s : State) : Runs s (discardFrame s) := updLine_runs _ s rfl rfl

theorem unmarkNotices_runs (s : State) : Runs s (unmarkNotices s) := onlyAside.runs ⟨unmarkNotices s, rfl⟩

theorem restartOf_runs (effect : ReplyEffect) (s : State) : Runs s (restartOf effect s) := by
  unfold restartOf; split
  · exact makeRestart_runs s
  · exact .refl

theorem withholdReply_runs (s : State) : Runs s (withholdReply s) := by
  unfold withholdReply; split
  · exact .refl
  · exact (restartOf_runs _ _).after (Runs.after (updLine_runs _ _ rfl rfl) (unmarkNotices_runs s))

theorem receive_runs (act : State → State) (hact : ∀ s, Runs s (act s)) (s : State) : Runs s (receive act s) := by
  unfold receive; split
  · exact (hact _).after (withholdReply_runs s)
  · exact .refl

theorem hold_runs (kind : Nat) (a : Answer) : Runs a.state (hold kind a) := updLine_runs _ _ rfl rfl

theorem takeRequest_runs (kind : Nat) (lengthOk : Bool) (answer : State → Answer) (h : ∀ s, Runs s (answer s).state)
    (s : State) : Runs s (takeRequest kind lengthOk answer s) := by
  refine receive_runs _ (fun t => ?_) s
  split
  · exact hunt_runs t
  · split
    · exact (hold_runs _ _).after (h t)
    · exact (hold_runs _ (refuse .badLength (countBadRequest t))).after (countBadRequest_runs t)

theorem takeBroadcast_runs (lengthOk : Bool) (act : State → State) (h : ∀ s, Runs s (act s)) (s : State) :
    Runs s (takeBroadcast lengthOk act s) := by
  refine receive_runs _ (fun t => (hunt_runs _).after ?_) s
  split
  · exact h t
  · exact countBadRequest_runs t

theorem applySending_runs (effect : ReplyEffect) (s : State) : Runs s (applySending effect s) := by
  cases effect with
  | none => exact .refl
  | fetch => exact onlyAside.runs ⟨applySending .fetch s, rfl⟩
  | latches r => exact onlyAside.runs ⟨applySending (.latches r) s, rfl⟩
  | cursor next => exact updLine_runs (fun l => { l with cursor := next }) s rfl rfl
  | restart => exact .refl

theorem sendReply_runs (s : State) : Runs s (sendReply s) := by
  unfold sendReply; split
  · split
    · unfold beginReply
      exact Runs.after (updLine_runs _ _ rfl rfl) ((applySending_runs _ _).after (emit_onlyPlanner _ _).runs)
    · exact .refl
  · exact .refl

theorem finishReply_runs (s : State) : Runs s (finishReply s) := by
  have h : Runs s (updLine (fun l => { l with receiver := .hunting, reply := none }) s) := updLine_runs _ s rfl rfl
  unfold finishReply; split
  · unfold endReply; dsimp only; split
    · exact h
    · exact (restartOf_runs _ _).after h
  · exact .refl

theorem endResync_runs (s : State) : Runs s (endResync s) := by
  unfold endResync; split
  · exact hunt_runs s
  · exact .refl

theorem takeUnknown_runs (kind : Byte) (s : State) : Runs s (takeUnknown kind s) := by
  unfold takeUnknown; split
  · exact hunt_runs s
  · exact (hold_runs _ (refuse .unknownKind (countBadRequest s))).after (countBadRequest_runs s)

end Sys2Proof.Machine

/-! # Requests and commands, each composed of what `Runs` allows -/

namespace Sys2Proof.Machine

open Sys2Proof

/-! ## Requests about spindles and groups -/

theorem answerPiece_runs (n : Nat) (s : State) : Runs s (answerPiece n s).state := by
  unfold answerPiece; split
  · split
    · exact .refl
    · unfold pieceBroken; split
      · exact (setPieceList_aside _ _ _).runs
      · split
        · refine (makeEntry_dispatches (W := fun _ => True) _ _ _).runs.after ?_
          exact Runs.after (updSpindle_same_runs _ _ _ fun _ => ⟨rfl, rfl, rfl, rfl⟩)
            (dropFromList_dispatches (W := fun _ => True) _ _).runs
        · exact .refl
    · exact .refl
  · exact .refl

theorem answerLock_runs (n : Nat) (s : State) : Runs s (answerLock n s).state := by
  unfold answerLock; split
  · split
    · exact .refl
    · exact .refl
    · rename_i h
      refine updSpindle_runs n _ s fun _ => ⟨id, fun _ => rfl, ?_, fun k => k.elim⟩
      simp only [copAt, owedPulses, h, SpindleState.isRunning]
      exact Nat.le_refl _
    · exact leaveList_runs _ _ _ fun k => k.elim
  · exact .refl

theorem answerRelease_runs (n : Nat) (s : State) : Runs s (answerRelease n s).state := by
  unfold answerRelease; split
  · split
    · exact .refl
    · exact (takeIn_runs _ _ _).after <| (changeState_runs n (.broken .yarn s.delivery.now) _ fun h => h.elim).after <|
        updSpindle_same_runs n Spindle.pardoned s fun _ => ⟨rfl, rfl, rfl, rfl⟩
    · exact .refl
  · exact .refl

theorem answerCall_runs (g : Nat) (s : State) : Runs s (answerCall g s).state := by
  unfold answerCall; split
  · exact .refl
  · split
    · exact .refl
    · split
      · exact .refl
      · exact (listGroup_onlyPlanner g .urgent .request s).runs

theorem declared_runs (used : Nat) (ns : List Nat) (s : State) :
    Runs s (ns.foldl (fun acc n => updSpindle n (fun sp => sp.declared used) acc) s) :=
  foldl_runs _ (fun t n => updSpindle_same_runs n (fun sp => sp.declared used) t fun _ => ⟨rfl, rfl, rfl, rfl⟩) ns s

theorem declareGroup_runs (g e : Nat) (s : State) : Runs s (declareGroup g e s) := by
  unfold declareGroup; dsimp only
  exact (evaluateGroup_onlyPlanner _ _).runs.after <| (declared_runs _ _ _).after (settleEach_runs _ _)

@[simp] theorem taken_state (s : State) : (taken s).state = s := rfl

theorem answerDeclare_runs (g e : Nat) (s : State) : Runs s (answerDeclare g e s).state := by
  unfold answerDeclare; split
  · exact .refl
  · split
    · exact .refl
    · rw [taken_state]; exact declareGroup_runs g e s

/-! ## Requests about the doff -/

theorem answerHold_runs (s : State) : Runs s (answerHold s).state := by
  unfold answerHold; split
  · exact .refl
  · exact updDoff_runs (fun d => { d with hold := true }) s rfl

theorem answerResume_runs (s : State) : Runs s (answerResume s).state := by
  unfold answerResume; split
  · exact .refl
  · unfold taken resumeDoff; dsimp only; split
    · exact (followProgress_runs _).after (updDoff_runs _ s rfl)
    · exact .refl

theorem answerDoffNow_runs (s : State) : Runs s (answerDoffNow s).state := by
  unfold answerDoffNow; split
  · exact enterCalled_runs _ _ _
  · exact enterCalled_runs _ _ _
  · exact .refl
  · exact .refl

theorem answerProgress_runs (percent : Nat) (s : State) : Runs s (answerProgress percent s).state := by
  unfold answerProgress; split
  · exact .refl
  · split
    · exact setProgress_runs _ _
    · exact setProgress_runs _ _
    · exact .refl

theorem answerLot_runs (items : List (Nat × Nat)) (s : State) : Runs s (answerLot items s).state :=
  updDoff_runs (fun d => { d with pendingLot := some (lotOf items) }) s rfl

/-! ## Carriages and faults -/

theorem answerReleaseCarriage_runs (code : Nat) (s : State) : Runs s (answerReleaseCarriage code s).state := by
  unfold answerReleaseCarriage; split
  · exact .refl
  · unfold taken releaseRecord; dsimp only; split
    · exact .refl
    · exact (makeAbsent_runs _ _ _).after (emit_onlyPlanner _ _).runs

theorem answerClear_runs (set : Nat) (s : State) : Runs s (answerClear set s).state := by
  unfold answerClear; split
  · exact .refl
  · exact onlyAside.runs ⟨clearFaultSet (BitVec.ofNat 11 set) s, rfl⟩

/-! ## Write Settings and Write Zone (chapter 9) -/

/-- R181: a field written, clamped, leaves the geometry in range. -/
theorem set_geometryOk (r : Retained) (field v : Nat) (h : r.geometryOk) : (r.set field (clampField field v)).geometryOk := by
  obtain ⟨hs, h1, h42⟩ := h
  unfold Retained.set
  split
  · exact ⟨by simp only [clampField, clampTo]; omega, h1, h42⟩
  · refine ⟨hs, ?_, ?_⟩ <;> simp only [clampField, clampTo] <;> omega
  · exact ⟨hs, h1, h42⟩
  · exact ⟨hs, h1, h42⟩
  · split <;> exact ⟨hs, h1, h42⟩

theorem writeRetained_geometryOk : ∀ (items : List (Nat × Nat)) (r : Retained), r.geometryOk →
    (writeRetained items r).geometryOk
  | [], _, h => h
  | it :: items, r, h => writeRetained_geometryOk items _ (set_geometryOk r it.1 it.2 h)

theorem storeItems_runs (retained : Bool) (items : List (Nat × Nat)) (s : State) : Runs s (storeItems retained items s) := by
  have h : Runs s
      { s with
        settings :=
          { working := writeWorking items s.settings.working
            retained := if retained then writeRetained items s.settings.retained else s.settings.retained } } := by
    refine Quiet.runs ⟨rfl, rfl, rfl, rfl, rfl, rfl, rfl, fun g => ⟨g.1, ?_⟩⟩ rfl
    dsimp only; split
    · exact writeRetained_geometryOk _ _ g.2
    · exact g.2
  unfold storeItems; dsimp only
  cases retained
  · exact h
  · exact (beginWrite_runs _).after h

theorem actOnWrite_runs (items : List (Nat × Nat)) (s : State) : Runs s (actOnWrite items s) := by
  have h1 : Runs s (if names items [33, 34] then workOutAlarm s else s) := by
    split
    · exact onlyAside.runs ⟨workOutAlarm s, rfl⟩
    · exact .refl
  have h2 (t : State) : Runs t (if names items [12, 13] then evaluateGroups (allGroups t) t else t) := by
    split
    · exact (evaluateGroups_onlyPlanner _ _).runs
    · exact .refl
  unfold actOnWrite; dsimp only; split
  · exact (followProgress_runs _).after (Runs.after (updDoff_runs _ _ rfl) ((h2 _).after h1))
  · exact (h2 _).after h1

theorem answerSettings_runs (target : Nat) (items : List (Nat × Nat)) (s : State) :
    Runs s (answerSettings target items s).state := by
  unfold answerSettings; split
  · exact .refl
  · split
    · exact .refl
    · split
      · exact .refl
      · exact (actOnWrite_runs _ _).after (storeItems_runs _ _ _)

theorem withholdSpindle_runs (n : Nat) (s : State) : Runs s (withholdSpindle n s) := by
  unfold withholdSpindle; split
  · exact updSpindle_same_runs n _ s fun _ => ⟨rfl, rfl, rfl, rfl⟩
  · exact (changeState_runs n .withheld _ fun h => h.elim).after (dropFromList_dispatches (W := fun _ => True) _ _).runs

theorem unwithholdSpindle_runs (n : Nat) (s : State) : Runs s (unwithholdSpindle n s) := by
  unfold unwithholdSpindle; split
  · exact changeState_runs n _ s fun h => .inr (driving_of_settlingOrIdle h)
  · exact updSpindle_same_runs n _ s fun _ => ⟨rfl, rfl, rfl, rfl⟩
  · exact .refl

theorem changeZone_runs (entered left : List Nat) (s : State) : Runs s (changeZone entered left s) :=
  (foldl_runs _ (fun t n => unwithholdSpindle_runs n t) _ _).after (foldl_runs _ (fun t n => withholdSpindle_runs n t) _ s)

theorem writeZone_runs (side : Side) (record : RecordNo) (z : Zone) (s : State) : Runs s (writeZone side record z s) := by
  have h (t u : State) (k : Runs s u) : Runs s (if (pieceList t side).length < (pieceList u side).length then attemptSide side u else u) := by
    split
    · exact (attemptSide_any _ _).runs.after k
    · exact k
  have hz (zs : Zones) : Runs s { s with zones := zs } := Quiet.runs ⟨rfl, rfl, rfl, rfl, rfl, rfl, rfl, id⟩ rfl
  unfold writeZone; dsimp only
  refine (askWrite_runs _).after ?_
  have h3 : ∀ (gs : List Nat) (t : State), Runs t (gs.foldl (fun acc g => tellPlanner g acc) t) :=
    fun gs t => foldl_runs _ (fun t g => (tellPlanner_onlyPlanner g t).runs) gs t
  have hr : ∀ t, Runs t (refill side t) := fun t => (refill_dispatches (W := fun _ => True) side t).runs
  split
  · exact (attemptSide_any _ _).runs.after <| (h3 _ _).after <| (hr _).after <| (changeZone_runs _ _ _).after (hz _)
  · exact (h3 _ _).after <| (hr _).after <| (changeZone_runs _ _ _).after (hz _)

theorem answerZone_runs (a b c d e f : Nat) (s : State) : Runs s (answerZone a b c d e f s).state := by
  unfold answerZone; split
  · split
    · exact .refl
    · exact writeZone_runs _ _ _ _
  · exact .refl

/-! ## Readings -/

theorem answerStatus_runs (s : State) : Runs s (answerStatus s).state := onlyAside.runs ⟨(answerStatus s).state, rfl⟩

theorem answerFetch_runs (limit : Nat) (s : State) : Runs s (answerFetch limit s).state := by
  have h (ns : Notices) : Runs s { s with notices := ns } := onlyAside.runs ⟨{ s with notices := ns }, rfl⟩
  unfold answerFetch; split
  · exact .refl
  · exact h _

/-- A reading changes nothing (R204 to R211). -/
theorem answerSpindles_state (a b c : Nat) (s : State) : (answerSpindles a b c s).state = s := by
  unfold answerSpindles; split <;> rfl

theorem answerPiecingList_state (a b : Nat) (s : State) : (answerPiecingList a b s).state = s := by
  unfold answerPiecingList; split
  · rfl
  · split <;> rfl

theorem answerGroups_state (a : Nat) (s : State) : (answerGroups a s).state = s := by
  unfold answerGroups; split <;> rfl

theorem answerDoffLog_state (a : Nat) (s : State) : (answerDoffLog a s).state = s := by
  unfold answerDoffLog; split <;> rfl

theorem answerShift_state (a b : Nat) (s : State) : (answerShift a b s).state = s := by
  unfold answerShift; split
  · rfl
  · split <;> rfl

theorem answerReadSettings_state (a b : Nat) (s : State) : (answerReadSettings a b s).state = s := by
  unfold answerReadSettings; split <;> rfl

theorem answerZones_state (a : Nat) (s : State) : (answerZones a s).state = s := by
  unfold answerZones; split <;> rfl

/-- A request that its block answers without a change. -/
theorem takeReading_runs (kind : Nat) (lengthOk : Bool) (answer : State → Answer) (h : ∀ s, (answer s).state = s) (s : State) :
    Runs s (takeRequest kind lengthOk answer s) :=
  takeRequest_runs kind lengthOk answer (fun t => by rw [h]; exact .refl) s

/-! ## Commands -/

/-- The commands that move a clock, the odometer or the drive, or switch the board. -/
def movesClocks (c : Instr) : Bool :=
  match c with
  | .powerOnReset _ _ _ _ | .powerLoss | .runSecond | .frontRollerPulse | .driveRunningRise | .driveRunningFall
  | .setClock _ _ => true
  | _ => false

theorem live_next {act : State → State} {s t : State} (h : live act s = .next t) :
    t = if s.powered then act { s with emitted := [] } else s := by
  simpa [live] using h.symm

theorem emitted_runs (s : State) (l : List Output) : Runs s { s with emitted := l } :=
  onlyAside.runs ⟨{ s with emitted := l }, rfl⟩

/-- A command acts by what `Runs` allows where its action does; without power it does nothing. -/
theorem live_runs {act : State → State} (hact : ∀ s, Runs s (act s)) {s t : State} (h : live act s = .next t) : Runs s t := by
  rw [live_next h]; split
  · exact (hact _).after (emitted_runs s [])
  · exact .refl

/-- Every command but those that move the clocks, the odometer or the drive, or switch the board, is composed of what `Runs` allows. -/
theorem exec_runs (c : Instr) (s t : State) (hc : movesClocks c = false) (h : exec c s = .next t) : Runs s t := by
  cases c
  case powerOnReset | powerLoss | runSecond | frontRollerPulse | driveRunningRise | driveRunningFall | setClock => cases hc
  case pulseLoss =>
    refine live_runs (fun s => ?_) h
    unfold losePulses; split
    · exact (raiseFault_aside _ _ _ _).runs.after (Runs.refl.watched none true)
    · exact .refl
  case headPoll side => exact live_runs (pollHead_runs side) h
  case pollAnswer side checkOk headOk present =>
    refine live_runs (finishPoll_runs side _ fun k u => ?_) h
    split
    · exact validAnswer_runs _ _ _ _
    · exact missPoll_runs _ _ _
  case answerWaitExpiry side => exact live_runs (finishPoll_runs side _ (missPoll_runs side)) h
  case drowseDelayExpiry => exact live_runs drowseExpiry_runs h
  case sleepPoll side => exact live_runs (sleepPoll_runs side) h
  case settleLimitReached n => exact live_runs (settleLimit_runs n) h
  case lampHoldExpiry k => exact live_runs (lampExpiry_runs k) h
  case ability a side x d => exact live_runs (takeAbility_runs a side x d) h
  case position a n d => exact live_runs (fromStation_runs a _ (takePosition_runs n d)) h
  case arrived a tag => exact live_runs (fromStation_runs a _ (takeArrived_runs tag)) h
  case result a tag x => exact live_runs (fromStation_runs a _ (takeResult_runs tag x)) h
  case parked a => exact live_runs (fromStation_runs a _ takeParked_runs) h
  case carriageStatus a => exact live_runs (fromStation_runs a _ takeStatus_runs) h
  case orderTimerExpiry r => exact live_runs (orderExpiry_runs r) h
  case linkLossTimerExpiry r => exact live_runs (linkLossExpiry_runs r) h
  case parkTimerExpiry r => exact live_runs (parkExpiry_runs r) h
  case waitLimitExpiry k => exact live_runs (waitExpiry_runs k) h
  case transportAccept tag => exact live_runs (takeAccept_runs tag) h
  case decline tag => exact live_runs (takeDecline_runs tag) h
  case atSector tag => exact live_runs (takeAtSector_runs tag) h
  case changed tag => exact live_runs (takeChanged_runs tag) h
  case aborted tag => exact live_runs (takeAborted_runs tag) h
  case transportTimerExpiry => exact live_runs transportExpiry_runs h
  case backOffExpiry => exact live_runs backOffExpiry_runs h
  case dofferActiveRise =>
    refine live_runs (act := fun t => if t.doff.dofferActive then t else dofferRise t) (fun s => ?_) h
    split
    · exact .refl
    · exact dofferRise_runs s
  case dofferActiveFall => exact live_runs (fun s => updDoff_runs _ s rfl) h
  case doffComplete => exact live_runs doffPulse_runs h
  case storeWriteDone => exact live_runs writeDone_runs h
  case storeWriteFailed => exact live_runs writeFailed_runs h
  case frameSilenceTimeout => exact live_runs (receive_runs _ discardFrame_runs) h
  case frameDiscarded => exact live_runs (receive_runs _ discardFrame_runs) h
  case resyncSilence => exact live_runs endResync_runs h
  case frameIgnored => exact live_runs (receive_runs _ hunt_runs) h
  case unknownKind kind => exact live_runs (receive_runs _ (takeUnknown_runs kind)) h
  case broadcastIgnored => exact live_runs (receive_runs _ fun s => (hunt_runs _).after (countBadRequest_runs s)) h
  case replySend => exact live_runs sendReply_runs h
  case replyWithheld => exact live_runs (receive_runs _ fun _ => .refl) h
  case identify => exact live_runs (takeReading_runs _ _ _ fun _ => rfl) h
  case readStatus => exact live_runs (takeRequest_runs _ _ _ answerStatus_runs) h
  case fetchNotices => exact live_runs (takeRequest_runs _ _ _ (answerFetch_runs _)) h
  case readSpindles => exact live_runs (takeReading_runs _ _ _ (answerSpindles_state _ _ _)) h
  case readPiecingList => exact live_runs (takeReading_runs _ _ _ (answerPiecingList_state _ _)) h
  case readGroups => exact live_runs (takeReading_runs _ _ _ (answerGroups_state _)) h
  case readRovingCalls => exact live_runs (takeReading_runs _ _ _ fun _ => rfl) h
  case readCarriages => exact live_runs (takeReading_runs _ _ _ fun _ => rfl) h
  case readDoffState => exact live_runs (takeReading_runs _ _ _ fun _ => rfl) h
  case readDoffLog => exact live_runs (takeReading_runs _ _ _ (answerDoffLog_state _)) h
  case readShift => exact live_runs (takeReading_runs _ _ _ (answerShift_state _ _)) h
  case readFaults => exact live_runs (takeReading_runs _ _ _ fun _ => rfl) h
  case clearFaults => exact live_runs (takeRequest_runs _ _ _ (answerClear_runs _)) h
  case readSettings => exact live_runs (takeReading_runs _ _ _ (answerReadSettings_state _ _)) h
  case writeSettings => exact live_runs (takeRequest_runs _ _ _ (answerSettings_runs _ _)) h
  case writeLot => exact live_runs (takeRequest_runs _ _ _ (answerLot_runs _)) h
  case readZones => exact live_runs (takeReading_runs _ _ _ (answerZones_state _)) h
  case writeZone => exact live_runs (takeRequest_runs _ _ _ (answerZone_runs _ _ _ _ _ _)) h
  case pieceSpindle => exact live_runs (takeRequest_runs _ _ _ (answerPiece_runs _)) h
  case lockSpindle => exact live_runs (takeRequest_runs _ _ _ (answerLock_runs _)) h
  case releaseSpindle => exact live_runs (takeRequest_runs _ _ _ (answerRelease_runs _)) h
  case callRoving => exact live_runs (takeRequest_runs _ _ _ (answerCall_runs _)) h
  case declareRoving => exact live_runs (takeRequest_runs _ _ _ (answerDeclare_runs _ _)) h
  case holdDoff => exact live_runs (takeRequest_runs _ _ _ answerHold_runs) h
  case resumeDoff => exact live_runs (takeRequest_runs _ _ _ answerResume_runs) h
  case doffNow => exact live_runs (takeRequest_runs _ _ _ answerDoffNow_runs) h
  case setDoffProgress => exact live_runs (takeRequest_runs _ _ _ (answerProgress_runs _)) h
  case releaseCarriage => exact live_runs (takeRequest_runs _ _ _ (answerReleaseCarriage_runs _)) h
  case closeShift broadcast body =>
    cases broadcast
    · exact live_runs (takeRequest_runs _ _ _ closeShiftNow_runs) h
    · exact live_runs (takeBroadcast_runs _ _ closeShiftNow_runs) h
  case restart => exact live_runs (takeReading_runs _ _ _ fun _ => rfl) h
  case replyEnd => exact live_runs finishReply_runs h
  case carriageLinkDiscard cause => exact live_runs (takeDiscard_runs cause) h
  case transportLinkDiscard => exact live_runs (fun s => (discardTransport_onlyPlanner s).runs) h

end Sys2Proof.Machine

/-! # The clocks, the odometer, the drive and the resets; the frame statements and the invariants of every step -/

namespace Sys2Proof.Machine

open Sys2Proof

/-! ## The edges of drive running -/

theorem stopSpindle_runs (n : Nat) (s : State) : Runs s (stopSpindle n s) := by
  unfold stopSpindle; split
  · exact enterState_runs n .idle s fun h => h.elim
  · exact enterState_runs n .idle s fun h => h.elim
  · exact .refl

theorem startSpindle_runs (n : Nat) (s : State) (h : s.delivery.driving = true) : Runs s (startSpindle n s) := by
  unfold startSpindle; split
  · exact enterState_runs n _ s fun _ => .inr h
  · exact .refl

/-- R37: every spindle of a list taken at a rise. -/
def startEach (ns : List Nat) (s : State) : State := ns.foldl (fun acc n => startSpindle n acc) s

/-- R38: every spindle of a list taken at a fall. -/
def stopEach (ns : List Nat) (s : State) : State := ns.foldl (fun acc n => stopSpindle n acc) s

theorem startEach_runs : ∀ (ns : List Nat) (s : State), s.delivery.driving = true → Runs s (startEach ns s)
  | [], _, _ => .refl
  | n :: ns, s, h => by
    have h1 := startSpindle_runs n s h
    exact (startEach_runs ns _ (h1.clocks.driving.trans h)).after h1

theorem stopEach_runs (ns : List Nat) (s : State) : Runs s (stopEach ns s) := foldl_runs _ (fun t n => stopSpindle_runs n t) ns s

theorem driveRise_eq (s : State) :
    driveRise s = attemptBoth (startEach (allSpindles (assertDrive (settleAll s))) (assertDrive (settleAll s))) := rfl

theorem driveFall_eq (s : State) :
    driveFall s = doffAtFall (stopEach (allSpindles (dropDrive (settleAll s))) (dropDrive (settleAll s))) := rfl

theorem doffAtFall_runs (s : State) : Runs s (doffAtFall s) := by
  unfold doffAtFall; split
  · exact enterParking_runs _ _
  · exact .refl

/-- R38: what a fall makes of a spindle's state. -/
def SpindleState.stopped (st : SpindleState) : SpindleState :=
  match st with
  | .running => .idle
  | .settling _ _ => .idle
  | st => st

theorem stopped_idem (st : SpindleState) : st.stopped.stopped = st.stopped := by cases st <;> rfl

theorem not_needsDrive_stopped (st : SpindleState) : ¬ needsDrive st.stopped := by cases st <;> exact id

theorem hasSpindle_of_runs {s t : State} (h : Runs s t) (m : Nat) : hasSpindle t m = hasSpindle s m := by
  simp [hasSpindle, h.length]

theorem state_enterState (n m : Nat) (st : SpindleState) (s : State) :
    (spindle (enterState n st s) m).state = if m = n ∧ hasSpindle s n = true then st else (spindle s m).state := by
  rw [spindle_enterState, spindle_changeState]; split <;> simp

theorem state_stopSpindle (n m : Nat) (s : State) :
    (spindle (stopSpindle n s) m).state =
      if m = n ∧ hasSpindle s n = true then (spindle s m).state.stopped else (spindle s m).state := by
  by_cases hm : m = n
  · subst hm
    cases h : (spindle s m).state <;> simp [stopSpindle, h, state_enterState, SpindleState.stopped]
  · unfold stopSpindle; split <;> simp [hm, state_enterState]

theorem state_stopEach (m : Nat) : ∀ (ns : List Nat) (s : State),
    (spindle (stopEach ns s) m).state =
      if m ∈ ns ∧ hasSpindle s m = true then (spindle s m).state.stopped else (spindle s m).state
  | [], _ => by simp [stopEach]
  | n :: ns, s => by
    have ih := state_stopEach m ns (stopSpindle n s)
    rw [hasSpindle_of_runs (stopSpindle_runs n s), state_stopSpindle] at ih
    change (spindle (stopEach ns (stopSpindle n s)) m).state = _
    rw [ih]
    by_cases hm : m = n
    · subst hm; by_cases hr : hasSpindle s m = true <;> simp [hr, stopped_idem]
    · simp [hm]

/-! ## Pulses (R4, R9) -/

theorem pulseSeen_runs (s : State) : Runs s (pulseSeen s) := by
  have h : Runs s (updDelivery (fun dl =>
      { dl with pulseLost := false, pulseTimer := some (dl.now + s.settings.working.pulseLossTime) }) s) :=
    Runs.refl.watched _ _
  unfold pulseSeen; dsimp only; split
  · split
    · exact (raiseNotice_aside _ _ _ _ _).runs.after h
    · exact h
  · exact .refl

/-- R4, R5, R9: all that follows the odometer's move at a pulse. -/
theorem rollerPulse_runs (s : State) : Runs (updDelivery Delivery.pulse s) (rollerPulse s) :=
  (reachPoints_onlyPlanner _).runs.after <| (doffPoints_runs _).after (pulseSeen_runs _)

/-! ## Set Clock (R7) -/

theorem receive_clock (act : State → State) (v : Nat) (s : State) (hact : ∀ u, Runs u (act u) ∨ Runs (loadClock v u) (act u)) :
    ∃ u, Runs s u ∧ (Runs u (receive act s) ∨ Runs (loadClock v u) (receive act s)) := by
  unfold receive; split
  · exact ⟨withholdReply s, withholdReply_runs s, hact _⟩
  · exact ⟨s, .refl, .inl .refl⟩

/-- R7: a Set Clock loads the mill clock between two stretches that `Runs` allows, or loads nothing. -/
theorem setClock_runs (broadcast : Bool) (body : List Byte) (s t : State) (h : exec (.setClock broadcast body) s = .next t) :
    ∃ u, Runs s u ∧ (Runs u t ∨ Runs (loadClock (bodyNumber body 0 4) u) t) := by
  have hunted (u v : State) (b : Bool) : Runs u (hunt (if b then v else countBadRequest u)) ∨
      Runs v (hunt (if b then v else countBadRequest u)) := by
    cases b
    · exact .inl ((hunt_runs _).after (countBadRequest_runs u))
    · exact .inr (hunt_runs v)
  cases broadcast
  · rw [live_next (act := takeRequest 0x1E (body.length == 4) fun t => taken (loadClock (bodyNumber body 0 4) t)) h]
    split
    · obtain ⟨u, hu, hk⟩ := receive_clock
        (fun t => if t.line.address = 0 then hunt t
          else if body.length == 4 then hold 0x1E (taken (loadClock (bodyNumber body 0 4) t))
          else hold 0x1E (refuse .badLength (countBadRequest t)))
        (bodyNumber body 0 4) { s with emitted := [] } (fun u => by
          split
          · exact .inl (hunt_runs u)
          · split
            · exact .inr (hold_runs _ (taken (loadClock (bodyNumber body 0 4) u)))
            · exact .inl ((hold_runs _ (refuse .badLength (countBadRequest u))).after (countBadRequest_runs u)))
      exact ⟨u, (emitted_runs s []).trans hu, hk⟩
    · exact ⟨s, .refl, .inl .refl⟩
  · rw [live_next (act := takeBroadcast (body.length == 4) (loadClock (bodyNumber body 0 4))) h]
    split
    · obtain ⟨u, hu, hk⟩ := receive_clock
        (fun t => hunt (if body.length == 4 then loadClock (bodyNumber body 0 4) t else countBadRequest t))
        (bodyNumber body 0 4) { s with emitted := [] } fun u => hunted u _ _
      exact ⟨u, (emitted_runs s []).trans hu, hk⟩
    · exact ⟨s, .refl, .inl .refl⟩

/-! ## An invariant kept by every command but the two of the supply -/

/-- The geometry is in range, and the table follows it. -/
def framed (s : State) : Prop := tableOk s ∧ geometryHeld s

theorem Runs.framed {s t : State} (h : Runs s t) (hf : framed s) : framed t := ⟨h.table hf.1, h.geometry hf.2⟩

theorem framed_of_delivery {s : State} {dl : Delivery} (hs : dl.sides = s.delivery.sides) (hk : dl.sectors = s.delivery.sectors)
    (h : framed s) : framed { s with delivery := dl } := by
  obtain ⟨⟨h1, h2, h3, h4⟩, hg⟩ := h
  refine ⟨⟨hs ▸ h1, hk ▸ h2, hk ▸ h3, ?_⟩, hg⟩
  simpa [spindleCount, sectorCount, hs, hk] using h4

/-- A property that survives what `Runs` allows, a move of a clock or of the odometer and both edges of the drive survives every
command but POWER_ON_RESET and POWER_LOSS. -/
theorem exec_keeps (I : State → Prop) (runs : ∀ s t, framed s → Runs s t → I s → I t)
    (second : ∀ s, I s → I (updDelivery Delivery.second s)) (pulse : ∀ s, I s → I (updDelivery Delivery.pulse s))
    (clock : ∀ v s, I s → I (loadClock v s)) (rise : ∀ s, I s → I (assertDrive s))
    (fall : ∀ s, framed s → I s → I (stopEach (allSpindles s) (dropDrive s)))
    (c : Instr) (s t : State) (hon : ∀ a v d f, c ≠ .powerOnReset a v d f) (hoff : c ≠ .powerLoss) (hp : s.powered = true)
    (hf : framed s) (hi : I s) (h : exec c s = .next t) : framed t ∧ I t := by
  have step {u v : State} (k : Runs u v) (hu : framed u ∧ I u) : framed v ∧ I v := ⟨k.framed hu.1, runs u v hu.1 k hu.2⟩
  have h0 : framed { s with emitted := [] } ∧ I { s with emitted := [] } := step (emitted_runs s []) ⟨hf, hi⟩
  by_cases hc : movesClocks c = false
  · exact step (exec_runs c s t hc h) ⟨hf, hi⟩
  · cases c <;> simp only [movesClocks, not_true_eq_false] at hc
    case powerOnReset a v d f => exact absurd rfl (hon a v d f)
    case powerLoss => exact absurd rfl hoff
    case runSecond =>
      rw [live_next h, if_pos hp]
      exact ⟨framed_of_delivery rfl rfl h0.1, second _ h0.2⟩
    case frontRollerPulse =>
      rw [live_next h, if_pos hp]
      exact step (rollerPulse_runs _) ⟨framed_of_delivery rfl rfl h0.1, pulse _ h0.2⟩
    case driveRunningRise =>
      rw [live_next (act := fun t => if t.delivery.driving then t else driveRise t) h, if_pos hp]
      dsimp only; split
      · exact h0
      · rw [driveRise_eq]
        obtain ⟨f1, i1⟩ := step (settleAll_runs _) h0
        exact step ((attemptBoth_any _).runs.after (startEach_runs _ (assertDrive _) rfl))
          ⟨framed_of_delivery rfl rfl f1, rise _ i1⟩
    case driveRunningFall =>
      rw [live_next (act := fun t => if t.delivery.driving then driveFall t else t) h, if_pos hp]
      dsimp only; split
      · rw [driveFall_eq]
        obtain ⟨f1, i1⟩ := step (settleAll_runs _) h0
        exact step (doffAtFall_runs _) ⟨(stopEach_runs _ _).framed (framed_of_delivery rfl rfl f1), 
          fall (settleAll { s with emitted := [] }) f1 i1⟩
      · exact h0
    case setClock b body =>
      obtain ⟨u, hu, hk⟩ := setClock_runs b body s t h
      have iu := step hu ⟨hf, hi⟩
      rcases hk with hk | hk
      · exact step hk iu
      · exact step hk ⟨framed_of_delivery rfl rfl iu.1, clock _ _ iu.2⟩

/-! ## The state after power-on reset -/

/-- A valid copy has its geometry in range, and so has the default. -/
theorem loadedImage_geometryOk {st : Store} (h : storeOk st) : (loadedImage st).settings.geometryOk := by
  obtain ⟨h1, h2, _⟩ := h
  have hn : ∀ c image, newestCopy st = some (c, image) → image.settings.geometryOk := by
    intro c image hc
    unfold newestCopy at hc
    split at hc
    · cases hc
    · rename_i a e _; cases hc; exact h1 _ e
    · rename_i b _ e; cases hc; exact h2 _ e
    · rename_i a b ea eb
      split at hc
      · cases hc; exact h1 _ ea
      · split at hc
        · cases hc; exact h2 _ eb
        · split at hc
          · cases hc; exact h1 _ ea
          · cases hc; exact h2 _ eb
  unfold loadedImage
  split
  · exact hn _ _ ‹_›
  · exact ⟨.inr rfl, by decide, by decide⟩

theorem storeOk_cutOff {st : Store} (h : storeOk st) : storeOk st.cutOff := by
  obtain ⟨h1, h2, h3⟩ := h
  unfold Store.cutOff
  split
  · exact ⟨h1, h2, h3⟩
  · rename_i c _ _
    cases c
    · exact ⟨imageOk_none, h2, imageOk_none⟩
    · exact ⟨h1, imageOk_none, imageOk_none⟩

/-- R21, R47: a spindle after power-on reset owes nothing. -/
theorem rebuiltState_not_running (withheld : List Nat) (driving : Bool) (now n : Nat) :
    (rebuiltState withheld driving now n).isRunning = false := by
  unfold rebuiltState; split
  · rfl
  · split <;> rfl

theorem needsDrive_rebuiltState {withheld : List Nat} {driving : Bool} {now n : Nat}
    (h : needsDrive (rebuiltState withheld driving now n)) : driving = true := by
  unfold rebuiltState at h
  split at h
  · exact h.elim
  · split at h
    · assumption
    · exact h.elim

/-- What power-on reset leaves is its blocks and then what `Runs` allows. -/
theorem powerOn_runs (st : Store) (a v : Nat) (d f : Bool) (q : List Instr) :
    Runs (blocksAtPowerOn (loadedImage st.cutOff) st.cutOff a v d f q) (powerOn st a v d f q) := by
  unfold powerOn; dsimp only; split
  · exact .refl
  · exact (beginWrite_runs _).after (raiseFault_aside _ _ _ _).runs

theorem framed_blocksAtPowerOn (image : Image) (st : Store) (a v : Nat) (d f : Bool) (q : List Instr) (hs : storeOk st)
    (hi : image.settings.geometryOk) : framed (blocksAtPowerOn image st a v d f q) := by
  have ⟨h1, h2, h3⟩ := hi
  exact ⟨⟨h1, h2, h3, by simp [blocksAtPowerOn, spindleCount, sectorCount, deliveryAtPowerOn]⟩, hs, hi⟩

theorem mem_blocksAtPowerOn {image : Image} {st : Store} {a v : Nat} {d f : Bool} {q : List Instr} {sp : Spindle}
    (h : sp ∈ (blocksAtPowerOn image st a v d f q).spindles) :
    ∃ n, sp = spindleAtPowerOn (withheldSet image.zones image.settings.sides image.settings.sectors) d n := by
  obtain ⟨n, _, rfl⟩ := List.mem_map.1 h
  exact ⟨n, rfl⟩

theorem accounts_blocksAtPowerOn (image : Image) (st : Store) (a v : Nat) (d f : Bool) (q : List Instr) :
    Accounts (blocksAtPowerOn image st a v d f q) where
  now := Nat.zero_le _
  opened := Nat.le_refl _
  marks sp h := by obtain ⟨n, rfl⟩ := mem_blocksAtPowerOn h; exact Nat.le_refl _
  total := by
    have h0 : owedTotal 0 (blocksAtPowerOn image st a v d f q).spindles = 0 := by
      refine List.sum_eq_zero fun x hx => ?_
      obtain ⟨sp, hsp, rfl⟩ := List.mem_map.1 hx
      exact Nat.zero_sub _
    show zeroCategories.total + owedTotal 0 (blocksAtPowerOn image st a v d f q).spindles = _ * (0 - 0)
    rw [h0]; simp [zeroCategories, Categories.total]

theorem copsWithin_blocksAtPowerOn (image : Image) (st : Store) (a v : Nat) (d f : Bool) (q : List Instr) :
    CopsWithin (blocksAtPowerOn image st a v d f q) where
  phi := Nat.zero_le _
  phiD := Nat.le_refl _
  cops sp h := by
    obtain ⟨n, rfl⟩ := mem_blocksAtPowerOn h
    rw [copAt_of_owed]
    · exact Nat.min_le_right _ _
    · simp [owedPulses, spindleAtPowerOn, freshSpindle, rebuiltState_not_running]

theorem driven_blocksAtPowerOn (image : Image) (st : Store) (a v : Nat) (d f : Bool) (q : List Instr) :
    drivenSound (blocksAtPowerOn image st a v d f q) := by
  intro sp h hd
  obtain ⟨n, rfl⟩ := mem_blocksAtPowerOn h
  exact needsDrive_rebuiltState ((needsDrive_iff _).2 hd)

/-! ## The books and the cops, command by command -/

theorem owedTotal_succ (now : Nat) : ∀ l : List Spindle, (∀ sp ∈ l, sp.secondsMark ≤ now) →
    owedTotal (now + 1) l = owedTotal now l + l.length
  | [], _ => rfl
  | sp :: l, h => by
    have ih := owedTotal_succ now l fun x hx => h x (List.mem_cons_of_mem _ hx)
    have hm := h sp List.mem_cons_self
    simp only [owedTotal, List.map_cons, List.sum_cons, List.length_cons, owedSeconds] at ih ⊢
    omega

/-- R6, R19: a second is owed by every spindle, unless the clock has stopped at its top. -/
theorem Accounts.second {s : State} (a : Accounts s) : Accounts (updDelivery Delivery.second s) := by
  have hle := a.now
  have ho := a.opened
  by_cases htop : s.delivery.now = Config.top32
  · have hn : (updDelivery Delivery.second s).delivery.now = s.delivery.now := by
      simp only [updDelivery, Delivery.second, satAdd]; omega
    refine ⟨hn ▸ a.now, hn ▸ a.opened, fun sp h => hn ▸ a.marks sp h, ?_⟩
    rw [hn]; exact a.total
  · have hn : (updDelivery Delivery.second s).delivery.now = s.delivery.now + 1 := by
      simp only [updDelivery, Delivery.second, satAdd]; omega
    refine ⟨by omega, by rw [hn]; exact ho.trans (Nat.le_succ _), fun sp h => ?_, ?_⟩
    · rw [hn]; exact (a.marks sp h).trans (Nat.le_succ _)
    · rw [hn]
      show s.shift.categories.total + owedTotal (s.delivery.now + 1) s.spindles =
        s.spindles.length * (s.delivery.now + 1 - s.shift.openSecond)
      rw [owedTotal_succ _ _ a.marks, ← Nat.add_assoc, a.total, Nat.succ_sub ho, Nat.mul_succ]

theorem accounts_exec (c : Instr) (s t : State) (hon : ∀ a v d f, c ≠ .powerOnReset a v d f) (hoff : c ≠ .powerLoss)
    (hp : s.powered = true) (hf : framed s) (hi : Accounts s) (h : exec c s = .next t) : framed t ∧ Accounts t := by
  refine exec_keeps Accounts (fun s t hf k a => k.books hf.1 a) (fun s a => a.second) (fun s a => ⟨a.now, a.opened, a.marks, a.total⟩)
    (fun v s a => ⟨a.now, a.opened, a.marks, a.total⟩) (fun s a => ⟨a.now, a.opened, a.marks, a.total⟩) (fun s hf a => ?_)
    c s t hon hoff hp hf hi h
  have ha : Accounts (dropDrive s) := ⟨a.now, a.opened, a.marks, a.total⟩
  exact (stopEach_runs _ _).books (framed_of_delivery rfl rfl hf).1 ha

/-- R4, R18: one pulse adds at most one to what a cop reads. -/
theorem copAt_succ_le (phi : Nat) (sp : Spindle) : copAt (phi + 1) sp ≤ copAt phi sp + 1 := by
  have h : owedPulses (phi + 1) sp ≤ owedPulses phi sp + 1 := by
    unfold owedPulses; split
    · cases sp.pulseMark <;> simp only [Option.getD_none, Option.getD_some] <;> omega
    · exact Nat.zero_le _
  simp only [copAt, satAdd]; omega

theorem CopsWithin.pulse {s : State} (a : CopsWithin s) : CopsWithin (updDelivery Delivery.pulse s) := by
  have hle := a.phi
  have hd := a.phiD
  by_cases htop : s.delivery.phi = Config.top48
  · have hn : (updDelivery Delivery.pulse s).delivery.phi = s.delivery.phi := by
      simp only [updDelivery, Delivery.pulse, satAdd]; omega
    exact ⟨hn ▸ a.phi, hn ▸ a.phiD, fun sp h => hn ▸ a.cops sp h⟩
  · have hn : (updDelivery Delivery.pulse s).delivery.phi = s.delivery.phi + 1 := by
      simp only [updDelivery, Delivery.pulse, satAdd]; omega
    refine ⟨by omega, by rw [hn]; exact hd.trans (Nat.le_succ _), fun sp h => ?_⟩
    rw [hn]
    have h1 := copAt_succ_le s.delivery.phi sp
    have h2 := a.cops sp h
    show copAt (s.delivery.phi + 1) sp ≤ s.delivery.phi + 1 - s.doff.phiD
    omega

/-- R38: after a fall has stopped every spindle, none needs the drive. -/
theorem driven_stopEach (s : State) (hf : framed s) : drivenSound (stopEach (allSpindles s) (dropDrive s)) := by
  intro sp hsp hd
  obtain ⟨n, hn, rfl⟩ := (mem_spindles_iff _ sp).1 hsp
  obtain ⟨⟨_, _, _, hl⟩, _⟩ := hf
  rw [hasSpindle_of_runs (stopEach_runs _ _)] at hn
  have hb : 1 ≤ n ∧ n ≤ s.spindles.length := (hasSpindle_iff (dropDrive s) n).1 hn
  have hm : n ∈ allSpindles s := (mem_allSpindles s n).2 (hl ▸ hb)
  rw [← needsDrive_iff, state_stopEach, if_pos ⟨hm, hn⟩] at hd
  exact absurd hd (not_needsDrive_stopped _)

theorem cops_exec (c : Instr) (s t : State) (hon : ∀ a v d f, c ≠ .powerOnReset a v d f) (hoff : c ≠ .powerLoss)
    (hp : s.powered = true) (hf : framed s) (hi : CopsWithin s ∧ drivenSound s) (h : exec c s = .next t) :
    framed t ∧ CopsWithin t ∧ drivenSound t := by
  refine exec_keeps (fun s => CopsWithin s ∧ drivenSound s) (fun s t hf k a => ⟨k.cops hf.1 a.1, k.driven a.2⟩) (fun s a => ?_)
    (fun s a => ⟨a.1.pulse, a.2⟩) (fun v s a => ⟨⟨a.1.phi, a.1.phiD, a.1.cops⟩, a.2⟩)
    (fun s a => ⟨⟨a.1.phi, a.1.phiD, a.1.cops⟩, fun _ _ _ => rfl⟩) (fun s hf a => ?_) c s t hon hoff hp hf hi h
  · exact ⟨⟨a.1.phi, a.1.phiD, a.1.cops⟩, a.2⟩
  · have ha : CopsWithin (dropDrive s) := ⟨a.1.phi, a.1.phiD, a.1.cops⟩
    exact ⟨(stopEach_runs _ _).cops (framed_of_delivery rfl rfl hf).1 ha, driven_stopEach s hf⟩

/-! ## Every step -/

/-- A board without power takes no command but the two of the supply (assumption log entry 9). -/
theorem exec_unpowered (c : Instr) (s : State) (hon : ∀ a v d f, c ≠ .powerOnReset a v d f) (hoff : c ≠ .powerLoss)
    (hp : s.powered = false) : exec c s = .next s := by
  cases c
  case powerOnReset a v d f => exact absurd rfl (hon a v d f)
  case powerLoss => exact absurd rfl hoff
  case closeShift b body => cases b <;> exact live_unpowered _ s hp
  case setClock b body => cases b <;> exact live_unpowered _ s hp
  case driveRunningRise => exact live_unpowered (fun t => if t.delivery.driving then t else driveRise t) s hp
  case dofferActiveRise => exact live_unpowered (fun t => if t.doff.dofferActive then t else dofferRise t) s hp
  all_goals exact live_unpowered _ s hp

/-- What a command may be at a step: an idle step, power-on, power loss, a command of a board without power, or any other. -/
theorem step_cases {P : State → Prop} {s t : State} (hs : P s) (hq : ∀ s q, P s → P { s with pending := q })
    (on : ∀ s a v d f, P s → P (powerOn s.store a v d f s.pending)) (off : ∀ s, P s → P (powerOff s))
    (other : ∀ c s t, (∀ a v d f, c ≠ .powerOnReset a v d f) → c ≠ .powerLoss → s.powered = true → P s →
      exec c s = .next t → P t) (h : step s = .next t) : P t := by
  unfold step at h
  split at h
  · cases h; exact hs
  · rename_i c rest _
    have hr := hq s rest hs
    by_cases hon : ∀ a v d f, c ≠ .powerOnReset a v d f
    · by_cases hoff : c = .powerLoss
      · subst hoff; cases h; exact off _ hr
      · cases hp : s.powered
        · rw [exec_unpowered c { s with pending := rest } hon hoff hp] at h; cases h; exact hr
        · exact other c { s with pending := rest } t hon hoff hp hr h
    · simp only [ne_eq, not_forall, not_not] at hon
      obtain ⟨a, v, d, f, rfl⟩ := hon
      cases h; exact on _ a v d f hr

/-- R19, as it is said of a powered board. -/
theorem booksSound_iff (s : State) : booksSound s ↔ storeOk s.store ∧ (s.powered = true → framed s ∧ Accounts s) := by
  constructor
  · rintro ⟨⟨hst, hg⟩, hb⟩
    refine ⟨hst, fun hp => ?_⟩
    obtain ⟨ht, hr⟩ := hg hp
    obtain ⟨hn, ho, hm, he⟩ := hb hp
    refine ⟨⟨ht, hst, hr⟩, hn, ho, hm, ?_⟩
    rw [← he]
    refine (categoriesRead_total s (.inr ?_)).symm
    rw [he]
    calc s.spindles.length * (s.delivery.now - s.shift.openSecond)
        ≤ 2016 * Config.top32 := Nat.mul_le_mul ht.length_le ((Nat.sub_le _ _).trans hn)
      _ < Config.top48 := by decide
  · rintro ⟨hst, h⟩
    refine ⟨⟨hst, fun hp => ⟨(h hp).1.1, (h hp).1.2.2⟩⟩, fun hp => ?_⟩
    obtain ⟨hf, a⟩ := h hp
    exact ⟨a.now, a.opened, a.marks, (categoriesRead_total s (.inl (a.total_lt hf.1))).trans a.total⟩

/-- R4, R34, R152, with the geometry that a powered board has. -/
theorem copsSound_iff (s : State) :
    copsSound s ↔ storeOk s.store ∧ (s.powered = true → framed s) ∧ CopsWithin s ∧ drivenSound s := by
  constructor
  · rintro ⟨⟨hst, hg⟩, hd, hp, hq, hc⟩
    exact ⟨hst, fun h => ⟨(hg h).1, hst, (hg h).2⟩, ⟨hp, hq, hc⟩, hd⟩
  · rintro ⟨hst, hf, a, hd⟩
    exact ⟨⟨hst, fun h => ⟨(hf h).1, (hf h).2.2⟩⟩, hd, a.phi, a.phiD, a.cops⟩

theorem framed_powerOn (st : Store) (a v : Nat) (d f : Bool) (q : List Instr) (hs : storeOk st) : framed (powerOn st a v d f q) :=
  (powerOn_runs st a v d f q).framed (framed_blocksAtPowerOn _ _ a v d f q (storeOk_cutOff hs) (loadedImage_geometryOk (storeOk_cutOff hs)))

theorem accounts_powerOn (st : Store) (a v : Nat) (d f : Bool) (q : List Instr) (hs : storeOk st) :
    Accounts (powerOn st a v d f q) :=
  (powerOn_runs st a v d f q).books
    (framed_blocksAtPowerOn _ _ a v d f q (storeOk_cutOff hs) (loadedImage_geometryOk (storeOk_cutOff hs))).1
    (accounts_blocksAtPowerOn _ _ a v d f q)

theorem cops_powerOn (st : Store) (a v : Nat) (d f : Bool) (q : List Instr) (hs : storeOk st) :
    CopsWithin (powerOn st a v d f q) ∧ drivenSound (powerOn st a v d f q) :=
  have hr := powerOn_runs st a v d f q
  have ht := (framed_blocksAtPowerOn _ _ a v d f q (storeOk_cutOff hs) (loadedImage_geometryOk (storeOk_cutOff hs))).1
  ⟨hr.cops ht (copsWithin_blocksAtPowerOn _ _ a v d f q), hr.driven (driven_blocksAtPowerOn _ _ a v d f q)⟩

/-- Settles O6, by the books that every command keeps (`accounts_exec`). -/
theorem stepKeepsTheBooks : Obligations.StepKeepsTheBooks := by
  intro s t hs h
  refine step_cases hs (fun _ _ hb => hb) (fun s a v d f hb => ?_) (fun s hb => ?_) (fun c s t hon hoff hp hb hx => ?_) h
  · obtain ⟨hst, _⟩ := (booksSound_iff s).1 hb
    have hf := framed_powerOn s.store a v d f s.pending hst
    exact (booksSound_iff _).2 ⟨hf.2.1, fun _ => ⟨hf, accounts_powerOn s.store a v d f s.pending hst⟩⟩
  · obtain ⟨hst, _⟩ := (booksSound_iff s).1 hb
    exact (booksSound_iff _).2 ⟨storeOk_cutOff hst, fun hp => nomatch hp⟩
  · obtain ⟨_, hk⟩ := (booksSound_iff s).1 hb
    obtain ⟨hf, a⟩ := accounts_exec c s t hon hoff hp (hk hp).1 (hk hp).2 hx
    exact (booksSound_iff _).2 ⟨hf.2.1, fun _ => ⟨hf, a⟩⟩

/-- Settles O7, by the cops and the drive that every command keeps (`cops_exec`). -/
theorem stepKeepsCopsWithinProgress : Obligations.StepKeepsCopsWithinProgress := by
  intro s t hs h
  refine step_cases hs (fun _ _ hb => hb) (fun s a v d f hb => ?_) (fun s hb => ?_) (fun c s t hon hoff hp hb hx => ?_) h
  · obtain ⟨hst, _⟩ := (copsSound_iff s).1 hb
    have hf := framed_powerOn s.store a v d f s.pending hst
    exact (copsSound_iff _).2 ⟨hf.2.1, fun _ => hf, cops_powerOn s.store a v d f s.pending hst⟩
  · obtain ⟨hst, _⟩ := (copsSound_iff s).1 hb
    refine (copsSound_iff _).2 ⟨storeOk_cutOff hst, (fun hp => nomatch hp), ⟨Nat.zero_le _, Nat.le_refl _, ?_⟩, ?_⟩
    · exact fun sp h => nomatch h
    · exact fun sp h => nomatch h
  · obtain ⟨_, hk, hc⟩ := (copsSound_iff s).1 hb
    obtain ⟨hf, hc'⟩ := cops_exec c s t hon hoff hp (hk hp) hc hx
    exact (copsSound_iff _).2 ⟨hf.2.1, fun _ => hf, hc'⟩

/-! ## What stands between power-on resets (R3, R4, R6, R7, R8, R187) -/

/-- The level of drive running set. -/
def withDriving (b : Bool) (s : State) : State := updDelivery (fun dl => { dl with driving := b }) s

theorem ClocksStand.withDriving {s t : State} (b : Bool) (k : ClocksStand s t) :
    ClocksStand (withDriving b s) (withDriving b t) :=
  ⟨k.powered, k.sides, k.sectors, k.d, k.p, k.address, k.speed, k.phi, k.now, k.clockSet, k.mill, rfl⟩

theorem ClocksStand.loadClock {s t : State} (v : Nat) (k : ClocksStand s t) : ClocksStand (loadClock v s) (loadClock v t) :=
  ⟨k.powered, k.sides, k.sectors, k.d, k.p, k.address, k.speed, k.phi, k.now, rfl, rfl, k.driving⟩

/-- R8: of all clocks a rise moves the level of drive running alone. -/
theorem driveRise_clocks (s : State) : ClocksStand (withDriving true s) (driveRise s) := by
  have h (u : State) : ClocksStand (withDriving true u) (assertDrive u) := ⟨rfl, rfl, rfl, rfl, rfl, rfl, rfl, rfl, rfl, rfl, rfl, rfl⟩
  rw [driveRise_eq]
  exact (((settleAll_runs s).clocks.withDriving true).trans (h _)).trans
    ((attemptBoth_any _).runs.after (startEach_runs _ (assertDrive (settleAll s)) rfl)).clocks

/-- R8: of all clocks a fall moves the level of drive running alone. -/
theorem driveFall_clocks (s : State) : ClocksStand (withDriving false s) (driveFall s) := by
  have h (u : State) : ClocksStand (withDriving false u) (dropDrive u) := ⟨rfl, rfl, rfl, rfl, rfl, rfl, rfl, rfl, rfl, rfl, rfl, rfl⟩
  rw [driveFall_eq]
  exact (((settleAll_runs s).clocks.withDriving false).trans (h _)).trans ((doffAtFall_runs _).after (stopEach_runs _ _)).clocks

/-- Settles O3: a command that moves no clock keeps them all (`Runs.clocks`), and each of the others moves its own alone. -/
theorem geometryAndClocksStand : Obligations.GeometryAndClocksStand := by
  intro c s t hon hoff h
  by_cases hc : movesClocks c = false
  · have k := (exec_runs c s t hc h).clocks
    exact ⟨k.powered, k.sides, k.sectors, k.d, k.p, k.address, k.speed, fun _ => k.phi, fun _ => k.now, fun _ => k.clockSet,
      fun _ _ => k.mill, fun _ _ => k.driving⟩
  cases hp : s.powered
  · rw [exec_unpowered c s hon hoff hp] at h
    cases h
    exact ⟨hp, rfl, rfl, rfl, rfl, rfl, rfl, fun _ => rfl, fun _ => rfl, fun _ => rfl, fun _ _ => rfl, fun _ _ => rfl⟩
  cases c <;> simp only [movesClocks, not_true_eq_false] at hc
  case powerOnReset a v d f => exact absurd rfl (hon a v d f)
  case powerLoss => exact absurd rfl hoff
  case runSecond =>
    rw [live_next h, if_pos hp]
    exact ⟨hp, rfl, rfl, rfl, rfl, rfl, rfl, fun _ => rfl, fun x => absurd rfl x, fun _ => rfl, fun x => absurd rfl x, fun _ _ => rfl⟩
  case frontRollerPulse =>
    rw [live_next h, if_pos hp]
    have k := (rollerPulse_runs { s with emitted := [] }).clocks
    exact ⟨k.powered.trans hp, k.sides, k.sectors, k.d, k.p, k.address, k.speed, fun x => absurd rfl x, fun _ => k.now,
      fun _ => k.clockSet, fun _ _ => k.mill, fun _ _ => k.driving⟩
  case driveRunningRise =>
    rw [live_next (act := fun t => if t.delivery.driving then t else driveRise t) h, if_pos hp]
    dsimp only; split
    · exact ⟨hp, rfl, rfl, rfl, rfl, rfl, rfl, fun _ => rfl, fun _ => rfl, fun _ => rfl, fun _ _ => rfl, fun _ _ => rfl⟩
    · have k := driveRise_clocks { s with emitted := [] }
      exact ⟨k.powered.trans hp, k.sides, k.sectors, k.d, k.p, k.address, k.speed, fun _ => k.phi, fun _ => k.now,
        fun _ => k.clockSet, fun _ _ => k.mill, fun x => absurd rfl x⟩
  case driveRunningFall =>
    rw [live_next (act := fun t => if t.delivery.driving then driveFall t else t) h, if_pos hp]
    dsimp only; split
    · have k := driveFall_clocks { s with emitted := [] }
      exact ⟨k.powered.trans hp, k.sides, k.sectors, k.d, k.p, k.address, k.speed, fun _ => k.phi, fun _ => k.now,
        fun _ => k.clockSet, fun _ _ => k.mill, fun _ x => absurd rfl x⟩
    · exact ⟨hp, rfl, rfl, rfl, rfl, rfl, rfl, fun _ => rfl, fun _ => rfl, fun _ => rfl, fun _ _ => rfl, fun _ _ => rfl⟩
  case setClock b body =>
    obtain ⟨u, hu, hk | hk⟩ := setClock_runs b body s t h
    · have k := hu.clocks.trans hk.clocks
      exact ⟨k.powered.trans hp, k.sides, k.sectors, k.d, k.p, k.address, k.speed, fun _ => k.phi, fun _ => k.now,
        fun _ => k.clockSet, fun _ _ => k.mill, fun _ _ => k.driving⟩
    · have k := (hu.clocks.loadClock _).trans hk.clocks
      exact ⟨k.powered.trans hp, k.sides, k.sectors, k.d, k.p, k.address, k.speed, fun _ => k.phi, fun _ => k.now,
        fun x => absurd rfl (x b body), fun _ x => absurd rfl (x b body), fun _ _ => k.driving⟩

end Sys2Proof.Machine

/-! # Arithmetic, the state after reset, the clocks and the plain writes -/

namespace Sys2Proof.Machine

open Sys2Proof

/-! ## Delivery arithmetic (R12, R15, R16) -/

/-- Settles O58: both clauses on a shift read the rate of their categories. -/
theorem breakRateIsRoundedHalfUp : Obligations.BreakRateIsRoundedHalfUp :=
  ⟨fun _ _ => rfl, fun _ => rfl, fun _ => rfl⟩

/-- Settles O13. -/
theorem secondAdvancesBothClocks : Obligations.SecondAdvancesBothClocks := by
  intro s hp
  exact live_powered _ s hp

/-- A division rounded up reaches its dividend, and is the least that does. -/
theorem ceilDiv_spec (a b : Nat) (hb : 0 < b) : a ≤ ceilDiv a b * b ∧ (0 < a → (ceilDiv a b - 1) * b < a) ∧ (0 < a → 0 < ceilDiv a b) := by
  unfold ceilDiv
  have hd := Nat.div_add_mod (a + b - 1) b
  have hm := Nat.mod_lt (a + b - 1) hb
  rw [Nat.mul_comm] at hd
  refine ⟨by omega, fun ha => ?_, fun ha => Nat.div_pos (by omega) hb⟩
  rw [Nat.sub_mul]
  omega

/-- R12: W lies below D, and D is the first pulse at or past the set length. -/
theorem doffPulses_bounds (dl : Delivery) (lot : Lot) (hd : 1800 ≤ dl.d) (hp : 1 ≤ dl.p) (hl : 1 ≤ lot.ls) :
    warningPulses dl lot < doffPulses dl lot ∧ lot.ls * 1000 * factorK dl ≤ doffPulses dl lot * factorM dl ∧
      (doffPulses dl lot - 1) * factorM dl < lot.ls * 1000 * factorK dl := by
  have hM : 0 < factorM dl := by unfold factorM; omega
  have hK : 0 < lot.ls * 1000 * factorK dl := Nat.mul_pos (by omega) (by unfold factorK; omega)
  obtain ⟨hle, hlt, hpos⟩ := ceilDiv_spec (lot.ls * 1000 * factorK dl) (factorM dl) hM
  have hD : 0 < doffPulses dl lot := hpos hK
  refine ⟨?_, hle, hlt hK⟩
  unfold warningPulses
  omega

theorem efficiency_eq_some {running denominator x : Nat} (h : efficiency running denominator = some x) :
    0 < denominator ∧ x = running * 10000 / denominator := by
  unfold efficiency at h
  split at h
  · cases h
  · exact ⟨by omega, (Option.some.inj h).symm⟩

/-- Settles O59, from the bounds of D (`doffPulses_bounds`) and from the denominators of R15, one of which holds the other. -/
theorem figuresStayInTheirBounds : Obligations.FiguresStayInTheirBounds := by
  refine ⟨doffPulses_bounds, fun c se fe hs hf => ?_⟩
  obtain ⟨ps, rfl⟩ := efficiency_eq_some hs
  obtain ⟨pf, rfl⟩ := efficiency_eq_some hf
  refine ⟨Nat.div_le_div_left (by unfold Categories.total; omega) ps, ?_⟩
  exact Nat.div_le_of_le_mul (Nat.mul_le_mul_right 10000 (by omega))

/-! ## Power-on reset (R3 to R9, R186) -/

theorem nth_map_range' {α : Type} (f : Nat → α) (k n : Nat) (d : α) (h1 : 1 ≤ n) (hn : n ≤ k) :
    nth ((List.range' 1 k).map f) n d = f n := by
  obtain ⟨j, rfl⟩ : ∃ j, n = j + 1 := ⟨n - 1, by omega⟩
  have hj : j < k := by omega
  simp [nth_succ, hj, Nat.add_comm]

/-- Settles O11: the blocks of power-on reset, read field by field. -/
theorem powerOnLoadsTheNewestCopy : Obligations.PowerOnLoadsTheNewestCopy := by
  intro s address speed driving dofferActive copy image h
  have hl : loadedImage s.store.cutOff = image := by simp [loadedImage, h]
  have hon : powerOn s.store address speed driving dofferActive s.pending =
      blocksAtPowerOn image s.store.cutOff address speed driving dofferActive s.pending := by
    simp [powerOn, h, hl]
  refine ⟨_, congrArg Host.Outcome.next hon, rfl, rfl, rfl, rfl, rfl, rfl, rfl, rfl, rfl, rfl, rfl, rfl, rfl, rfl, rfl, rfl, rfl,
    rfl, by simp [blocksAtPowerOn], fun n h1 hn => ?_, rfl, rfl, rfl, rfl, rfl, fun l hl => List.eq_of_mem_replicate hl,
    List.length_replicate, fun l hl => List.eq_of_mem_replicate hl, List.length_replicate, rfl, rfl, ?_, rfl, rfl, rfl, rfl, rfl, rfl,
    rfl, rfl, rfl, rfl, rfl, rfl, rfl, rfl, rfl, rfl, rfl, ?_, rfl, rfl, rfl⟩
  · exact nth_map_range' _ _ n _ h1 (by simpa [blocksAtPowerOn] using hn)
  · simp [blocksAtPowerOn, drowseAtReset]
  · cases hr : image.ring <;> simp [blocksAtPowerOn, shiftNumberAtPowerOn, hr]

/-! ## The plain writes (R7, R153) -/

/-- R208: two bytes of a body stand for a 16-bit number. -/
theorem numberOf_two (x y : Byte) : numberOf [x, y] = x.toNat * 256 + y.toNat := by simp [numberOf]

/-- R208: a number up to 255 is one byte. -/
theorem field_one (n : Nat) (h : n ≤ 255) : field 1 n = [BitVec.ofNat 8 n] := by
  simp [field, bytesOf, Nat.min_eq_left h]

theorem flatMap_field_one : ∀ l : List Nat, (∀ f ∈ l, f ≤ 255) → l.flatMap (field 1) = l.map (BitVec.ofNat 8)
  | [], _ => rfl
  | n :: l, h => by
    rw [List.flatMap_cons, field_one n (h n List.mem_cons_self), flatMap_field_one l fun f k => h f (List.mem_cons_of_mem _ k)]
    rfl

/-- R202: the body of a reply that is CLAMPED where some field was, the count and each number one byte. -/
theorem takenClamped_body (fields : List Nat) (s : State) (hl : fields.length ≤ 255) (hf : ∀ f ∈ fields, f ≤ 255) :
    (takenClamped fields s).body =
      if fields.map (BitVec.ofNat 8) = [] then okBody
      else 1 :: BitVec.ofNat 8 (fields.map (BitVec.ofNat 8)).length :: fields.map (BitVec.ofNat 8) := by
  cases fields with
  | nil => rfl
  | cons n l =>
    simp only [takenClamped, clampedBody, List.isEmpty_cons, field_one _ hl, flatMap_field_one _ hf, List.length_map]
    rw [if_neg (by decide), if_neg (by simp)]
    rfl

theorem hold_takenClamped (kind : Nat) (fields : List Nat) (s : State) :
    hold kind (takenClamped fields { s with emitted := [] }) = withReply kind (takenClamped fields s).body .none s := rfl

/-- R181: the items whose values are clamped, one by one. -/
theorem clampedFields_cons (it : Nat × Nat) (items : List (Nat × Nat)) :
    clampedFields (it :: items) = (if clampField it.1 it.2 = it.2 then [] else [it.1]) ++ clampedFields items := by
  unfold clampedFields
  by_cases h : clampField it.1 it.2 = it.2 <;> simp [h]

theorem clampedFields_nil : clampedFields [] = [] := rfl

/-- R153, R181: the clamped fields of a lot sent are among 6 to 11, the lot number being in range as sent. -/
theorem clampedFields_lot (n t r ls lw lr ps : Nat) (hn : n ≤ 65535) :
    clampedFields [(5, n), (6, t), (7, r), (8, ls), (9, lw), (10, lr), (11, ps)] =
      (if max 400 (min 20000 t) = t then [] else [6]) ++ (if max 1000 (min 8000 r) = r then [] else [7]) ++
        (if max 500 (min 12000 ls) = ls then [] else [8]) ++ (if min 2000 lw = lw then [] else [9]) ++
        (if max 500 (min 8000 lr) = lr then [] else [10]) ++ (if max 10 (min 95 ps) = ps then [] else [11]) := by
  have h5 : min 65535 n = n := Nat.min_eq_right hn
  simp only [clampedFields_cons, clampedFields_nil, clampField, clampTo, h5, Nat.zero_max, if_true, List.nil_append,
    List.append_nil, List.append_assoc]

/-- R153, R181: the lot that a Write Lot makes pending. -/
theorem lotOf_items (n t r ls lw lr ps : Nat) (hn : n ≤ 65535) :
    lotOf [(5, n), (6, t), (7, r), (8, ls), (9, lw), (10, lr), (11, ps)] =
      { number := n, t := max 400 (min 20000 t), r := max 1000 (min 8000 r), ls := max 500 (min 12000 ls), lw := min 2000 lw,
        lr := max 500 (min 8000 lr), ps := max 10 (min 95 ps) } := by
  have h5 : min 65535 n = n := Nat.min_eq_right hn
  simp only [lotOf, List.foldl_cons, List.foldl_nil, Lot.set, clampField, clampTo, h5, Nat.zero_max]

theorem length_clampedFields_le (items : List (Nat × Nat)) : (clampedFields items).length ≤ items.length := by
  unfold clampedFields; rw [List.length_map]; exact List.length_filter_le _ _

theorem mem_clampedFields {f : Nat} {items : List (Nat × Nat)} (h : f ∈ clampedFields items) : ∃ it ∈ items, it.1 = f := by
  obtain ⟨it, hit, rfl⟩ := List.mem_map.1 h
  exact ⟨it, List.mem_of_mem_filter hit, rfl⟩

/-- Settles O44: a Set Clock and a Write Lot at a unit that listens. -/
theorem plainWritesChangeOneThing : Obligations.PlainWritesChangeOneThing := by
  constructor
  · intro s a b c d broadcast h
    have hv : bodyNumber [a, b, c, d] 0 4 = ((a.toNat * 256 + b.toNat) * 256 + c.toNat) * 256 + d.toNat := by
      simp [bodyNumber, numberOf]
    cases broadcast
    · refine (takeRequest_ready 0x1E _ _ s h).trans ?_
      rw [hv]; rfl
    · obtain ⟨hp, _, hr, hn⟩ := h
      refine (live_powered _ s hp).trans ?_
      have hw : withholdReply { s with emitted := [] } = { s with emitted := [] } := withholdReply_none _ hn
      have hline : { s.line with receiver := Receiver.hunting } = s.line := by rw [← hr]
      rw [hv]
      simp only [takeBroadcast, receive, hw, hr, Receiver.takes, hunt, updLine, loadClock, updDelivery]
      simp [hline]
  · intro s n1 n2 t1 t2 r1 r2 ls1 ls2 lw1 lw2 lr1 lr2 ps h
    refine (takeRequest_ready 0x10 _ _ s h).trans ?_
    have hitems : lotItems [n1, n2, t1, t2, r1, r2, ls1, ls2, lw1, lw2, lr1, lr2, ps] =
        [(5, n1.toNat * 256 + n2.toNat), (6, t1.toNat * 256 + t2.toNat), (7, r1.toNat * 256 + r2.toNat),
          (8, ls1.toNat * 256 + ls2.toNat), (9, lw1.toNat * 256 + lw2.toNat), (10, lr1.toNat * 256 + lr2.toNat),
          (11, ps.toNat)] := by
      simp [lotItems, bodyNumber, numberOf]
    have hn : n1.toNat * 256 + n2.toNat ≤ 65535 := by have := n1.isLt; have := n2.isLt; omega
    have hb := takenClamped_body (clampedFields (lotItems [n1, n2, t1, t2, r1, r2, ls1, ls2, lw1, lw2, lr1, lr2, ps]))
      (updDoff (fun d => { d with pendingLot := some (lotOf (lotItems [n1, n2, t1, t2, r1, r2, ls1, ls2, lw1, lw2, lr1, lr2, ps])) }) s)
      ((length_clampedFields_le _).trans (by simp [lotItems])) fun f hf => by
        obtain ⟨it, hit, rfl⟩ := mem_clampedFields hf
        simp only [lotItems, List.mem_cons, List.not_mem_nil, or_false] at hit
        rcases hit with rfl | rfl | rfl | rfl | rfl | rfl | rfl <;> simp
    refine (congrArg Host.Outcome.next (hold_takenClamped 0x10 _ (updDoff (fun d =>
      { d with pendingLot := some (lotOf (lotItems [n1, n2, t1, t2, r1, r2, ls1, ls2, lw1, lw2, lr1, lr2, ps])) }) s))).trans ?_
    rw [hb, hitems, clampedFields_lot _ _ _ _ _ _ _ hn, lotOf_items _ _ _ _ _ _ _ hn]
    simp only [List.map_append, apply_ite (List.map (BitVec.ofNat 8)), List.map_cons, List.map_nil]
    rfl

/-! ## The state after reset (entry 1) -/

/-- R21: every spindle record is fresh after reset. -/
theorem mem_reset_spindles {sp : Spindle} (h : sp ∈ State.reset.spindles) : sp = freshSpindle .idle false :=
  List.eq_of_mem_replicate h

theorem spindle_reset (n : Nat) : spindle State.reset n = freshSpindle .idle false ∨ spindle State.reset n = default := by
  cases h : hasSpindle State.reset n
  · refine .inr ?_
    cases n with
    | zero => rfl
    | succ k =>
      have hk : State.reset.spindles.length ≤ k := by simp [hasSpindle] at h; omega
      simp [spindle, nth_succ, hk]
  · exact .inl (mem_reset_spindles (spindle_mem _ n h))

theorem defaultRetained_geometryOk : defaultRetained.geometryOk := ⟨.inr rfl, by decide, by decide⟩

theorem storeOk_reset : storeOk State.reset.store := by
  refine ⟨(fun _ h => nomatch h), (fun _ h => nomatch h), fun x h => ?_⟩
  obtain rfl := Option.some.inj h
  exact defaultRetained_geometryOk

theorem framed_reset : framed State.reset :=
  ⟨⟨.inr rfl, by decide, by decide, List.length_replicate⟩, storeOk_reset, defaultRetained_geometryOk⟩

theorem outputsSound_reset : outputsSound State.reset := by
  refine ⟨⟨(fun h => nomatch h), ?_⟩, ⟨(fun h => nomatch h), ?_⟩, ⟨fun _ => ⟨.storeInvalid, by decide, by decide, by decide⟩, fun _ => rfl⟩⟩
  · rintro ⟨c, h | h | ⟨r, h⟩⟩ <;> cases h
  · rintro ⟨c, r, h⟩; cases h

theorem capacitiesSound_reset : capacitiesSound State.reset := by
  refine ⟨Nat.zero_le _, Nat.zero_le _, by decide, Nat.zero_le _, Nat.zero_le _, by decide, fun sp h => ?_, (fun _ h => nomatch h),
    (fun _ h => nomatch h), fun x h => ?_, (fun _ h => nomatch h), (fun _ h => nomatch h), (fun _ h => nomatch h)⟩
  · obtain rfl := mem_reset_spindles h
    exact ⟨Nat.zero_le _, Nat.zero_le _, Nat.zero_le _, Nat.zero_le _⟩
  · obtain rfl := Option.some.inj h
    exact Nat.zero_le _

theorem accounts_reset : Accounts State.reset where
  now := Nat.zero_le _
  opened := Nat.le_refl _
  marks sp h := by obtain rfl := mem_reset_spindles h; exact Nat.le_refl _
  total := by
    have h0 : owedTotal 0 State.reset.spindles = 0 := by
      refine List.sum_eq_zero fun x hx => ?_
      obtain ⟨sp, _, rfl⟩ := List.mem_map.1 hx
      exact Nat.zero_sub _
    have hn : State.reset.delivery.now - State.reset.shift.openSecond = 0 := rfl
    have hc : State.reset.shift.categories.total = 0 := rfl
    rw [hn, hc, Nat.mul_zero, Nat.zero_add]
    exact h0

theorem copsWithin_reset : CopsWithin State.reset where
  phi := Nat.zero_le _
  phiD := Nat.le_refl _
  cops sp h := by obtain rfl := mem_reset_spindles h; exact Nat.le_refl _

theorem drivenSound_reset : drivenSound State.reset := by
  intro sp h hd
  obtain rfl := mem_reset_spindles h
  exact hd.elim (fun k => nomatch k) (fun k => nomatch k)

theorem listsSound_reset : listsSound State.reset := by
  have hidle (n : Nat) : (spindle State.reset n).state.isBroken = false ∧ (spindle State.reset n).unlisted = false := by
    rcases spindle_reset n with h | h <;> rw [h] <;> exact ⟨rfl, rfl⟩
  refine ⟨⟨storeOk_reset, fun _ => ⟨framed_reset.1, defaultRetained_geometryOk⟩⟩, fun _ => ⟨.nil, .nil, Nat.zero_le _, Nat.zero_le _,
    (fun _ h => nomatch h), (fun _ h => nomatch h), fun n _ => ?_, fun side _ => .inl ?_, by decide⟩⟩
  · rw [listedSound, (hidle n).1]; exact (hidle n).2
  · exact List.filter_eq_nil_iff.2 fun n _ => by rw [(hidle n).2]; decide

/-- Settles O9. -/
theorem resetMeetsTheInvariants : Obligations.ResetMeetsTheInvariants :=
  ⟨outputsSound_reset, fun ⟨_, _, h⟩ => (nomatch h), capacitiesSound_reset,
    (booksSound_iff _).2 ⟨storeOk_reset, fun _ => ⟨framed_reset, accounts_reset⟩⟩,
    (copsSound_iff _).2 ⟨storeOk_reset, fun _ => framed_reset, copsWithin_reset, drivenSound_reset⟩, listsSound_reset⟩

end Sys2Proof.Machine

/-! # The doff sequencer's entries, and the front-roller pulse -/

namespace Sys2Proof.Machine

open Sys2Proof

/-! ## PARK (R93) -/

/-- R93: a carriage record to which PARK is sent, or one that it leaves alone. -/
def Carriage.parkTold (deadline : Nat) (c : Carriage) : Carriage :=
  match c.link with
  | .enrolled st side pos dir w =>
    match parkedWork w with
    | some w' => { c with link := .enrolled st side pos dir w', parkTimer := some deadline }
    | none => c
  | _ => c

/-- R93: the PARK sent to a record, if it is sent one. -/
def Carriage.parkMessage (c : Carriage) : List Output :=
  match c.link with
  | .enrolled st _ _ _ w => if (parkedWork w).isSome then [.carriage st.number .park] else []
  | _ => []

theorem carriage_updCarriage (r q : RecordNo) (f : Carriage → Carriage) (s : State) :
    carriage (updCarriage r f s) q = if q = r then f (carriage s q) else carriage s q := by
  cases r <;> cases q <;> rfl

/-- R93: PARK to one record, as a change of the record and a message. -/
theorem parkRecord_eq (r : RecordNo) (s : State) :
    parkRecord r s = updCarriage r (Carriage.parkTold (s.delivery.now + s.settings.working.parkTimeout))
      { s with emitted := s.emitted ++ (carriage s r).parkMessage } := by
  cases hl : (carriage s r).link with
  | absent => cases r <;> simp_all [parkRecord, carriage, Carriage.parkMessage, updCarriage, Carriage.parkTold]
  | rejected st side => cases r <;> simp_all [parkRecord, carriage, Carriage.parkMessage, updCarriage, Carriage.parkTold]
  | enrolled st side pos dir w =>
    cases hw : parkedWork w with
    | none => cases r <;> simp_all [parkRecord, carriage, Carriage.parkMessage, updCarriage, Carriage.parkTold]
    | some w' =>
      cases r <;>
        simp_all [parkRecord, carriage, Carriage.parkMessage, updCarriage, Carriage.parkTold, emit, CarriageLink.withWork]

theorem carriage_parkRecord (r q : RecordNo) (s : State) :
    carriage (parkRecord r s) q =
      if q = r then (carriage s q).parkTold (s.delivery.now + s.settings.working.parkTimeout) else carriage s q := by
  rw [parkRecord_eq, carriage_updCarriage]; rfl

theorem emitted_parkRecord (r : RecordNo) (s : State) :
    (parkRecord r s).emitted = s.emitted ++ (carriage s r).parkMessage := by
  rw [parkRecord_eq]; cases r <;> rfl

theorem parkTold_isClear (deadline : Nat) (c : Carriage) : (c.parkTold deadline).link.isClear = c.link.isClear := by
  unfold Carriage.parkTold
  cases hl : c.link with
  | enrolled st side pos dir w => cases w <;> simp [parkedWork, hl, CarriageLink.isClear]
  | _ => simp [hl]

/-- PARK to record 1, then to record 2 (entry 39). -/
def parkBoth (s : State) : State := parkRecord .two (parkRecord .one s)

theorem parkBoth_onlyTables (s : State) : onlyTables s (parkBoth s) := (parkRecord_onlyTables _ _).after (parkRecord_onlyTables _ _)

theorem parkRecord_settings (r : RecordNo) (s : State) : (parkRecord r s).settings = s.settings := by
  obtain ⟨_, hu⟩ := parkRecord_onlyTables r s; rw [hu]

theorem parkRecord_delivery (r : RecordNo) (s : State) : (parkRecord r s).delivery = s.delivery := by
  obtain ⟨_, hu⟩ := parkRecord_onlyTables r s; rw [hu]

theorem carriage_parkBoth (r : RecordNo) (s : State) :
    carriage (parkBoth s) r = (carriage s r).parkTold (s.delivery.now + s.settings.working.parkTimeout) := by
  simp only [parkBoth, carriage_parkRecord, parkRecord_delivery, parkRecord_settings]
  cases r <;> simp

theorem emitted_parkBoth (r : RecordNo) (s : State) : ∀ o ∈ (carriage s r).parkMessage, o ∈ (parkBoth s).emitted := by
  intro o ho
  simp only [parkBoth, emitted_parkRecord, List.mem_append, carriage_parkRecord]
  cases r
  · exact .inl (.inr ho)
  · exact .inr ho

theorem frameClear_parkBoth (s : State) : frameClear (parkBoth s) = frameClear s := by
  have h (r : RecordNo) : (carriage (parkBoth s) r).link.isClear = (carriage s r).link.isClear := by
    rw [carriage_parkBoth, parkTold_isClear]
  exact congrArg₂ _ (h .one) (h .two)

/-- R93: PARK has been sent to both records, as a statement of records and messages. -/
theorem parkSent_of_told {s t : State}
    (hc : ∀ r, carriage t r = (carriage s r).parkTold (s.delivery.now + s.settings.working.parkTimeout))
    (hm : ∀ r, ∀ o ∈ (carriage s r).parkMessage, o ∈ t.emitted) : parkSent s t := by
  intro r
  have hc := hc r
  have hm := hm r
  unfold Carriage.parkTold at hc
  unfold Carriage.parkMessage at hm
  cases hl : (carriage s r).link with
  | enrolled st side pos dir w => cases w <;> simp_all [parkedWork]
  | _ => simp_all

/-! ## Entries to the doff states (R137 to R143) -/

/-- Nothing but the frame's tables, the rails, the drowse and, in the doff sequencer, its state, its outputs, its number and its two
flags has changed. -/
def onlySequence (s t : State) : Prop :=
  ∃ u : State,
    t =
      { s with
        emitted := u.emitted, railA := u.railA, railB := u.railB, drowse := u.drowse, spindles := u.spindles, lamps := u.lamps
        listA := u.listA, listB := u.listB, car1 := u.car1, car2 := u.car2, locks := u.locks, planner := u.planner
        shift := u.shift
        doff :=
          { s.doff with
            phase := u.doff.phase, hold := u.doff.hold, overdue := u.doff.overdue, number := u.doff.number
            request := u.doff.request, clear := u.doff.clear } }

theorem onlySequence.refl (s : State) : onlySequence s s := ⟨s, rfl⟩

theorem onlySequence.after {s t u : State} (k : onlySequence t u) (h : onlySequence s t) : onlySequence s u := by
  obtain ⟨_, rfl⟩ := h; obtain ⟨x, rfl⟩ := k; exact ⟨x, rfl⟩

theorem onlyTables.sequence {s t : State} (h : onlyTables s t) : onlySequence s t := by
  obtain ⟨u, rfl⟩ := h
  exact ⟨{ s with
    emitted := u.emitted, spindles := u.spindles, lamps := u.lamps, listA := u.listA, listB := u.listB, car1 := u.car1
    car2 := u.car2, locks := u.locks, planner := u.planner, shift := u.shift }, rfl⟩

theorem updDoff_onlySequence (f : Doff → Doff) (s : State)
    (h : f s.doff =
      { s.doff with
        phase := (f s.doff).phase, hold := (f s.doff).hold, overdue := (f s.doff).overdue, number := (f s.doff).number
        request := (f s.doff).request, clear := (f s.doff).clear }) : onlySequence s (updDoff f s) :=
  ⟨updDoff f s, by rw [updDoff, h]⟩

theorem toPhase_onlySequence (ph : DoffPhase) (s : State) : onlySequence s (updDoff (fun d => d.toPhase ph) s) :=
  updDoff_onlySequence _ _ rfl

theorem testDrowse_onlySequence (s : State) : onlySequence s (testDrowse s) := by
  unfold testDrowse; split
  · exact ⟨takeDrowse s, rfl⟩
  · exact .refl s

theorem enterPhase_onlySequence (ph : DoffPhase) (s : State) : onlySequence s (enterPhase ph s) := by
  have h : onlySequence s (testDrowse (updDoff (fun d => d.toPhase ph) s)) :=
    (testDrowse_onlySequence _).after (toPhase_onlySequence ph s)
  unfold enterPhase; dsimp only; split
  · exact (attemptBoth_onlyTables _).sequence.after h
  · exact h

theorem testDrowse_doff (s : State) : (testDrowse s).doff = s.doff := by
  unfold testDrowse; split <;> rfl

theorem attemptBoth_doff (s : State) : (attemptBoth s).doff = s.doff := by
  obtain ⟨_, hu⟩ := attemptBoth_onlyTables s; rw [hu]

/-- R137: an entry sets the state and the outputs that follow it. -/
theorem enterPhase_doff (ph : DoffPhase) (s : State) : (enterPhase ph s).doff = s.doff.toPhase ph := by
  unfold enterPhase; dsimp only; split
  · rw [attemptBoth_doff, testDrowse_doff]; rfl
  · rw [testDrowse_doff]; rfl

/-- R143: DOFFING entered: the next number, and the record opened. -/
theorem enterDoffing_eq (call : CallInfo) (s : State) :
    enterDoffing call s =
      updDoff (fun d =>
        { d with number := nextDoffNumber d.number }.toPhase
          (.doffing call (openRecord call (updDoff (fun d => { d with number := nextDoffNumber d.number }) s)))) s := by
  unfold enterDoffing; dsimp only
  rw [enterPhase_inDoff _ _ rfl]; rfl

/-- R141, R142: PARKING entered: PARK is sent, and where every carriage is clear DOFFING follows at once. -/
theorem enterParking_eq (call : CallInfo) (s : State) :
    enterParking call s =
      if frameClear s then enterDoffing call (parkBoth (updDoff (fun d => d.toPhase (.parking call)) s))
      else parkBoth (updDoff (fun d => d.toPhase (.parking call)) s) := by
  have hd : (parkBoth (updDoff (fun d => d.toPhase (.parking call)) s)).doff.phase = .parking call := by
    obtain ⟨_, hu⟩ := parkBoth_onlyTables (updDoff (fun d => d.toPhase (.parking call)) s); rw [hu]; rfl
  have hc : frameClear (parkBoth (updDoff (fun d => d.toPhase (.parking call)) s)) = frameClear s := frameClear_parkBoth _
  unfold enterParking
  rw [enterPhase_inDoff _ _ rfl]
  change testClear (parkBoth _) = _
  unfold testClear
  rw [hd, hc]

theorem enterDoffing_onlySequence (call : CallInfo) (s : State) : onlySequence s (enterDoffing call s) := by
  rw [enterDoffing_eq]; exact updDoff_onlySequence _ _ rfl

theorem enterParking_onlySequence (call : CallInfo) (s : State) : onlySequence s (enterParking call s) := by
  have h : onlySequence s (parkBoth (updDoff (fun d => d.toPhase (.parking call)) s)) :=
    (parkBoth_onlyTables _).sequence.after (toPhase_onlySequence _ s)
  rw [enterParking_eq]; split
  · exact (enterDoffing_onlySequence _ _).after h
  · exact h

theorem enterParking_callInfo (call : CallInfo) (s : State) : (enterParking call s).doff.phase.callInfo = some call := by
  rw [enterParking_eq]; split
  · rw [enterDoffing_eq]; rfl
  · obtain ⟨_, hu⟩ := parkBoth_onlyTables (updDoff (fun d => d.toPhase (.parking call)) s); rw [hu]; rfl

theorem enterCalled_onlySequence (early forced : Bool) (s : State) : onlySequence s (enterCalled early forced s) := by
  have h (call : CallInfo) : onlySequence s (enterPhase (.called call) (updDoff (fun d => { d with hold := false, overdue := false }) s)) :=
    (enterPhase_onlySequence _ _).after (updDoff_onlySequence _ _ rfl)
  unfold enterCalled; dsimp only; split
  · exact h _
  · exact (enterParking_onlySequence _ _).after (h _)

/-- R140: the call flags and the call stamp of a doff called. -/
theorem enterCalled_calledWith (early forced : Bool) (s : State) :
    calledWith early forced s.doff.overdue s.delivery.mill (enterCalled early forced s).doff.phase := by
  unfold enterCalled calledWith; dsimp only; split
  · rw [enterPhase_doff]; rfl
  · exact enterParking_callInfo _ _

theorem toPhaseOnce_onlySequence (ph : DoffPhase) (s : State) : onlySequence s (toPhase ph s) := by
  unfold toPhase; split
  · exact .refl s
  · exact enterPhase_onlySequence ph s

theorem toPhaseOnce_phase (ph : DoffPhase) (s : State) : (toPhase ph s).doff.phase = ph := by
  unfold toPhase; split
  · assumption
  · rw [enterPhase_doff]; rfl

theorem toPhaseOnce_overdue (ph : DoffPhase) (s : State) : (toPhase ph s).doff.overdue = s.doff.overdue := by
  unfold toPhase; split
  · rfl
  · rw [enterPhase_doff]; rfl

/-! ## The table of the doff progress (R138, R149) -/

/-- A held doff is due to be forced. -/
abbrev overrunHeld (s : State) : Prop := s.doff.overrun ≤ doffProgress s ∧ s.doff.hold = true

/-- R138: the table, row by row. -/
theorem applyTable_eq (s : State) :
    applyTable s =
      if overrunHeld s then forceDoff s
      else if s.doff.dPulses ≤ doffProgress s then
        if s.doff.hold = true then toPhase .warned (updDoff (fun d => { d with overdue := true }) s) else enterCalled false false s
      else if s.doff.dPulses - s.doff.wPulses ≤ doffProgress s then toPhase .warned s
      else toPhase .spinning (updDoff (fun d => { d with overdue := false }) s) := by
  simp only [applyTable, overrunHeld, Bool.and_eq_true, decide_eq_true_eq]

/-- R138: the doff state that the table gives. -/
theorem applyTable_outcome (s : State) : tableOutcome s (doffProgress s) (applyTable s) := by
  rw [applyTable_eq, tableOutcome]
  split
  · exact enterCalled_calledWith false true (updDoff (fun d => { d with overdue := true }) s)
  · split
    · split
      · exact ⟨toPhaseOnce_phase _ _, toPhaseOnce_overdue _ _⟩
      · exact enterCalled_calledWith false false s
    · split
      · exact toPhaseOnce_phase _ _
      · exact ⟨toPhaseOnce_phase _ _, toPhaseOnce_overdue _ _⟩

/-- R149: a held doff forced is a doff called, and its notice. -/
theorem forceDoff_eq (s : State) :
    ∃ t, onlySequence s t ∧
      forceDoff s =
        raiseNotice .doffForced .warning (.doff (nextDoffNumber s.doff.number)) (.progress (doffProgress s)) t :=
  ⟨_, (enterCalled_onlySequence _ _ _).after (updDoff_onlySequence _ _ rfl), rfl⟩

theorem applyTable_onlySequence (s : State) (h : ¬ overrunHeld s) : onlySequence s (applyTable s) := by
  rw [applyTable_eq, if_neg h]
  split
  · split
    · exact (toPhaseOnce_onlySequence _ _).after (updDoff_onlySequence _ _ rfl)
    · exact enterCalled_onlySequence _ _ _
  · split
    · exact toPhaseOnce_onlySequence _ _
    · exact (toPhaseOnce_onlySequence _ _).after (updDoff_onlySequence _ _ rfl)

/-- What the table may change: what an entry may, and the notices where a held doff is forced. -/
theorem applyTable_changes (s : State) :
    ∃ t, onlySequence s t ∧ (applyTable s = t ∨
      overrunHeld s ∧ ∃ subject detail, applyTable s = raiseNotice .doffForced .warning subject detail t) := by
  by_cases h : overrunHeld s
  · obtain ⟨t, ht, he⟩ := forceDoff_eq s
    exact ⟨t, ht, .inr ⟨h, _, _, by rw [applyTable_eq, if_pos h, he]⟩⟩
  · exact ⟨_, applyTable_onlySequence s h, .inl rfl⟩

/-- R138, R147: so may the points after a pulse. -/
theorem doffPoints_changes (s : State) :
    ∃ t, onlySequence s t ∧ (doffPoints s = t ∨
      overrunHeld s ∧ ∃ subject detail, doffPoints s = raiseNotice .doffForced .warning subject detail t) := by
  unfold doffPoints testWindow followProgress
  cases s.doff.phase with
  | spinning => exact applyTable_changes s
  | warned => exact applyTable_changes s
  | restarting =>
    dsimp only; split
    · exact applyTable_changes s
    · exact ⟨s, .refl s, .inl rfl⟩
  | _ => exact ⟨s, .refl s, .inl rfl⟩

/-! ## Latches (R195) -/

theorem raiseNotice_latches (k : NoticeKind) (l : NoticeLevel) (x : Subject) (d : Detail) (s : State) :
    (raiseNotice k l x d s).notices.latches = s.notices.latches ||| bitOf 6 k.classBit := by
  unfold raiseNotice enqueue Notices.latch Notices.lose
  dsimp only
  split
  · split
    · rfl
    · split <;> rfl
  · rfl

/-! ## A pulse (R4, R9) -/

/-- R9: what pulse-loss detection makes of a pulse. -/
theorem pulseSeen_eq (s : State) :
    pulseSeen s =
      { s with
        delivery :=
          { s.delivery with
            pulseLost := if s.delivery.driving then false else s.delivery.pulseLost
            pulseTimer :=
              if s.delivery.driving then some (s.delivery.now + s.settings.working.pulseLossTime) else s.delivery.pulseTimer }
        notices :=
          if s.delivery.driving && s.delivery.pulseLost then (raiseNotice .pulseResumed .info .none .none s).notices
          else s.notices } := by
  unfold pulseSeen
  cases hd : s.delivery.driving
  · rfl
  · cases hl : s.delivery.pulseLost <;> rfl

/-- R4: the state in which the points of a pulse are tested. -/
def pulseTaken (s : State) : State := pulseSeen (updDelivery Delivery.pulse { s with emitted := [] })

theorem exec_pulse (s : State) (hp : s.powered = true) :
    exec .frontRollerPulse s = .next (reachPoints (doffPoints (pulseTaken s))) := live_powered rollerPulse s hp

theorem pulseTaken_progress (s : State) :
    doffProgress (pulseTaken s) = min 281474976710655 (s.delivery.phi + 1) - s.doff.phiD := by
  rw [pulseTaken, pulseSeen_eq]; rfl

/-- Settles O15: the table is applied to the progress after the pulse, and the points of the planner change no doff state. -/
theorem pulseFollowsTheDoffTable : Obligations.PulseFollowsTheDoffTable := by
  intro s hp hph
  obtain ⟨v, hv⟩ := reachPoints_onlyPlanner (doffPoints (pulseTaken s))
  have hpt : pulseTaken s = _ := pulseSeen_eq _
  have htable : doffPoints (pulseTaken s) = applyTable (pulseTaken s) := by
    have hd : (pulseTaken s).doff.phase = s.doff.phase := by rw [hpt]; rfl
    unfold doffPoints followProgress
    rw [hd]
    rcases hph with h | h <;> rw [h]
  have hout := applyTable_outcome (pulseTaken s)
  rw [pulseTaken_progress] at hout
  refine ⟨_, exec_pulse s hp, ?_⟩
  rw [hv, htable]
  obtain ⟨t, ⟨u, hu⟩, ht⟩ := applyTable_changes (pulseTaken s)
  have hstand : (applyTable (pulseTaken s)).delivery.phi = min 281474976710655 (s.delivery.phi + 1) ∧
      (applyTable (pulseTaken s)).doff.phiD = s.doff.phiD ∧ (applyTable (pulseTaken s)).doff.lot = s.doff.lot ∧
      (applyTable (pulseTaken s)).doff.pendingLot = s.doff.pendingLot ∧ (applyTable (pulseTaken s)).doff.log = s.doff.log ∧
      (applyTable (pulseTaken s)).settings = s.settings ∧ (applyTable (pulseTaken s)).store = s.store ∧
      (applyTable (pulseTaken s)).ring = s.ring ∧ (applyTable (pulseTaken s)).zones = s.zones ∧
      (applyTable (pulseTaken s)).line = s.line := by
    rcases ht with ht | ⟨_, _, _, ht⟩ <;> rw [ht, hu, hpt] <;> exact ⟨rfl, rfl, rfl, rfl, rfl, rfl, rfl, rfl, rfl, rfl⟩
  obtain ⟨h1, h2, h3, h4, h5, h6, h7, h8, h9, h10⟩ := hstand
  refine ⟨h1, ?_, h2, h3, h4, h5, h6, h7, h8, h9, h10⟩
  rw [hpt] at hout ⊢
  exact hout

/-- R9: a pulse-loss timer that is not due. -/
theorem losePulses_not_due (s : State)
    (h : s.delivery.pulseTimer = none ∨ ∃ d, s.delivery.pulseTimer = some d ∧ s.delivery.now < d) : losePulses s = s := by
  have he : expired s.delivery.pulseTimer s.delivery.now = false := by
    rcases h with h | ⟨d, h, hlt⟩
    · rw [h]; rfl
    · rw [h]; simpa [expired] using hlt
  unfold losePulses; rw [he]; rfl

/-- Settles O16: loss by its timer, and the next pulse by `pulseSeen_eq`, past which only a forced doff raises a notice. -/
theorem pulseLossIsRaisedAndEnds : Obligations.PulseLossIsRaisedAndEnds := by
  refine ⟨fun s d hp ht hd => ?_, fun s hp h => ?_, fun s hp hdr hl => ?_⟩
  · refine (live_powered losePulses s hp).trans (congrArg Host.Outcome.next (if_pos ?_))
    simpa [ht, expired] using hd
  · exact (live_powered losePulses s hp).trans (congrArg Host.Outcome.next (losePulses_not_due _ h))
  · have hpt : pulseTaken s = _ := pulseSeen_eq _
    have hn : (pulseTaken s).notices = (raiseNotice .pulseResumed .info .none .none s).notices := by
      rw [hpt]; simp [updDelivery, Delivery.pulse, hdr, hl, raiseNotice]
    have hb : (pulseTaken s).notices.latches.getLsbD 5 = true := by
      rw [hn, raiseNotice_latches, BitVec.getLsbD_or]
      exact Bool.or_eq_true_iff.2 (.inr (by decide))
    refine ⟨_, exec_pulse s hp, ?_⟩
    obtain ⟨v, hv⟩ := reachPoints_onlyPlanner (doffPoints (pulseTaken s))
    obtain ⟨t, ⟨u, hu⟩, ht⟩ := doffPoints_changes (pulseTaken s)
    have hdel : t.delivery = (pulseTaken s).delivery := by rw [hu]
    have hnot : t.notices = (pulseTaken s).notices := by rw [hu]
    have hpl : (pulseTaken s).delivery.pulseLost = false ∧
        (pulseTaken s).delivery.pulseTimer = some (s.delivery.now + s.settings.working.pulseLossTime) := by
      rw [hpt]; simp [updDelivery, Delivery.pulse, hdr]
    rw [hv]
    rcases ht with ht | ⟨⟨hov, hh⟩, x, e, ht⟩
    · rw [ht]
      exact ⟨hdel ▸ hpl.1, hdel ▸ hpl.2, hnot ▸ hb, fun _ => hnot.trans hn⟩
    · rw [ht]
      refine ⟨hdel ▸ hpl.1, hdel ▸ hpl.2, ?_, fun hno => ?_⟩
      · show (raiseNotice _ _ x e t).notices.latches.getLsbD 5 = true
        rw [raiseNotice_latches, BitVec.getLsbD_or, hnot, hb]; rfl
      · rw [pulseTaken_progress] at hov
        have hd : (pulseTaken s).doff = s.doff := by rw [hpt]; rfl
        rw [hd] at hov hh
        rcases hno with hno | hno
        · rw [hno] at hh; cases hh
        · omega

/-! ## Calls (R114 to R116, R123) -/

theorem mem_insertCall (c d : Call) : ∀ l : List Call, d ∈ insertCall c l ↔ d = c ∨ d ∈ l
  | [] => by simp [insertCall]
  | e :: l => by
    unfold insertCall; split
    · simp
    · simp only [List.mem_cons, mem_insertCall c d l]; tauto

/-- R123: the call test leaves an entry listed, or issues it. -/
theorem calledNow_callTest {c : Call} {s t : State} (hn : t.delivery.now = s.delivery.now) (h : c ∈ t.planner.calls) :
    calledNow c s (callTest t) := by
  unfold callTest
  split
  · rename_i d rest _ _ hc
    rw [hc] at h
    rcases List.mem_cons.1 h with rfl | h
    · exact .inr ⟨_, rfl, rfl, hn⟩
    · exact .inl h
  · exact .inl h

theorem removePoint_points (g : Nat) (s : State) : ∀ q ∈ (removePoint g s).planner.points, q.2 ≠ g := by
  intro q hq
  simpa using (List.mem_filter.1 hq).2

theorem callTest_points (s : State) : ∀ q ∈ (callTest s).planner.points, q ∈ s.planner.points := by
  intro q hq
  unfold callTest at hq
  split at hq
  · exact List.mem_of_mem_filter hq
  · exact hq

/-- R116: a group without a call is listed: its call stands or has been issued, and its call point is gone. -/
theorem listGroup_none {g : Nat} {s : State} (u : CallUrgency) (o : CallOrigin) (hw : whollyWithheld s g = false)
    (hc : callState s g = .none) :
    calledNow { group := g, urgency := u, queued := s.delivery.now, origin := o } s (listGroup g u o s) ∧
      ∀ q ∈ (listGroup g u o s).planner.points, q.2 ≠ g := by
  have he : listGroup g u o s =
      callTest (updPlanner (fun p =>
        { p with calls := insertCall { group := g, urgency := u, queued := s.delivery.now, origin := o } p.calls }) (removePoint g s)) := by
    rw [listGroup, hw, hc]; rfl
  rw [he]
  refine ⟨calledNow_callTest rfl ((mem_insertCall _ _ _).2 (.inl rfl)), fun q hq => ?_⟩
  have h := callTest_points _ q hq
  exact removePoint_points g s q h

/-! ## A pulse that reaches no point of the doff sequencer -/

/-- R138, R147: such a pulse leaves the doff state alone. -/
theorem doffPoints_of_noDoffPoint {s : State} (h : noDoffPoint s) :
    doffPoints (pulseTaken s) =
      if s.doff.phase = .spinning then updDoff (fun d => { d with overdue := false }) (pulseTaken s) else pulseTaken s := by
  have hd : (pulseTaken s).doff = s.doff := by rw [pulseTaken, pulseSeen_eq]; rfl
  unfold noDoffPoint at h
  dsimp only at h
  rw [← pulseTaken_progress] at h
  unfold doffPoints testWindow followProgress
  rw [hd]
  have hover : (s.doff.phase = .spinning ∨ s.doff.phase = .warned) → doffProgress (pulseTaken s) < s.doff.overrun →
      ¬ overrunHeld (pulseTaken s) := fun _ hp hq => by have := hq.1; rw [hd] at this; omega
  cases hp : s.doff.phase with
  | spinning =>
    rw [hp] at h
    obtain ⟨hw, ho⟩ := h
    dsimp only
    rw [applyTable_eq, if_neg (hover (.inl hp) ho), if_neg (by rw [hd]; omega), if_neg (by rw [hd]; omega), if_pos rfl, toPhase,
      if_pos (by rw [← hp, ← hd]; rfl)]
  | warned =>
    rw [hp] at h
    obtain ⟨hw, hD, ho⟩ := h
    dsimp only
    rw [applyTable_eq, if_neg (hover (.inr hp) ho), if_neg (by rw [hd]; omega), if_pos (by rw [hd]; exact hw), if_neg (by decide), toPhase,
      if_pos (by rw [hd, hp])]
  | restarting =>
    rw [hp] at h
    dsimp only at h ⊢
    rw [if_neg (by omega), if_neg (by decide)]
  | _ => rfl

/-- Settles O14: the state in which the planner's points are tested, and the one group whose point a pulse reaches. -/
theorem pulseBetweenThePoints : Obligations.PulseBetweenThePoints := by
  intro s hp hl hno phi moved
  have hm : doffPoints (pulseTaken s) = moved := by
    rw [doffPoints_of_noDoffPoint hno, pulseTaken, pulseSeen_eq]
    simp only [moved, updDelivery, Delivery.pulse, hl, ite_self, Bool.and_false]
    split <;> rfl
  have hx : exec .frontRollerPulse s = .next (reachPoints moved) := by rw [exec_pulse s hp, hm]
  refine ⟨fun hq => ?_, fun point g rest hps hle hrest hc hw => ?_⟩
  · have hnil : (moved.planner.points.filter fun q => q.1 ≤ moved.delivery.phi) = [] :=
      List.filter_eq_nil_iff.2 fun q h => by simpa using hq q h
    rw [hx, reachPoints, hnil]; rfl
  · have hone : (moved.planner.points.filter fun q => q.1 ≤ moved.delivery.phi) = [(point, g)] := by
      show (s.planner.points.filter _) = _
      rw [hps, List.filter_cons_of_pos (by simpa using hle)]
      exact congrArg _ (List.filter_eq_nil_iff.2 fun q h => by simpa using hrest q h)
    have hr : reachPoints moved = listGroup g .planned .plan moved := by rw [reachPoints, hone]; rfl
    obtain ⟨v, hv⟩ := listGroup_onlyPlanner g .planned .plan moved
    obtain ⟨hcall, hpoint⟩ := listGroup_none (s := moved) .planned .plan hw hc
    refine ⟨_, hx.trans (congrArg _ hr), ?_, hcall, hpoint⟩
    rw [hv]

end Sys2Proof.Machine

/-! # The edges of drive running (R8, R29, R37, R38, R141) -/

namespace Sys2Proof.Machine

open Sys2Proof

/-! ## Settling and changes of state touch the records, the lamps, the planner and the books -/

/-- Nothing but the spindle records, the lamps, the planner, the open shift and the messages sent has changed. -/
def onlyRecords (s t : State) : Prop :=
  ∃ u : State,
    t = { s with emitted := u.emitted, spindles := u.spindles, lamps := u.lamps, planner := u.planner, shift := u.shift }

theorem onlyRecords.refl (s : State) : onlyRecords s s := ⟨s, rfl⟩

theorem onlyRecords.after {s t u : State} (k : onlyRecords t u) (h : onlyRecords s t) : onlyRecords s u := by
  obtain ⟨_, rfl⟩ := h; obtain ⟨x, rfl⟩ := k; exact ⟨x, rfl⟩

theorem onlyPlanner.records {s t : State} (h : onlyPlanner s t) : onlyRecords s t := by
  obtain ⟨u, rfl⟩ := h; exact ⟨{ s with planner := u.planner, emitted := u.emitted }, rfl⟩

theorem updSpindle_onlyRecords (n : Nat) (f : Spindle → Spindle) (s : State) : onlyRecords s (updSpindle n f s) :=
  ⟨updSpindle n f s, rfl⟩

theorem updLamp_onlyRecords (k : Nat) (f : Lamp → Lamp) (s : State) : onlyRecords s (updLamp k f s) := ⟨updLamp k f s, rfl⟩

theorem shift_onlyRecords (sh : Shift) (s : State) : onlyRecords s { s with shift := sh } := ⟨{ s with shift := sh }, rfl⟩

theorem onlyRecords.toTables {s t : State} (h : onlyRecords s t) : onlyTables s t := by
  obtain ⟨u, rfl⟩ := h
  exact ⟨{ s with
    emitted := u.emitted, spindles := u.spindles, lamps := u.lamps, planner := u.planner, shift := u.shift }, rfl⟩

theorem settleSpindle_onlyRecords (n : Nat) (s : State) : onlyRecords s (settleSpindle n s) := by
  unfold settleSpindle; dsimp only; split
  · exact (updSpindle_onlyRecords _ _ _).after (shift_onlyRecords _ _)
  · exact .refl s

theorem settleEach_onlyRecords (ns : List Nat) (s : State) : onlyRecords s (settleEach ns s) :=
  foldl_keeps onlyRecords .refl .after _ (fun t n => settleSpindle_onlyRecords n t) ns s

theorem settleAll_onlyRecords (s : State) : onlyRecords s (settleAll s) := settleEach_onlyRecords _ s

theorem changeState_onlyRecords (n : Nat) (st : SpindleState) (s : State) : onlyRecords s (changeState n st s) := by
  unfold changeState; dsimp only; split
  · exact (updLamp_onlyRecords _ _ _).after ((updSpindle_onlyRecords _ _ _).after (shift_onlyRecords _ _))
  · exact .refl s

theorem enterState_onlyRecords (n : Nat) (st : SpindleState) (s : State) : onlyRecords s (enterState n st s) :=
  (tellPlanner_onlyPlanner _ _).records.after (changeState_onlyRecords n st s)

theorem startSpindle_onlyRecords (n : Nat) (s : State) : onlyRecords s (startSpindle n s) := by
  unfold startSpindle; split
  · exact enterState_onlyRecords _ _ _
  · exact .refl s

theorem stopSpindle_onlyRecords (n : Nat) (s : State) : onlyRecords s (stopSpindle n s) := by
  unfold stopSpindle; split
  · exact enterState_onlyRecords _ _ _
  · exact enterState_onlyRecords _ _ _
  · exact .refl s

theorem startEach_onlyRecords (ns : List Nat) (s : State) : onlyRecords s (startEach ns s) :=
  foldl_keeps onlyRecords .refl .after _ (fun t n => startSpindle_onlyRecords n t) ns s

theorem stopEach_onlyRecords (ns : List Nat) (s : State) : onlyRecords s (stopEach ns s) :=
  foldl_keeps onlyRecords .refl .after _ (fun t n => stopSpindle_onlyRecords n t) ns s

/-! ## Rise (R37) -/

/-- R37: what a rise makes of a spindle. -/
def Spindle.started (dl : Delivery) (sp : Spindle) : Spindle :=
  match sp.state with
  | .idle => sp.changed dl.driving dl.now dl.phi (.settling .driveStart dl.now)
  | _ => sp

theorem started_idem (dl : Delivery) (sp : Spindle) : (sp.started dl).started dl = sp.started dl := by
  cases h : sp.state <;> simp [Spindle.started, h]

theorem spindle_startSpindle (n m : Nat) (s : State) :
    spindle (startSpindle n s) m =
      if m = n ∧ hasSpindle s n = true then (spindle s m).started s.delivery else spindle s m := by
  by_cases hm : m = n
  · subst hm
    cases h : (spindle s m).state <;> simp [startSpindle, h, spindle_enterState, spindle_changeState, Spindle.started]
  · unfold startSpindle; split <;> simp [hm, spindle_enterState, spindle_changeState]

theorem spindle_startEach (m : Nat) : ∀ (ns : List Nat) (s : State),
    spindle (startEach ns s) m =
      if m ∈ ns ∧ hasSpindle s m = true then (spindle s m).started s.delivery else spindle s m
  | [], _ => by simp [startEach]
  | n :: ns, s => by
    have ih := spindle_startEach m ns (startSpindle n s)
    have hk : (startSpindle n s).delivery = s.delivery := by obtain ⟨_, hu⟩ := startSpindle_onlyRecords n s; rw [hu]
    have hl : hasSpindle (startSpindle n s) m = hasSpindle s m := by
      unfold startSpindle; split
      · simp [hasSpindle, enterState, (tellPlanner_onlyPlanner _ _).runs.length]
      · rfl
    rw [hl, hk, spindle_startSpindle] at ih
    change spindle (startEach ns (startSpindle n s)) m = _
    rw [ih]
    by_cases hm : m = n
    · subst hm; by_cases hr : hasSpindle s m = true <;> simp [hr, started_idem]
    · simp [hm]

/-- R35: the roving stop of a spindle that has just changed its state follows its state under the dispatcher's work. -/
theorem Spindle.Passes.stopEngaged {dl : Delivery} {sp x : Spindle} (h : sp.Passes dl x)
    (he : sp.stopEngaged = engagedOnEntry sp.state) : x.stopEngaged = engagedOnEntry x.state := by
  induction h with
  | refl => exact he
  | unmark _ ih => exact ih
  | ordered _ _ => simp

/-- R29: a rail woken. -/
theorem wake_eq (r : Rail) :
    r.wake =
      if r.awake = false then
        { r with
          awake := true, sleepRound := false, position := 1
          heads := r.heads.map fun h => { h with state := .settlingHead 2, misses := 0 } }
      else if r.sleepRound = true then
        { r with sleepRound := false, heads := r.heads.map fun h => { h with state := .settlingHead 2, misses := 0 } }
      else r := by
  unfold Rail.wake
  cases r.awake <;> cases r.sleepRound <;> rfl

/-- R37: the state of a spindle after a rise. -/
theorem driveRise_spindle (s : State) (hl : s.spindles.length = spindleCount s) (n : Nat) (h1 : 1 ≤ n)
    (hn : n ≤ s.spindles.length) :
    ∃ sp : Spindle, sp.state = (spindle s n).state ∧
      (sp.started (assertDrive (settleAll s)).delivery).Passes (assertDrive (settleAll s)).delivery (spindle (driveRise s) n) := by
  have hr : hasSpindle s n = true := (hasSpindle_iff s n).2 ⟨h1, hn⟩
  have hset := spindle_settleAll s hl n
  rw [if_pos hr] at hset
  have hcount : spindleCount (assertDrive (settleAll s)) = spindleCount s := by
    simp [spindleCount, sectorCount, assertDrive, settleAll_delivery]
  have hstart := spindle_startEach n (allSpindles (assertDrive (settleAll s))) (assertDrive (settleAll s))
  rw [if_pos ⟨(mem_allSpindles _ _).2 ⟨h1, by rw [hcount, ← hl]; exact hn⟩,
    (hasSpindle_iff _ _).2 ⟨h1, by simpa [assertDrive, settleAll] using hn⟩⟩] at hstart
  refine ⟨spindle (assertDrive (settleAll s)) n, (congrArg Spindle.state hset).trans (settled_state _ _ _ _), ?_⟩
  have hdel : (startEach (allSpindles (assertDrive (settleAll s))) (assertDrive (settleAll s))).delivery =
      (assertDrive (settleAll s)).delivery := by
    obtain ⟨_, hu⟩ := startEach_onlyRecords (allSpindles (assertDrive (settleAll s))) (assertDrive (settleAll s)); rw [hu]
  have h := (attemptBoth_any (startEach (allSpindles (assertDrive (settleAll s))) (assertDrive (settleAll s)))).passes n
  rw [hdel, hstart] at h
  exact h

/-- What stands at a rise, the records and tables of the frame apart. -/
theorem driveRise_onlyTables (s : State) : onlyTables (assertDrive (settleAll s)) (driveRise s) :=
  (attemptBoth_onlyTables _).after (startEach_onlyRecords _ _).toTables

/-! ## Fall (R38, R141) -/

theorem notWithheld_eq (sp : Spindle) : (sp.state != .withheld) = (sp.state.code != 0) := by
  cases h : sp.state <;> rfl

/-- R143: the doff record, its cops counted by the codes of the states. -/
theorem openRecord_eq (call : CallInfo) (s : State) :
    openRecord call s = { doffRecordOf s s call with number := s.doff.number } := by
  have hpos (c : Nat) : decide (0 < c) = (c != 0) := by cases c <;> rfl
  simp only [openRecord, copsAsRead, doffRecordOf, doffProgress, notWithheld_eq, hpos]

theorem parkBoth_carriages_only (s : State) : ∃ u : State, parkBoth s = { s with emitted := u.emitted, car1 := u.car1, car2 := u.car2 } := by
  refine ⟨parkBoth s, ?_⟩
  simp only [parkBoth, parkRecord_eq]
  rfl

/-- R141 to R143: entry to PARKING, where PARK is sent, and on to DOFFING where every carriage is clear: what it does and what stands. -/
theorem enterParking_changes (call : CallInfo) (s : State) :
    ∃ u : State,
      enterParking call s = { s with emitted := u.emitted, car1 := u.car1, car2 := u.car2, doff := u.doff } ∧
        (∀ r, carriage u r = (carriage s r).parkTold (s.delivery.now + s.settings.working.parkTimeout)) ∧
        (∀ r, ∀ o ∈ (carriage s r).parkMessage, o ∈ u.emitted) ∧
        if frameClear s then
          u.doff.phase = .doffing call (doffRecordOf s s call) ∧ u.doff.number = (s.doff.number + 1) % 65536
        else u.doff.phase = .parking call ∧ u.doff.number = s.doff.number := by
  have hc (r : RecordNo) := carriage_parkBoth r (updDoff (fun d => d.toPhase (.parking call)) s)
  have hm (r : RecordNo) := emitted_parkBoth r (updDoff (fun d => d.toPhase (.parking call)) s)
  obtain ⟨v, hv⟩ := parkBoth_carriages_only (updDoff (fun d => d.toPhase (.parking call)) s)
  refine ⟨enterParking call s, ?_, ?_⟩
  · rw [enterParking_eq, enterDoffing_eq, hv]; split <;> rfl
  · rw [enterParking_eq]
    split
    · rw [enterDoffing_eq]
      refine ⟨hc, hm, ?_, ?_⟩
      · show DoffPhase.doffing call (openRecord call _) = _
        rw [openRecord_eq, hv]; rfl
      · rw [hv]; rfl
    · refine ⟨hc, hm, ?_⟩
      rw [hv]; exact ⟨rfl, rfl⟩

/-- R38: the state of a spindle after all have been stopped at a fall. -/
theorem state_stopped (s : State) (hl : s.spindles.length = spindleCount s) (n : Nat) (h1 : 1 ≤ n) (hn : n ≤ s.spindles.length) :
    (spindle (stopEach (allSpindles (dropDrive (settleAll s))) (dropDrive (settleAll s))) n).state = (spindle s n).state.stopped := by
  have hr : hasSpindle s n = true := (hasSpindle_iff s n).2 ⟨h1, hn⟩
  have hset := spindle_settleAll s hl n
  rw [if_pos hr] at hset
  have hcount : spindleCount (dropDrive (settleAll s)) = spindleCount s := by
    simp [spindleCount, sectorCount, dropDrive, settleAll_delivery]
  rw [state_stopEach, if_pos ⟨(mem_allSpindles _ _).2 ⟨h1, by rw [hcount, ← hl]; exact hn⟩,
    (hasSpindle_iff _ _).2 ⟨h1, by simpa [dropDrive, settleAll] using hn⟩⟩]
  exact congrArg SpindleState.stopped ((congrArg Spindle.state hset).trans (settled_state _ _ _ _))

theorem exec_driveRise (s : State) (hp : s.powered = true) :
    exec .driveRunningRise s =
      .next (if s.delivery.driving then { s with emitted := [] } else driveRise { s with emitted := [] }) :=
  live_powered (fun t => if t.delivery.driving then t else driveRise t) s hp

theorem exec_driveFall (s : State) (hp : s.powered = true) :
    exec .driveRunningFall s =
      .next (if s.delivery.driving then driveFall { s with emitted := [] } else { s with emitted := [] }) :=
  live_powered (fun t => if t.delivery.driving then driveFall t else t) s hp

/-- R37, R81: the spindles at a rise. -/
theorem driveRise_states (s : State) (hl : s.spindles.length = spindleCount s) (n : Nat) (h1 : 1 ≤ n) (hn : n ≤ s.spindles.length) :
    match (spindle s n).state with
    | .idle =>
      (spindle (driveRise s) n).state = .settling .driveStart s.delivery.now ∧ (spindle (driveRise s) n).stopEngaged = false
    | .broken c x => (spindle (driveRise s) n).state = .broken c x ∨ (spindle (driveRise s) n).state = .piecing c x
    | st => (spindle (driveRise s) n).state = st := by
  obtain ⟨sp, hst, hpass⟩ := driveRise_spindle s hl n h1 hn
  have hs := hpass.state
  have he := hpass.stopEngaged
  have hnow : (assertDrive (settleAll s)).delivery.now = s.delivery.now := by
    obtain ⟨v, hv⟩ := settleAll_onlyRecords s; rw [hv]; rfl
  rw [← hst]
  cases h : sp.state with
  | idle =>
    simp only [Spindle.started, h, changed_state, changed_stopEngaged, hnow] at hs he
    rcases hs with hs | ⟨c, x, hb, _⟩
    · exact ⟨hs, by rw [he trivial, hs]; rfl⟩
    · cases hb
  | broken c x =>
    simp only [Spindle.started, h] at hs
    rcases hs with hs | ⟨c', x', hb, hs⟩
    · exact .inl hs
    · cases hb; exact .inr hs
  | _ =>
    simp only [Spindle.started, h] at hs
    rcases hs with hs | ⟨_, _, hb, _⟩
    · exact hs
    · cases hb

theorem doffAtFall_called {call : CallInfo} (s : State) (h : s.doff.phase = .called call) : doffAtFall s = enterParking call s := by
  unfold doffAtFall; rw [h]

theorem doffAtFall_other (s : State) (h : ∀ call, s.doff.phase ≠ .called call) : doffAtFall s = s := by
  unfold doffAtFall; split
  · rename_i call hc; exact absurd hc (h call)
  · rfl

/-- R27: the drowse delay at a fall. -/
theorem drowseAtReset_stopped (delay now : Nat) :
    drowseAtReset false delay now =
      { timer := if delay = 0 then none else some (now + delay), deferred := false, drowsing := false } := by
  unfold drowseAtReset; split <;> simp_all

/-- Settles O17: at each edge the spindles in turn, then the dispatch or the doff sequencer, which keep the states so made. -/
theorem driveEdgesStartAndStopTheFrame : Obligations.DriveEdgesStartAndStopTheFrame := by
  refine ⟨⟨fun s hp hd => ?_, fun s hp hd hl => ?_⟩, fun s hp hd => ?_, fun s hp hd hl => ?_⟩
  · rw [exec_driveRise s hp, if_pos hd]
  · refine ⟨driveRise { s with emitted := [] }, by rw [exec_driveRise s hp, hd]; rfl, ?_⟩
    have hspin := driveRise_states { s with emitted := [] } hl
    obtain ⟨v, hv⟩ := settleAll_onlyRecords { s with emitted := [] }
    obtain ⟨u, hu⟩ := driveRise_onlyTables { s with emitted := [] }
    rw [hv] at hu
    rw [hu] at hspin ⊢
    exact ⟨rfl, fun side => by cases side <;> exact wake_eq _, rfl, hspin, rfl, rfl, rfl, rfl, rfl, rfl, rfl, rfl⟩
  · rw [exec_driveFall s hp, hd]; rfl
  · have hspin := state_stopped { s with emitted := [] } hl
    have hx : exec .driveRunningFall s = .next (driveFall { s with emitted := [] }) := by rw [exec_driveFall s hp, hd]; rfl
    obtain ⟨v, hv⟩ := settleAll_onlyRecords { s with emitted := [] }
    obtain ⟨u, hu⟩ := stopEach_onlyRecords (allSpindles (dropDrive (settleAll { s with emitted := [] })))
      (dropDrive (settleAll { s with emitted := [] }))
    rw [driveFall_eq, hu, hv] at hx
    rw [hu, hv] at hspin
    have hstop (n : Nat) (h1 : 1 ≤ n) (hn : n ≤ s.spindles.length) :
        match (spindle s n).state with
        | .running => (nth u.spindles n default).state = .idle
        | .settling _ _ => (nth u.spindles n default).state = .idle
        | st => (nth u.spindles n default).state = st := by
      have h : (nth u.spindles n default).state = (spindle s n).state.stopped := hspin n h1 hn
      rw [h]
      cases (spindle s n).state <;> rfl
    cases hph : s.doff.phase with
    | called call =>
      rw [doffAtFall_called (call := call)] at hx
      · obtain ⟨w, hw, hc, hm, hdoff⟩ := enterParking_changes call _
        rw [hw] at hx
        exact ⟨_, hx, rfl, drowseAtReset_stopped _ _, rfl, rfl, hstop, ⟨parkSent_of_told hc hm, hdoff⟩, rfl, rfl, rfl, rfl, rfl, rfl,
          rfl, rfl, rfl, rfl⟩
      · exact hph
    | _ =>
      rw [doffAtFall_other] at hx
      · exact ⟨_, hx, rfl, drowseAtReset_stopped _ _, rfl, rfl, hstop, ⟨rfl, rfl, rfl⟩, rfl, rfl, rfl, rfl, rfl, rfl, rfl, rfl, rfl, rfl⟩
      · exact fun call h => nomatch hph.symm.trans h

end Sys2Proof.Machine

/-! # Call Roving and Declare Roving (R112 to R116, R119, R120) -/

namespace Sys2Proof.Machine

open Sys2Proof

/-! ## Evaluation of a group whose estimates stand alike (R113) -/

theorem callState_eq_none {s : State} {g : Nat} (ha : isActiveGroup s g = false) (hc : inCallList s g = false) :
    callState s g = .none := by simp [callState, ha, hc]

theorem callState_eq_listed {s : State} {g : Nat} (ha : isActiveGroup s g = false) (hc : inCallList s g = true) :
    callState s g = .listed := by simp [callState, ha, hc]

theorem callState_eq_active {s : State} {g : Nat} (ha : isActiveGroup s g = true) : callState s g = .active := by
  simp [callState, ha]

/-- The call point of a group removed leaves all else in the planner. -/
theorem removePoint_eq (g : Nat) (s : State) :
    removePoint g s = { s with planner := { s.planner with points := s.planner.points.filter fun q => q.2 != g } } := rfl

/-- R113: a group that is listed or called has no call point, and evaluation does nothing more. -/
theorem evaluateGroup_called {g : Nat} {s : State} (h : callState s g ≠ .none) : evaluateGroup g s = removePoint g s := by
  have h' : callState (removePoint g s) g ≠ .none := h
  simp [evaluateGroup, h']

theorem mem_groupSpindles {s : State} {g : Nat} {sp : Spindle} :
    sp ∈ groupSpindles s g ↔ ∃ n ∈ spindlesOfGroup g, spindle s n = sp := List.mem_map

theorem estimateValid_iff {s : State} {g : Nat} :
    estimateValid s g = true ↔ ∀ n ∈ spindlesOfGroup g, (spindle s n).estimateValid = true := by
  simp [estimateValid, groupSpindles]

/-- R112: a group with an eligible position is not wholly withheld. -/
theorem whollyWithheld_of_eligible {s : State} {g n : Nat} (hn : n ∈ spindlesOfGroup g) (he : (spindle s n).state.eligible = true) :
    whollyWithheld s g = false := by
  refine List.all_eq_false.2 ⟨spindle s n, mem_groupSpindles.2 ⟨n, hn, rfl⟩, ?_⟩
  cases h : (spindle s n).state <;> simp_all [SpindleState.eligible]

theorem eligible_of_running {st : SpindleState} (h : st.isRunning = true) : st.eligible = true := by
  cases st
  case running => rfl
  all_goals exact nomatch h

/-- R113, first test, where all positions have the same roving left. -/
theorem lowStanding_iff {s : State} {g left : Nat} (hl : ∀ n ∈ spindlesOfGroup g, remaining s (spindle s n) = left) :
    lowStanding s g = true ↔
      left ≤ figCm s ∧ ∃ n ∈ spindlesOfGroup g, (spindle s n).state.eligible = true ∧ (spindle s n).state.isRunning = false := by
  simp only [lowStanding, groupSpindles, List.any_map, List.any_eq_true, Function.comp_apply, Bool.and_eq_true,
    Bool.not_eq_true', decide_eq_true_eq]
  constructor
  · rintro ⟨n, hn, ⟨he, hr⟩, hm⟩; exact ⟨hl n hn ▸ hm, n, hn, he, hr⟩
  · rintro ⟨hm, n, hn, he, hr⟩; exact ⟨n, hn, ⟨he, hr⟩, (hl n hn).symm ▸ hm⟩

/-- R113: the least roving left at a RUNNING position, where all positions have the same. -/
theorem leastRunning_eq {s : State} {g left : Nat} (hl : ∀ n ∈ spindlesOfGroup g, remaining s (spindle s n) = left) :
    leastRunning s g = if ∃ n ∈ spindlesOfGroup g, (spindle s n).state.isRunning = true then some left else none := by
  unfold leastRunning
  split
  · rename_i h
    obtain ⟨n, hn, hr⟩ := h
    refine List.min?_eq_some_iff.2 ⟨List.mem_map.2 ⟨spindle s n, ?_, hl n hn⟩, fun x hx => ?_⟩
    · exact List.mem_filter.2 ⟨mem_groupSpindles.2 ⟨n, hn, rfl⟩, hr⟩
    · obtain ⟨sp, hsp, rfl⟩ := List.mem_map.1 hx
      obtain ⟨m, hm, rfl⟩ := mem_groupSpindles.1 (List.mem_of_mem_filter hsp)
      exact Nat.le_of_eq (hl m hm).symm
  · rename_i h
    rw [List.min?_eq_none_iff, List.map_eq_nil_iff, List.filter_eq_nil_iff]
    intro sp hsp hr
    obtain ⟨n, hn, rfl⟩ := mem_groupSpindles.1 hsp
    exact h ⟨n, hn, hr⟩

/-- R113, R114, R116: evaluation of a group that has no call, all its positions with the same known estimate. -/
theorem evaluateGroup_alike {g left : Nat} {s : State} (ha : isActiveGroup s g = false) (hc : inCallList s g = false)
    (hv : ∀ n ∈ spindlesOfGroup g, (spindle s n).estimateValid = true)
    (hl : ∀ n ∈ spindlesOfGroup g, remaining s (spindle s n) = left) :
    if left ≤ figCm s ∧ ∃ n ∈ spindlesOfGroup g, (spindle s n).state.eligible = true then
      calledNow { group := g, urgency := .planned, queued := s.delivery.now, origin := .plan } s (evaluateGroup g s) ∧
        ∀ q ∈ (evaluateGroup g s).planner.points, q.2 ≠ g
    else
      (evaluateGroup g s).planner =
        { s.planner with
          points :=
            if ∃ n ∈ spindlesOfGroup g, (spindle s n).state.isRunning = true then
              insertPoint (s.delivery.phi + left - figCm s) g (s.planner.points.filter fun q => q.2 != g)
            else s.planner.points.filter fun q => q.2 != g } := by
  have hnone : callState (removePoint g s) g = .none := callState_eq_none ha hc
  have hval : estimateValid (removePoint g s) g = true := estimateValid_iff.2 hv
  have hlow := lowStanding_iff (s := removePoint g s) hl
  have hleast := leastRunning_eq (s := removePoint g s) hl
  unfold evaluateGroup
  dsimp only
  rw [hnone, hval, if_pos (show (decide (CallState.none = CallState.none) && true) = true from rfl)]
  split
  · rename_i h
    obtain ⟨hm, n, hn, he⟩ := h
    have hlist := listGroup_none (s := removePoint g s) .planned .plan (whollyWithheld_of_eligible hn he) hnone
    split
    · exact hlist
    · rename_i hls
      have hrun : ∃ n ∈ spindlesOfGroup g, (spindle (removePoint g s) n).state.isRunning = true := by
        refine ⟨n, hn, ?_⟩
        by_contra hr
        exact hls (hlow.2 ⟨hm, n, hn, he, by simpa using hr⟩)
      rw [hleast, if_pos hrun]
      dsimp only
      have hreach : (removePoint g s).delivery.phi + left - figCm (removePoint g s) ≤ (removePoint g s).delivery.phi := by
        have : left ≤ figCm (removePoint g s) := hm
        omega
      rw [if_pos hreach]
      exact hlist
  · rename_i h
    have hls : lowStanding (removePoint g s) g = false := by
      refine Bool.eq_false_iff.2 fun hls => ?_
      obtain ⟨hm, n, hn, he, _⟩ := hlow.1 hls
      exact h ⟨hm, n, hn, he⟩
    rw [hls, hleast, if_neg Bool.false_ne_true]
    by_cases hrun : ∃ n ∈ spindlesOfGroup g, (spindle s n).state.isRunning = true
    · have hrun' : ∃ n ∈ spindlesOfGroup g, (spindle (removePoint g s) n).state.isRunning = true := hrun
      obtain ⟨n, hn, hr⟩ := hrun
      have hm : ¬ left ≤ figCm s := fun hm => h ⟨hm, n, hn, eligible_of_running hr⟩
      have hreach : ¬ (removePoint g s).delivery.phi + left - figCm (removePoint g s) ≤ (removePoint g s).delivery.phi := by
        have : ¬ left ≤ figCm (removePoint g s) := hm
        omega
      rw [if_pos hrun', if_pos ⟨n, hn, hr⟩]
      dsimp only
      rw [if_neg hreach]
      rfl
    · have hrun' : ¬ ∃ n ∈ spindlesOfGroup g, (spindle (removePoint g s) n).state.isRunning = true := hrun
      rw [if_neg hrun', if_neg hrun]
      rfl

/-! ## Call Roving (R119) -/

theorem exec_callRoving (s : State) (b : Byte) (h : lineReady s) :
    exec (.callRoving [b]) s = .next (hold 0x16 (answerCall b.toNat { s with emitted := [] })) := by
  refine (takeRequest_ready 0x16 _ _ s h).trans ?_
  rw [show bodyNumber [b] 0 1 = b.toNat by simp [bodyNumber, numberOf]]
  rfl

/-- R201: an answer OK whose work was the planner's. -/
theorem hold_taken_planner {kind : Nat} {s t : State} (h : onlyPlanner { s with emitted := [] } t) :
    hold kind (taken t) = { withReply kind okBody .none s with planner := t.planner, emitted := t.emitted } := by
  obtain ⟨u, rfl⟩ := h; rfl

theorem inCallList_of_find {s : State} {g : Nat} {c : Call} (h : s.planner.calls.find? (fun c => c.group == g) = some c) :
    inCallList s g = true := by
  have hc := List.find?_some h
  exact List.any_eq_true.2 ⟨c, List.mem_of_find?_eq_some h, hc⟩

theorem inCallList_of_find_none {s : State} {g : Nat} (h : s.planner.calls.find? (fun c => c.group == g) = none) :
    inCallList s g = false := List.any_eq_false.2 fun c hc => by simpa using List.find?_eq_none.1 h c hc

/-- R116: an entry that is URGENT already is left alone. -/
theorem listGroup_urgent {s : State} {g : Nat} {c : Call} (u : CallUrgency) (o : CallOrigin) (hw : whollyWithheld s g = false)
    (ha : isActiveGroup s g = false) (hf : s.planner.calls.find? (fun c => c.group == g) = some c) (hu : c.urgency = .urgent) :
    listGroup g u o s = s := by
  simp [listGroup, hw, callState_eq_listed ha (inCallList_of_find hf), hf, hu]

/-- R116: a PLANNED entry is raised, and stands or is issued. -/
theorem listGroup_raised {s : State} {g : Nat} {c : Call} (o : CallOrigin) (hw : whollyWithheld s g = false)
    (ha : isActiveGroup s g = false) (hf : s.planner.calls.find? (fun c => c.group == g) = some c) (hu : c.urgency ≠ .urgent) :
    calledNow { c with urgency := .urgent, origin := o } s (listGroup g .urgent o s) := by
  have hp : c.urgency = .planned := by cases h : c.urgency <;> simp_all
  have he : listGroup g .urgent o s =
      callTest (updPlanner (fun p =>
        { p with
          calls := insertCall { c with urgency := .urgent, origin := o } (p.calls.filter fun d => d.group != g) }) s) := by
    simp [listGroup, hw, callState_eq_listed ha (inCallList_of_find hf), hf, hp]
  rw [he]
  exact calledNow_callTest rfl ((mem_insertCall _ _ _).2 (.inl rfl))

theorem calledNow.standsOrIssued {c : Call} {s t : State} (h : calledNow c s t) :
    c ∈ t.planner.calls ∨ ∃ a, t.planner.transport = .called a ∧ a.call = c := by
  rcases h with h | ⟨a, h, hc, _⟩
  · exact .inl h
  · exact .inr ⟨a, h, hc⟩

theorem callState_active_iff {s : State} {g : Nat} : callState s g = .active ↔ isActiveGroup s g = true := by
  unfold callState; split
  · simp [*]
  · split <;> simp [*]

/-- R119: the refusals of Call Roving in turn, and the group listed. -/
theorem answerCall_eq (g : Nat) (s : State) :
    answerCall g s =
      if isGroup s g = false then refuse .outOfRange s
      else if whollyWithheld s g = true then refuse .withheld s
      else if isActiveGroup s g = true then refuse .wrongState s
      else taken (listGroup g .urgent .request s) := by
  simp only [answerCall, callState_active_iff, Bool.not_eq_true']

/-- The first clause of O36. -/
theorem callRoving_calls (s : State) (b : Byte) (h : lineReady s) :
    let g := b.toNat
    if isGroup s g = false then exec (.callRoving [b]) s = .next (withReply 0x16 [4] .none s)
    else if whollyWithheld s g = true then exec (.callRoving [b]) s = .next (withReply 0x16 [6] .none s)
    else if isActiveGroup s g = true then exec (.callRoving [b]) s = .next (withReply 0x16 [5] .none s)
    else
      ∃ (planner : Planner) (messages : List Output),
        exec (.callRoving [b]) s =
          .next { withReply 0x16 okBody .none s with planner := planner, emitted := messages } ∧
        match s.planner.calls.find? (fun c => c.group == g) with
        | some c =>
          if c.urgency = .urgent then planner = s.planner ∧ messages = []
          else
            { c with urgency := .urgent, origin := .request } ∈ planner.calls ∨
              ∃ a, planner.transport = .called a ∧ a.call = { c with urgency := .urgent, origin := .request }
        | none =>
          { group := g, urgency := .urgent, queued := s.delivery.now, origin := .request : Call } ∈ planner.calls ∨
            ∃ a, planner.transport = .called a ∧
              a.call = { group := g, urgency := .urgent, queued := s.delivery.now, origin := .request } := by
  intro g
  have ha := answerCall_eq g { s with emitted := [] }
  have hx (a : Answer) (he : answerCall g { s with emitted := [] } = a) : exec (.callRoving [b]) s = .next (hold 0x16 a) := by
    rw [exec_callRoving s b h, he]
  split
  · rename_i h1
    exact hx _ (ha.trans (if_pos h1))
  · rename_i h1
    replace ha := ha.trans (if_neg h1)
    split
    · rename_i h2
      exact hx _ (ha.trans (if_pos h2))
    · rename_i h2
      replace ha := ha.trans (if_neg h2)
      split
      · rename_i h3
        exact hx _ (ha.trans (if_pos h3))
      · rename_i h3
        replace ha := ha.trans (if_neg h3)
        rw [Bool.not_eq_true] at h2 h3
        refine ⟨_, _, (hx _ ha).trans (congrArg _ (hold_taken_planner (listGroup_onlyPlanner g .urgent .request _))), ?_⟩
        cases hf : s.planner.calls.find? (fun c => c.group == g) with
        | none =>
          have hc := callState_eq_none (s := { s with emitted := [] }) h3 (inCallList_of_find_none hf)
          exact (listGroup_none (s := { s with emitted := [] }) .urgent .request h2 hc).1.standsOrIssued
        | some c =>
          dsimp only
          split
          · rename_i hu
            rw [listGroup_urgent (s := { s with emitted := [] }) .urgent .request h2 h3 hf hu]
            exact ⟨rfl, rfl⟩
          · rename_i hu
            exact (listGroup_raised (s := { s with emitted := [] }) .request h2 h3 hf hu).standsOrIssued

/-! ## Declare Roving (R120) -/

/-- One change made to each record of a list, where making it twice is making it once. -/
theorem spindle_updEach (f : Spindle → Spindle) (hf : ∀ sp, f (f sp) = f sp) (m : Nat) : ∀ (ns : List Nat) (s : State),
    spindle (ns.foldl (fun acc n => updSpindle n f acc) s) m =
      if m ∈ ns ∧ hasSpindle s m = true then f (spindle s m) else spindle s m
  | [], _ => by simp
  | n :: ns, s => by
    have ih := spindle_updEach f hf m ns (updSpindle n f s)
    have hl : hasSpindle (updSpindle n f s) m = hasSpindle s m := by simp [hasSpindle]
    rw [List.foldl_cons, ih, hl, spindle_updSpindle]
    by_cases hm : m = n
    · subst hm; by_cases hr : hasSpindle s m = true <;> simp [hr, hf]
    · simp [hm]

/-- Nothing but the spindle records and the open shift has changed. -/
def onlyBooks (s t : State) : Prop := ∃ u : State, t = { s with spindles := u.spindles, shift := u.shift }

theorem onlyBooks.refl (s : State) : onlyBooks s s := ⟨s, rfl⟩

theorem onlyBooks.after {s t u : State} (k : onlyBooks t u) (h : onlyBooks s t) : onlyBooks s u := by
  obtain ⟨_, rfl⟩ := h; obtain ⟨x, rfl⟩ := k; exact ⟨x, rfl⟩

theorem updSpindle_onlyBooks (n : Nat) (f : Spindle → Spindle) (s : State) : onlyBooks s (updSpindle n f s) := ⟨updSpindle n f s, rfl⟩

theorem settleSpindle_onlyBooks (n : Nat) (s : State) : onlyBooks s (settleSpindle n s) := by
  unfold settleSpindle; dsimp only; split
  · exact (updSpindle_onlyBooks n _ _).after ⟨{ s with shift := s.shift.accrue _ _ _ }, rfl⟩
  · exact .refl s

theorem settleEach_onlyBooks (ns : List Nat) (s : State) : onlyBooks s (settleEach ns s) :=
  foldl_keeps onlyBooks .refl .after _ (fun t n => settleSpindle_onlyBooks n t) ns s

theorem updEach_onlyBooks (f : Spindle → Spindle) (ns : List Nat) (s : State) :
    onlyBooks s (ns.foldl (fun acc n => updSpindle n f acc) s) :=
  foldl_keeps onlyBooks .refl .after _ (fun t n => updSpindle_onlyBooks n f t) ns s

/-- R20, R120: the eight positions settled and declared. -/
def declaredGroup (g used : Nat) (s : State) : State :=
  (spindlesOfGroup g).foldl (fun acc n => updSpindle n (fun sp => sp.declared used) acc) (settleEach (spindlesOfGroup g) s)

theorem declareGroup_eq (g e : Nat) (s : State) :
    declareGroup g e s = evaluateGroup g (declaredGroup g (figC s * (8 - e) / 8) s) := rfl

theorem declaredGroup_onlyBooks (g used : Nat) (s : State) : onlyBooks s (declaredGroup g used s) :=
  (updEach_onlyBooks _ _ _).after (settleEach_onlyBooks _ _)

theorem mem_spindlesOfGroup {g n : Nat} : n ∈ spindlesOfGroup g ↔ 8 * (g - 1) + 1 ≤ n ∧ n < 8 * (g - 1) + 1 + 8 := by
  simp [spindlesOfGroup, List.mem_range'_1, Config.groupPositions]

theorem nodup_spindlesOfGroup (g : Nat) : (spindlesOfGroup g).Nodup := List.nodup_range'

theorem hasSpindle_of_mem_group {s : State} {g n : Nat} (hg : isGroup s g = true) (hl : 8 * g ≤ s.spindles.length)
    (hn : n ∈ spindlesOfGroup g) : hasSpindle s n = true := by
  have h1 : 1 ≤ g := by simp only [isGroup, Bool.and_eq_true, decide_eq_true_eq] at hg; exact hg.1
  have := mem_spindlesOfGroup.1 hn
  exact (hasSpindle_iff s n).2 ⟨by omega, by omega⟩

theorem spindle_declaredGroup (g used : Nat) (s : State) (n : Nat) :
    spindle (declaredGroup g used s) n =
      if n ∈ spindlesOfGroup g ∧ hasSpindle s n = true then
        { (spindle s n).settled s.delivery.driving s.delivery.now s.delivery.phi with rovingUsed := used, estimateValid := true }
      else spindle s n := by
  have hl : hasSpindle (settleEach (spindlesOfGroup g) s) n = hasSpindle s n := by simp [hasSpindle]
  rw [declaredGroup, spindle_updEach (fun sp => sp.declared used) (fun _ => rfl), hl, spindle_settleEach n _ (nodup_spindlesOfGroup g) s]
  split <;> rfl

/-- R113: the roving left at a declared position. -/
theorem remaining_declared {s u : State} (hd : u.delivery = s.delivery) (ho : u.doff = s.doff) (sp : Spindle) (used : Nat) :
    remaining u { sp.settled s.delivery.driving s.delivery.now s.delivery.phi with rovingUsed := used, estimateValid := true } =
      figC s - min 4294967295 used := by
  have h0 : owedPulses s.delivery.phi
      { sp.settled s.delivery.driving s.delivery.now s.delivery.phi with rovingUsed := used, estimateValid := true } = 0 :=
    owedPulses_settled sp s.delivery.driving s.delivery.now s.delivery.phi
  simp only [remaining, usedRead, figC, hd, ho, h0, satAdd, Nat.add_zero]

theorem exec_declareRoving (s : State) (b e : Byte) (h : lineReady s) :
    exec (.declareRoving [b, e]) s = .next (hold 0x17 (answerDeclare b.toNat e.toNat { s with emitted := [] })) := by
  refine (takeRequest_ready 0x17 _ _ s h).trans ?_
  rw [show bodyNumber [b, e] 0 1 = b.toNat by simp [bodyNumber, numberOf],
    show bodyNumber [b, e] 1 1 = e.toNat by simp [bodyNumber, numberOf]]
  rfl

/-- R120: the refusals of Declare Roving in turn, and the group declared. -/
theorem answerDeclare_eq (g e : Nat) (s : State) :
    answerDeclare g e s =
      if isGroup s g = false ∨ 8 < e then refuse .outOfRange s
      else if isActiveGroup s g = true then refuse .wrongState s
      else taken (declareGroup g e s) := by
  simp only [answerDeclare, callState_active_iff, Bool.or_eq_true, Bool.not_eq_true', decide_eq_true_eq]

/-- The second clause of O36. -/
theorem declareRoving_declares (s : State) (b e : Byte) (h : lineReady s) (hlen : 8 * b.toNat ≤ s.spindles.length) :
    let g := b.toNat
    if isGroup s g = false ∨ 8 < e.toNat then exec (.declareRoving [b, e]) s = .next (withReply 0x17 [4] .none s)
    else if isActiveGroup s g = true then exec (.declareRoving [b, e]) s = .next (withReply 0x17 [5] .none s)
    else
      ∃ t, exec (.declareRoving [b, e]) s = .next t ∧ keepsOuter (withReply 0x17 okBody .none s) t ∧ keepsReports s t ∧
        (∀ n, n ∈ spindlesOfGroup g →
          spindle t n =
            { (spindle s n).settled s.delivery.driving s.delivery.now s.delivery.phi with
              rovingUsed := capacity s.delivery s.doff.lot * (8 - e.toNat) / 8, estimateValid := true }) ∧
        (∀ n, n ∉ spindlesOfGroup g → spindle t n = spindle s n) ∧ t.listA = s.listA ∧ t.listB = s.listB ∧ t.car1 = s.car1 ∧
        t.car2 = s.car2 ∧ t.locks = s.locks ∧ t.lamps = s.lamps ∧
        let full := capacity s.delivery s.doff.lot
        let left := full - min 4294967295 (full * (8 - e.toNat) / 8)
        let margin := callMarginPulses s.delivery s.doff.lot s.settings.working.callMargin
        let others := s.planner.points.filter fun q => q.2 != g
        let runs := ∃ n ∈ spindlesOfGroup g, (spindle s n).state.isRunning = true
        let eligible := ∃ n ∈ spindlesOfGroup g, (spindle s n).state.eligible = true
        if inCallList s g = true then t.planner = { s.planner with points := others }
        else if left ≤ margin ∧ eligible then
          calledNow { group := g, urgency := .planned, queued := s.delivery.now, origin := .plan } s t ∧
            ∀ q ∈ t.planner.points, q.2 ≠ g
        else
          t.planner =
            { s.planner with points := if runs then insertPoint (s.delivery.phi + left - margin) g others else others } := by
  intro g
  have ha := answerDeclare_eq g e.toNat { s with emitted := [] }
  have hx (a : Answer) (he : answerDeclare g e.toNat { s with emitted := [] } = a) :
      exec (.declareRoving [b, e]) s = .next (hold 0x17 a) := by rw [exec_declareRoving s b e h, he]
  split
  · rename_i h1
    exact hx _ (ha.trans (if_pos h1))
  · rename_i h1
    replace ha := ha.trans (if_neg h1)
    split
    · rename_i h2
      exact hx _ (ha.trans (if_pos h2))
    · rename_i h2
      replace hx := hx _ (ha.trans (if_neg h2))
      rw [Bool.not_eq_true] at h2
      rw [not_or, Bool.not_eq_false] at h1
      rw [declareGroup_eq] at hx
      have hsp := spindle_declaredGroup g (figC s * (8 - e.toNat) / 8) { s with emitted := [] }
      obtain ⟨u, hu⟩ := declaredGroup_onlyBooks g (figC s * (8 - e.toNat) / 8) { s with emitted := [] }
      change exec _ s = .next (hold _ (taken (evaluateGroup g (declaredGroup g (figC s * (8 - e.toNat) / 8) { s with emitted := [] })))) at hx
      generalize declaredGroup g _ _ = d at hx hsp hu
      have hin (n : Nat) (hn : n ∈ spindlesOfGroup g) := (hsp n).trans (if_pos ⟨hn, hasSpindle_of_mem_group h1.1 hlen hn⟩)
      have hout (n : Nat) (hn : n ∉ spindlesOfGroup g) := (hsp n).trans (if_neg fun h => hn h.1)
      have hstate (n : Nat) : (spindle d n).state = (spindle s n).state := by
        by_cases hn : n ∈ spindlesOfGroup g
        · rw [hin n hn]; rfl
        · rw [hout n hn]; rfl
      obtain ⟨v, hv⟩ := evaluateGroup_onlyPlanner g d
      have hspt : (hold 0x17 (taken (evaluateGroup g d))).spindles = d.spindles := by rw [hv]; rfl
      have hplan : (hold 0x17 (taken (evaluateGroup g d))).planner = (evaluateGroup g d).planner := rfl
      have hone (n : Nat) : spindle (hold 0x17 (taken (evaluateGroup g d))) n = spindle d n := by simp only [spindle, hspt]
      refine ⟨_, hx, ?_, ?_, fun n hn => (hone n).trans (hin n hn), fun n hn => (hone n).trans (hout n hn), ?_⟩
      · rw [hv, hu]; exact ⟨⟨rfl, rfl, rfl, rfl, rfl, rfl, rfl, rfl, rfl, rfl, rfl⟩, rfl, rfl⟩
      · rw [hv, hu]; exact ⟨rfl, rfl⟩
      refine ⟨by rw [hv, hu]; rfl, by rw [hv, hu]; rfl, by rw [hv, hu]; rfl, by rw [hv, hu]; rfl, by rw [hv, hu]; rfl,
        by rw [hv, hu]; rfl, ?_⟩
      have hdel : d.delivery = s.delivery := by rw [hu]
      have hdoff : d.doff = s.doff := by rw [hu]
      have hset : d.settings = s.settings := by rw [hu]
      have hpl : d.planner = s.planner := by rw [hu]
      have hcm : figCm d = figCm s := by simp only [figCm, hdel, hdoff, hset]
      have hact : isActiveGroup d g = false := by simpa only [isActiveGroup, hpl] using h2
      have hinl : inCallList d g = inCallList s g := by simp only [inCallList, hpl]
      intro full left margin others runs eligible
      rw [hplan, ← hinl]
      split
      · rename_i hc
        rw [evaluateGroup_called (by rw [callState_eq_listed hact hc]; decide), removePoint_eq, hpl]
      · rename_i hc
        have hev := evaluateGroup_alike (left := left) hact (by simpa using hc) (fun n hn => by rw [hin n hn])
          (fun n hn => by rw [hin n hn]; exact remaining_declared hdel hdoff _ _)
        simp only [calledNow, hstate, hcm, hdel, hpl] at hev
        exact hev

/-- Settles O36. -/
theorem callAndDeclareRoving : Obligations.CallAndDeclareRoving := ⟨callRoving_calls, declareRoving_declares⟩

end Sys2Proof.Machine

/-! # A doff complete (R95, R145 to R147, R154) -/

namespace Sys2Proof.Machine

open Sys2Proof

/-! ## The open shift under accrual and dispatch -/

theorem length_addToCurrent (n : Nat) : ∀ l : List Segment, (addToCurrent n l).length = l.length
  | [] => rfl
  | [_] => rfl
  | _ :: h :: rest => congrArg (· + 1) (length_addToCurrent n (h :: rest))

/-- R159: no pulses added to an empty current segment leave it empty. -/
theorem getLast?_addToCurrent_zero {g : Segment} (hg : g.pulses = 0) : ∀ l : List Segment, l.getLast? = some g →
    (addToCurrent 0 l).getLast? = some g
  | [], h => h
  | [x], h => by
    obtain rfl : x = g := by simpa using h
    cases x
    simp_all [addToCurrent, satAdd]
  | x :: y :: rest, h => by
    have ih := getLast?_addToCurrent_zero hg (y :: rest) (by simpa using h)
    have hne : addToCurrent 0 (y :: rest) ≠ [] := by
      intro hn
      have := congrArg List.length hn
      rw [length_addToCurrent] at this
      simp at this
    obtain ⟨a, l, hl⟩ := List.exists_cons_of_ne_nil hne
    simp only [addToCurrent, hl, List.getLast?_cons_cons] at ih ⊢
    exact ih

/-- R145: the doffs and cops counted in a shift, and the number of its segments, stand. -/
structure DoffCountsStand (a b : Shift) : Prop where
  doffs : b.doffs = a.doffs
  cops : b.cops = a.cops
  shortCops : b.shortCops = a.shortCops
  segments : b.segments.length = a.segments.length

theorem DoffCountsStand.refl (a : Shift) : DoffCountsStand a a := ⟨rfl, rfl, rfl, rfl⟩

theorem DoffCountsStand.trans {a b c : Shift} (h : DoffCountsStand a b) (k : DoffCountsStand b c) : DoffCountsStand a c :=
  ⟨k.doffs.trans h.doffs, k.cops.trans h.cops, k.shortCops.trans h.shortCops, k.segments.trans h.segments⟩

theorem DoffCountsStand.accrue (a : Shift) (k : Category) (seconds pulses : Nat) : DoffCountsStand a (a.accrue k seconds pulses) :=
  ⟨rfl, rfl, rfl, length_addToCurrent _ _⟩

theorem settleSpindle_doffCounts (n : Nat) (s : State) : DoffCountsStand s.shift (settleSpindle n s).shift := by
  unfold settleSpindle; dsimp only; split
  · exact .accrue _ _ _ _
  · exact .refl _

theorem settleEach_doffCounts : ∀ (ns : List Nat) (s : State), DoffCountsStand s.shift (settleEach ns s).shift
  | [], _ => .refl _
  | n :: ns, s => (settleSpindle_doffCounts n s).trans (settleEach_doffCounts ns (settleSpindle n s))

/-- R18, R83: an order moves no pulses, for a BROKEN spindle owes none. -/
theorem pulsesOnChange_toPiecing (phi : Nat) (sp : Spindle) : pulsesOnChange phi sp sp.state.toPiecing = 0 := by
  rw [pulsesOnChange, toPiecing_isRunning, owedPulses]
  split
  · rfl
  · rfl

/-- What the dispatcher's work leaves of a shift: the doffs and cops counted, its segments, and an empty current segment. -/
structure CurrentStands (a b : Shift) : Prop where
  counts : DoffCountsStand a b
  current : ∀ g : Segment, g.pulses = 0 → a.segments.getLast? = some g → b.segments.getLast? = some g

theorem CurrentStands.refl (a : Shift) : CurrentStands a a := ⟨.refl a, fun _ _ h => h⟩

theorem CurrentStands.trans {a b c : Shift} (h : CurrentStands a b) (k : CurrentStands b c) : CurrentStands a c :=
  ⟨h.counts.trans k.counts, fun g hg ha => k.current g hg (h.current g hg ha)⟩

theorem Dispatches.current {W : Nat → Prop} {s t : State} (h : Dispatches W s t) : CurrentStands s.shift t.shift := by
  induction h with
  | refl => exact .refl _
  | apart _ _ _ hs ih => rw [hs]; exact ih.trans ⟨⟨rfl, rfl, rfl, rfl⟩, fun _ _ h => h⟩
  | unmark _ _ ih => exact ih
  | @order t n _ _ ih =>
    refine ih.trans ?_
    unfold changeState; dsimp only; split
    · rw [pulsesOnChange_toPiecing]
      exact ⟨.accrue _ _ _ _, fun g hg ha => getLast?_addToCurrent_zero hg _ ha⟩
    · exact .refl _

/-! ## Carriages under dispatch (R81, R83) -/

/-- R83: a link stands, or from READY has become BUSY in its place. -/
inductive CarriageLink.Employed (l : CarriageLink) : CarriageLink → Prop where
  | stands : Employed l l
  | ordered {st : Station} {side : Side} {pos : Nat} {dir : Direction} {o : Order} : l = .enrolled st side pos dir .ready →
      Employed l (.enrolled st side pos dir (.busy o))

theorem CarriageLink.Employed.trans {l m n : CarriageLink} (h : l.Employed m) (k : m.Employed n) : l.Employed n := by
  cases h with
  | stands => exact k
  | ordered hl =>
    cases k with
    | stands => exact .ordered hl
    | ordered hm => cases hm

/-- Nothing but the records, the lamps, the piecing lists, the locks, the planner, the open shift and the messages has changed. -/
def onlyLists (s t : State) : Prop :=
  ∃ u : State,
    t =
      { s with
        emitted := u.emitted, spindles := u.spindles, lamps := u.lamps, listA := u.listA, listB := u.listB, locks := u.locks
        planner := u.planner, shift := u.shift }

theorem onlyLists.refl (s : State) : onlyLists s s := ⟨s, rfl⟩

theorem onlyLists.after {s t u : State} (k : onlyLists t u) (h : onlyLists s t) : onlyLists s u := by
  obtain ⟨_, rfl⟩ := h; obtain ⟨x, rfl⟩ := k; exact ⟨x, rfl⟩

theorem onlyRecords.lists {s t : State} (h : onlyRecords s t) : onlyLists s t := by
  obtain ⟨u, rfl⟩ := h
  exact ⟨{ s with emitted := u.emitted, spindles := u.spindles, lamps := u.lamps, planner := u.planner, shift := u.shift }, rfl⟩

theorem setPieceList_onlyLists (side : Side) (l : List Entry) (s : State) : onlyLists s (setPieceList side l s) :=
  ⟨setPieceList side l s, by cases side <;> rfl⟩

theorem updLock_onlyLists (k : Nat) (f : Lock → Lock) (s : State) : onlyLists s (updLock k f s) := ⟨updLock k f s, rfl⟩

theorem makeEntry_onlyLists (n : Nat) (urgent : Bool) (s : State) : onlyLists s (makeEntry n urgent s) := by
  unfold makeEntry; split
  · exact (setPieceList_onlyLists _ _ _).after (updSpindle_onlyRecords _ _ _).lists
  · exact .refl s

theorem dropFromList_onlyLists (n : Nat) (s : State) : onlyLists s (dropFromList n s) :=
  (setPieceList_onlyLists _ _ _).after (updSpindle_onlyRecords _ _ _).lists

theorem refillUpTo_onlyLists : ∀ (fuel : Nat) (side : Side) (s : State), onlyLists s (refillUpTo fuel side s)
  | 0, _, s => .refl s
  | k + 1, side, s => by
    unfold refillUpTo; split
    · exact .refl s
    · split
      · exact (refillUpTo_onlyLists k side _).after (makeEntry_onlyLists _ _ _)
      · exact .refl s

/-- R83: an order changes, of the two carriages, the link of the one that takes it, and that to BUSY. -/
theorem issueOrder_link (r q : RecordNo) (e : Entry) (carried : Bool) (s : State) :
    ∃ o, (carriage (issueOrder r e carried s) q).link =
      if q = r then (carriage s q).link.withWork (.busy o) else (carriage s q).link := by
  have h (t : State) (ht : onlyLists s t) (f : Carriage → Carriage) :
      (carriage (countIssued (updCarriage r f t)) q).link = if q = r then (f (carriage s q)).link else (carriage s q).link := by
    obtain ⟨u, rfl⟩ := ht
    show (carriage (updCarriage r f _) q).link = _
    rw [carriage_updCarriage]; cases q <;> split <;> rfl
  unfold issueOrder; dsimp only
  refine ⟨_, h _ ?_ _⟩
  exact (enterState_onlyRecords _ _ _).lists.after <| (refillUpTo_onlyLists _ _ _).after <|
    (dropFromList_onlyLists _ _).after <| (emit_onlyPlanner _ _).records.lists.after (updLock_onlyLists _ _ _)

theorem dispatchAmong_employed (allowed : Entry → Bool) (carried : Bool) (r q : RecordNo) (s : State) :
    (carriage s q).link.Employed (carriage (dispatchAmong allowed carried r s) q).link := by
  unfold dispatchAmong; split
  · rename_i st side pos dir hl
    split
    · split
      · rename_i e _
        obtain ⟨o, ho⟩ := issueOrder_link r q e carried s
        rw [ho]
        split
        · rename_i hq; subst hq; rw [hl]; exact .ordered rfl
        · exact .stands
      · exact .stands
    · exact .stands
  · exact .stands

theorem attemptSide_employed (side : Side) (q : RecordNo) (s : State) :
    (carriage s q).link.Employed (carriage (attemptSide side s) q).link := by
  unfold attemptSide; split
  · exact .stands
  · exact dispatchAmong_employed _ _ _ _ _

/-! ## What reopening the frame for piecing keeps -/

/-- An entry to RESTARTING or SPINNING keeps the cops as read and the counts of the shift, and may give a READY carriage an order. -/
structure Reopens (s t : State) : Prop where
  shift : CurrentStands s.shift t.shift
  cops : ∀ n, copRead t (spindle t n) = copRead s (spindle s n)
  cars : ∀ r, (carriage s r).link.Employed (carriage t r).link

theorem Reopens.trans {s t u : State} (h : Reopens s t) (k : Reopens t u) : Reopens s u :=
  ⟨h.shift.trans k.shift, fun n => (k.cops n).trans (h.cops n), fun r => (h.cars r).trans (k.cars r)⟩

theorem attemptSide_reopens (side : Side) (s : State) : Reopens s (attemptSide side s) where
  shift := (attemptSide_any side s).current
  cops n := by
    have h := ((attemptSide_any side s).passes n).copAt
    rw [copRead_eq, copRead_eq, (attemptSide_any side s).delivery, h]
  cars r := attemptSide_employed side r s

theorem testDrowse_reopens (s : State) : Reopens s (testDrowse s) := by
  unfold testDrowse; split
  · exact ⟨.refl _, fun _ => rfl, fun r => by cases r <;> exact .stands⟩
  · exact ⟨.refl _, fun _ => rfl, fun _ => .stands⟩

theorem updDoff_reopens (f : Doff → Doff) (s : State) : Reopens s (updDoff f s) :=
  ⟨.refl _, fun _ => rfl, fun r => by cases r <;> exact .stands⟩

theorem enterPhase_reopens (ph : DoffPhase) (s : State) : Reopens s (enterPhase ph s) := by
  have h : Reopens s (testDrowse (updDoff (fun d => d.toPhase ph) s)) := (updDoff_reopens _ s).trans (testDrowse_reopens _)
  unfold enterPhase; dsimp only; split
  · exact h.trans ((attemptSide_reopens .a _).trans (attemptSide_reopens .b _))
  · exact h

/-! ## The restart window (R147) -/

/-- R138: the table at the start of the progress gives SPINNING. -/
theorem applyTable_start (s : State) (hp : doffProgress s = 0) (hw : s.doff.wPulses < s.doff.dPulses)
    (ho : s.doff.dPulses ≤ s.doff.overrun) :
    applyTable s = toPhase .spinning (updDoff (fun d => { d with overdue := false }) s) := by
  rw [applyTable_eq, if_neg fun h => by have := h.1; omega, if_neg (by omega), if_neg (by omega)]

/-- R147: RESTARTING entered at the start of the progress, and SPINNING at once where the window is empty. -/
theorem testWindow_restarting (s : State) (hphi : s.doff.phiD = s.delivery.phi) (hw : s.doff.wPulses < s.doff.dPulses)
    (ho : s.doff.dPulses ≤ s.doff.overrun) :
    testWindow (enterPhase .restarting s) =
      if 0 < s.doff.rwPulses then enterPhase .restarting s
      else toPhase .spinning (updDoff (fun d => { d with overdue := false }) (enterPhase .restarting s)) := by
  have hd : (enterPhase .restarting s).doff = s.doff.toPhase .restarting := enterPhase_doff _ _
  have hdel : (enterPhase .restarting s).delivery = s.delivery := by
    obtain ⟨_, hu⟩ := enterPhase_onlySequence .restarting s; rw [hu]
  have hp : doffProgress (enterPhase .restarting s) = 0 := by
    simp only [doffProgress, hd, hdel, Doff.toPhase, hphi, Nat.sub_self]
  have hph : (enterPhase .restarting s).doff.phase = .restarting := by rw [hd]; rfl
  have ht : applyTable (enterPhase .restarting s) = _ :=
    applyTable_start _ hp (by rw [hd]; exact hw) (by rw [hd]; exact ho)
  have hrw : (enterPhase .restarting s).doff.rwPulses = s.doff.rwPulses := by rw [hd]; rfl
  unfold testWindow
  rw [hph]
  dsimp only
  rw [hp, hrw, ht]
  by_cases hr : s.doff.rwPulses = 0
  · rw [if_pos (by omega), if_neg (by omega)]
  · rw [if_neg (by omega), if_pos (by omega)]

/-- R95, R137, R147: the frame reopened for piecing: the doff state, its outputs, and what stands. -/
theorem reopened (s : State) (hphi : s.doff.phiD = s.delivery.phi) (hw : s.doff.wPulses < s.doff.dPulses)
    (ho : s.doff.dPulses ≤ s.doff.overrun) :
    onlySequence s (testWindow (enterPhase .restarting s)) ∧ Reopens s (testWindow (enterPhase .restarting s)) ∧
      (testWindow (enterPhase .restarting s)).doff.phase = (if 0 < s.doff.rwPulses then .restarting else .spinning) ∧
      (testWindow (enterPhase .restarting s)).doff.request = false ∧ (testWindow (enterPhase .restarting s)).doff.clear = false ∧
      (testWindow (enterPhase .restarting s)).doff.number = s.doff.number := by
  have h1 := enterPhase_onlySequence .restarting s
  have h2 := enterPhase_reopens .restarting s
  have hd := enterPhase_doff .restarting s
  rw [testWindow_restarting s hphi hw ho]
  split
  · exact ⟨h1, h2, by rw [hd]; rfl, by rw [hd]; rfl, by rw [hd]; rfl, by rw [hd]; rfl⟩
  · have hne : (updDoff (fun d => { d with overdue := false }) (enterPhase .restarting s)).doff.phase ≠ .spinning := by
      show (enterPhase .restarting s).doff.phase ≠ _
      rw [hd]; exact fun h => nomatch h
    rw [toPhase, if_neg hne]
    have hd' := enterPhase_doff .spinning (updDoff (fun d => { d with overdue := false }) (enterPhase .restarting s))
    have hu : (updDoff (fun d => { d with overdue := false }) (enterPhase .restarting s)).doff =
        { s.doff.toPhase .restarting with overdue := false } := congrArg (fun d : Doff => { d with overdue := false }) hd
    rw [hu] at hd'
    exact ⟨(enterPhase_onlySequence _ _).after ((updDoff_onlySequence _ _ rfl).after h1),
      h2.trans ((updDoff_reopens _ _).trans (enterPhase_reopens _ _)), by rw [hd']; rfl, by rw [hd']; rfl, by rw [hd']; rfl,
      by rw [hd']; rfl⟩

/-! ## RESUME (R95) -/

/-- RESUME to record 1, then to record 2 (entry 39). -/
def resumeBoth (s : State) : State := resumeRecord .two (resumeRecord .one s)

theorem resumeRecord_carriages_only (r : RecordNo) (s : State) :
    ∃ u : State, resumeRecord r s = { s with emitted := u.emitted, car1 := u.car1, car2 := u.car2 } := by
  refine ⟨resumeRecord r s, ?_⟩
  unfold resumeRecord; split
  · cases r <;> rfl
  · rfl

theorem resumeBoth_carriages_only (s : State) :
    ∃ u : State, resumeBoth s = { s with emitted := u.emitted, car1 := u.car1, car2 := u.car2 } := by
  obtain ⟨u, hu⟩ := resumeRecord_carriages_only .one s
  obtain ⟨v, hv⟩ := resumeRecord_carriages_only .two (resumeRecord .one s)
  exact ⟨v, by rw [resumeBoth, hv, hu]⟩

/-- R95: a PARKED record is READY. -/
theorem resumeRecord_link (r q : RecordNo) (s : State) :
    (carriage (resumeRecord r s) q).link =
      match (carriage s q).link with
      | .enrolled st side pos dir .parked => if q = r then .enrolled st side pos dir .ready else .enrolled st side pos dir .parked
      | l => l := by
  unfold resumeRecord
  split
  · rename_i st side pos dir hl
    rw [carriage_updCarriage]
    by_cases hq : q = r
    · subst hq
      have he : carriage (emit (.carriage st.number .resume) s) q = carriage s q := by cases q <;> rfl
      rw [if_pos rfl, he, hl]; simp [CarriageLink.withWork]
    · have he : carriage (emit (.carriage st.number .resume) s) q = carriage s q := by cases q <;> rfl
      rw [if_neg hq, he]
      split
      · rename_i h; rw [h, if_neg hq]
      · rfl
  · rename_i hl
    split
    · rename_i st side pos dir h
      have hq : q ≠ r := by rintro rfl; exact hl _ _ _ _ h
      rw [h, if_neg hq]
    · rfl

theorem resumeBoth_link (r : RecordNo) (s : State) {st : Station} {side : Side} {pos : Nat} {dir : Direction}
    (h : (carriage s r).link = .enrolled st side pos dir .parked) :
    (carriage (resumeBoth s) r).link = .enrolled st side pos dir .ready := by
  have h1 := resumeRecord_link .one r s
  rw [h] at h1
  rw [resumeBoth, resumeRecord_link, h1]
  cases r <;> rfl

/-! ## The cops emptied and the lot (R145, R154) -/

/-- R145: the doff counted, every spindle settled, the cops emptied and the progress begun. -/
def emptiedFrame (record : DoffRecord) (s : State) : State :=
  updDoff (fun d => { d with phiD := (settleAll (countDoff record s)).delivery.phi })
    { settleAll (countDoff record s) with spindles := (settleAll (countDoff record s)).spindles.map Spindle.emptied }

/-- R12, R145: the distances of the lot in force, and the record at the head of the log. -/
def loggedDoff (record : DoffRecord) (mill : Nat) (lotted : LotOutcome × State) : State :=
  updDoff
    (fun d =>
      { d.computed lotted.2.delivery lotted.2.settings.working with
        log :=
          ({ record with
              completion := some mill
              appliedLot := if lotted.1 = .applied then some lotted.2.doff.lot.number else none } :: d.log).take 16 })
    lotted.2

theorem completeDoff_eq (record : DoffRecord) (s : State) :
    completeDoff record s =
      raiseNotice .doffDone .info (.doff record.number)
        (.doffDone record.cops record.shortCops (lotAtDoff (emptiedFrame record s)).1)
        (testWindow
          (enterPhase .restarting (resumeBoth (loggedDoff record s.delivery.mill (lotAtDoff (emptiedFrame record s)))))) := rfl

/-- The state of the emptied frame, against the one before. -/
theorem emptiedFrame_eq (record : DoffRecord) (s : State) :
    ∃ u : State, emptiedFrame record s =
      { s with spindles := u.spindles, shift := u.shift, doff := { s.doff with phiD := s.delivery.phi } } := by
  obtain ⟨u, hu⟩ := settleEach_onlyBooks (allSpindles (countDoff record s)) (countDoff record s)
  refine ⟨emptiedFrame record s, ?_⟩
  unfold emptiedFrame settleAll
  rw [hu]; rfl

theorem emptiedFrame_counts (record : DoffRecord) (s : State) :
    DoffCountsStand (countDoff record s).shift (emptiedFrame record s).shift := settleEach_doffCounts _ _

theorem spindle_map_emptied (s : State) (n : Nat) (h : hasSpindle s n = true) :
    spindle { s with spindles := s.spindles.map Spindle.emptied } n = (spindle s n).emptied := by
  obtain ⟨hk, he, h1⟩ := spindle_eq_getElem s n h
  obtain ⟨k, rfl⟩ : ∃ k, n = k + 1 := ⟨n - 1, by omega⟩
  rw [he]
  have hk' : k < s.spindles.length := by simpa using hk
  simp [spindle, nth_succ, hk']

/-- R145: every cop is empty, as read. -/
theorem emptiedFrame_cops (record : DoffRecord) (s : State) (hl : s.spindles.length = spindleCount s) (n : Nat) (h1 : 1 ≤ n)
    (hn : n ≤ s.spindles.length) :
    copRead (emptiedFrame record s) (spindle (emptiedFrame record s) n) = 0 := by
  have hr : hasSpindle (settleAll (countDoff record s)) n = true :=
    (hasSpindle_iff _ n).2 ⟨h1, by rw [length_settleAll]; exact hn⟩
  have hset := settledNow_settleAll (countDoff record s) hl _ (spindle_mem _ n hr)
  have hsp : spindle (emptiedFrame record s) n = (spindle (settleAll (countDoff record s)) n).emptied := spindle_map_emptied _ n hr
  have h0 : owedPulses (settleAll (countDoff record s)).delivery.phi (spindle (settleAll (countDoff record s)) n).emptied = 0 := hset.2
  rw [hsp, copRead_eq]
  exact (copAt_of_owed h0).trans (by simp [Spindle.emptied])

/-- R185: a write asked for runs, or one that ran is followed by another. -/
theorem askWrite_store (s : State) :
    (askWrite s).store.writer ≠ .idle ∧ (s.store.writer ≠ .idle → (askWrite s).store.rewrite = true) := by
  unfold askWrite
  cases h : s.store.writer with
  | idle => exact ⟨(fun hn => nomatch hn), fun hn => absurd rfl hn⟩
  | writing c i => exact ⟨(fun hn => nomatch h.symm.trans hn), fun _ => rfl⟩

theorem askWrite_eq (s : State) : askWrite s = { s with store := (askWrite s).store } := by
  unfold askWrite; split <;> rfl

/-- R154: a lot applied: what stands, and what is new. -/
theorem applyLot_changes (lot : Lot) (s : State) :
    ∃ u : State,
      applyLot lot s =
        { s with
          emitted := u.emitted, spindles := u.spindles, planner := u.planner
          shift := { u.shift with segments := u.shift.segments ++ [{ lot := lot.number, t := lot.t, pulses := 0 }] }
          doff := { s.doff with lot := lot, pendingLot := none }
          settings := { s.settings with retained := { s.settings.retained with lot := lot } }
          store := u.store } ∧
        u.spindles = (settleAll s).spindles ∧ DoffCountsStand s.shift u.shift ∧ u.store.writer ≠ .idle ∧
          (s.store.writer ≠ .idle → u.store.rewrite = true) := by
  obtain ⟨v, hv⟩ := settleEach_onlyBooks (allSpindles s) s
  have hc := settleEach_doffCounts (allSpindles s) s
  unfold applyLot settleAll
  dsimp only
  rw [hv] at hc ⊢
  generalize hs2 : State.mk _ _ _ _ _ _ _ _ _ _ _ _ _ _ _ _ _ _ _ _ _ _ _ _ _ = s2
  obtain ⟨w, hw⟩ := evaluateGroups_onlyPlanner (allGroups s2) s2
  have hst := askWrite_store (evaluateGroups (allGroups s2) s2)
  rw [askWrite_eq]
  rw [hw] at hst ⊢
  subst hs2
  exact ⟨{ v with
    emitted := w.emitted, planner := w.planner, store := (askWrite _).store }, rfl, rfl, hc, hst.1, hst.2⟩

/-! ## From the lot to the end of the completion -/

/-- R95, R137, R147: the rest of a doff completion, after the lot. -/
def finishDoff (record : DoffRecord) (mill : Nat) (lotted : LotOutcome × State) : State :=
  testWindow (enterPhase .restarting (resumeBoth (loggedDoff record mill lotted)))

/-- What the rest of a doff completion leaves of the state `m` in which the lot has been applied. -/
structure Finished (record : DoffRecord) (mill : Nat) (m t : State) : Prop where
  stands : t.delivery = m.delivery ∧ t.zones = m.zones ∧ t.line = m.line ∧ t.ring = m.ring ∧ t.settings = m.settings ∧
    t.store = m.store
  doff : t.doff.phiD = m.doff.phiD ∧ t.doff.lot = m.doff.lot ∧ t.doff.pendingLot = m.doff.pendingLot ∧ t.doff.number = m.doff.number
  distances : t.doff.dPulses = doffPulses m.delivery m.doff.lot ∧ t.doff.wPulses = warningPulses m.delivery m.doff.lot ∧
    t.doff.overrun = overrunDistance (doffPulses m.delivery m.doff.lot) m.settings.working.overrunLimit ∧
    t.doff.rwPulses = restartPulses m.delivery m.settings.working.restartWindow
  log : ∃ done : DoffRecord, t.doff.log = (done :: m.doff.log).take 16 ∧ done.completion = some mill ∧ done.number = record.number ∧
    done.cops = record.cops ∧ done.shortCops = record.shortCops ∧ done.delivered = record.delivered
  phase : t.doff.phase = (if 0 < t.doff.rwPulses then .restarting else .spinning) ∧ t.doff.request = false ∧ t.doff.clear = false
  shift : CurrentStands m.shift t.shift
  cops : ∀ n, copRead t (spindle t n) = copRead m (spindle m n)
  cars : ∀ (r : RecordNo) (st : Station) (side : Side) (pos : Nat) (dir : Direction),
    (carriage m r).link = .enrolled st side pos dir .parked →
      CarriageLink.Employed (.enrolled st side pos dir .ready) (carriage t r).link

theorem finishDoff_finished (record : DoffRecord) (mill : Nat) (lotted : LotOutcome × State)
    (hphi : lotted.2.doff.phiD = lotted.2.delivery.phi) (hD : 2 ≤ doffPulses lotted.2.delivery lotted.2.doff.lot) :
    Finished record mill lotted.2 (finishDoff record mill lotted) := by
  obtain ⟨outcome, m⟩ := lotted
  dsimp only at hphi hD ⊢
  obtain ⟨v, hv⟩ := resumeBoth_carriages_only (loggedDoff record mill (outcome, m))
  have hw : warningPulses m.delivery m.doff.lot < doffPulses m.delivery m.doff.lot := by unfold warningPulses; omega
  have ho (d pv : Nat) : d ≤ overrunDistance d pv := Nat.le_add_right _ _
  obtain ⟨⟨u, hu⟩, hre, hph, hrq, hcl, hnum⟩ := reopened (resumeBoth (loggedDoff record mill (outcome, m)))
    (by rw [hv]; exact hphi) (by rw [hv]; exact hw) (by rw [hv]; exact ho _ _)
  have hcur := hre.shift
  have hcop := hre.cops
  have hcar := hre.cars
  unfold finishDoff
  rw [hu] at hph hrq hcl hnum hcur hcop hcar ⊢
  rw [hv] at hph hnum hcur hcop ⊢
  refine ⟨⟨rfl, rfl, rfl, rfl, rfl, rfl⟩, ⟨rfl, rfl, rfl, hnum⟩, ⟨rfl, rfl, rfl, rfl⟩, ⟨_, rfl, rfl, rfl, rfl, rfl, rfl⟩,
    ⟨hph, hrq, hcl⟩, hcur, hcop, fun r st side pos dir h => ?_⟩
  have hl := resumeBoth_link r (loggedDoff record mill (outcome, m)) (by cases r <;> exact h)
  have hc := hcar r
  rw [hl] at hc
  rw [hv] at hc
  exact hc

/-- R95: what became of a PARKED carriage, in the words of the statement. -/
theorem CarriageLink.Employed.ready_or_busy {st : Station} {side : Side} {pos : Nat} {dir : Direction} {l : CarriageLink}
    (h : CarriageLink.Employed (.enrolled st side pos dir .ready) l) :
    l = .enrolled st side pos dir .ready ∨ ∃ o, l = .enrolled st side pos dir (.busy o) := by
  cases h with
  | stands => exact .inl rfl
  | ordered he => cases he; exact .inr ⟨_, rfl⟩

theorem exec_doffComplete (s : State) (hp : s.powered = true) {call : CallInfo} {record : DoffRecord}
    (h : s.doff.phase = .doffing call record) :
    exec .doffComplete s = .next (completeDoff record { s with emitted := [] }) := by
  refine (live_powered doffPulse s hp).trans ?_
  unfold doffPulse
  simp only [h]

/-- R145: the lot stage leaves the cops as read, the progress and the counts of the doff. -/
theorem applyLot_cops (lot : Lot) (s : State) (n : Nat) :
    copRead (applyLot lot s) (spindle (applyLot lot s) n) = copRead s (spindle s n) := by
  obtain ⟨u, hu, hsp, _⟩ := applyLot_changes lot s
  have hone : spindle (applyLot lot s) n = spindle (settleAll s) n := by rw [hu]; exact congrArg (nth · n default) hsp
  have hdel : (applyLot lot s).delivery = s.delivery := by rw [hu]
  rw [copRead_eq, copRead_eq, hone, hdel, settleAll, spindle_settleEach n (allSpindles s) List.nodup_range']
  split
  · exact copAt_settled _ _ _ _
  · rfl

/-- The state in which the lot stage ends, against the one before the completion: what every outcome of that stage shares. -/
structure LotStage (record : DoffRecord) (s m : State) : Prop where
  stands : m.delivery = s.delivery ∧ m.zones = s.zones ∧ m.line = s.line ∧ m.ring = s.ring ∧ m.settings.working = s.settings.working
  doff : m.doff.phiD = s.delivery.phi ∧ m.doff.number = s.doff.number ∧ m.doff.log = s.doff.log
  cars : ∀ r, carriage m r = carriage s r
  doffs : m.shift.doffs = min 4294967295 (s.shift.doffs + 1)
  copsCounted : m.shift.cops = min 4294967295 (s.shift.cops + record.cops)
  shortCops : m.shift.shortCops = min 4294967295 (s.shift.shortCops + record.shortCops)
  cops : ∀ n, 1 ≤ n → n ≤ s.spindles.length → copRead m (spindle m n) = 0

theorem emptiedFrame_stage (record : DoffRecord) (s : State) (hl : s.spindles.length = spindleCount s) :
    LotStage record s (emptiedFrame record { s with emitted := [] }) := by
  have hcops := emptiedFrame_cops record { s with emitted := [] } hl
  obtain ⟨hd, hc, hsc, _⟩ := emptiedFrame_counts record { s with emitted := [] }
  obtain ⟨u, hu⟩ := emptiedFrame_eq record { s with emitted := [] }
  rw [hu] at hcops hd hc hsc ⊢
  exact ⟨⟨rfl, rfl, rfl, rfl, rfl⟩, ⟨rfl, rfl, rfl⟩, fun r => by cases r <;> rfl, hd, hc, hsc, hcops⟩

theorem LotStage.applied {record : DoffRecord} {s m : State} (h : LotStage record s m) (lot : Lot) :
    LotStage record s (applyLot lot m) := by
  obtain ⟨⟨h1, h2, h3, h4, h5⟩, ⟨h6, h7, h8⟩, h9, h10, h11, h12, h13⟩ := h
  have hcops := applyLot_cops lot m
  obtain ⟨u, hu, _, ⟨hd, hc, hsc, _⟩, _⟩ := applyLot_changes lot m
  rw [hu] at hcops ⊢
  exact ⟨⟨h1, h2, h3, h4, h5⟩, ⟨h6, h7, h8⟩, fun r => by rw [← h9 r]; cases r <;> rfl, hd.trans h10, hc.trans h11, hsc.trans h12,
    fun n h1 hn => (hcops n).trans (h13 n h1 hn)⟩

theorem Finished.noticed {record : DoffRecord} {mill : Nat} {m t : State} (h : Finished record mill m t) (ns : Notices) :
    Finished record mill m { t with notices := ns } := by
  obtain ⟨h1, h2, h3, h4, h5, h6, h7, h8⟩ := h
  exact ⟨h1, h2, h3, h4, h5, h6, h7, fun r => by cases r <;> [exact h8 .one; exact h8 .two]⟩

/-- A doff completion, from its lot stage to its end. -/
theorem exec_doffComplete_finished (s : State) (hp : s.powered = true) {call : CallInfo} {record : DoffRecord}
    (hph : s.doff.phase = .doffing call record) {outcome : LotOutcome} {m : State}
    (hlot : lotAtDoff (emptiedFrame record { s with emitted := [] }) = (outcome, m)) (hphi : m.doff.phiD = m.delivery.phi)
    (hD : 2 ≤ doffPulses m.delivery m.doff.lot) :
    ∃ t, exec .doffComplete s = .next t ∧ Finished record s.delivery.mill m t ∧ t.notices.latches.getLsbD 3 = true := by
  refine ⟨_, exec_doffComplete s hp hph, ?_, ?_⟩
  · rw [completeDoff_eq, hlot, raiseNotice_eq]
    exact (finishDoff_finished record s.delivery.mill (outcome, m) hphi hD).noticed _
  · rw [completeDoff_eq, raiseNotice_latches, BitVec.getLsbD_or]
    exact Bool.or_eq_true_iff.2 (.inr (by decide))

/-- R154: what a doff completion makes of a pending lot. -/
def lotTaken (s t : State) : Prop :=
  match s.doff.pendingLot with
  | none =>
    t.doff.lot = s.doff.lot ∧ t.doff.pendingLot = none ∧ t.shift.segments.length = s.shift.segments.length ∧
      t.settings = s.settings ∧ t.store = s.store
  | some lot =>
    if s.shift.segments.length < 4 then
      t.doff.lot = lot ∧ t.doff.pendingLot = none ∧ t.settings.retained = { s.settings.retained with lot := lot } ∧
        t.shift.segments.getLast? = some { lot := lot.number, t := lot.t, pulses := 0 } ∧
        t.shift.segments.length = s.shift.segments.length + 1 ∧
        (t.store.writer ≠ .idle ∧ (s.store.writer ≠ .idle → t.store.rewrite = true))
    else
      t.doff.lot = s.doff.lot ∧ t.doff.pendingLot = some lot ∧ t.settings = s.settings ∧ t.store = s.store

/-- R154: the lot stage in each of its outcomes. -/
theorem lotAtDoff_stage (record : DoffRecord) (s : State) (hl : s.spindles.length = spindleCount s)
    (hD : 2 ≤ doffPulses s.delivery s.doff.lot) (hDl : ∀ lot, s.doff.pendingLot = some lot → 2 ≤ doffPulses s.delivery lot) :
    ∃ (outcome : LotOutcome) (m : State),
      lotAtDoff (emptiedFrame record { s with emitted := [] }) = (outcome, m) ∧ LotStage record s m ∧
        2 ≤ doffPulses s.delivery m.doff.lot ∧ ∀ t, Finished record s.delivery.mill m t → lotTaken s t := by
  have hstage := emptiedFrame_stage record s hl
  have hseg : (emptiedFrame record { s with emitted := [] }).shift.segments.length = s.shift.segments.length :=
    (emptiedFrame_counts record { s with emitted := [] }).segments
  obtain ⟨u, hu⟩ := emptiedFrame_eq record { s with emitted := [] }
  have hlot : (emptiedFrame record { s with emitted := [] }).doff.lot = s.doff.lot := by rw [hu]
  have hpend : (emptiedFrame record { s with emitted := [] }).doff.pendingLot = s.doff.pendingLot := by rw [hu]
  have hset : (emptiedFrame record { s with emitted := [] }).settings = s.settings := by rw [hu]
  have hsto : (emptiedFrame record { s with emitted := [] }).store = s.store := by rw [hu]
  clear hu
  generalize emptiedFrame record { s with emitted := [] } = e at hstage hseg hlot hpend hset hsto
  unfold lotAtDoff lotTaken
  rw [hpend]
  cases hpl : s.doff.pendingLot with
  | none =>
    refine ⟨_, _, rfl, hstage, hlot ▸ hD, fun t ht => ?_⟩
    obtain ⟨_, hl1, hl2, _⟩ := ht.doff
    obtain ⟨_, _, _, _, hs1, hs2⟩ := ht.stands
    exact ⟨hl1.trans hlot, hl2.trans (hpend.trans hpl), ht.shift.counts.segments.trans hseg, hs1.trans hset, hs2.trans hsto⟩
  | some lot =>
    dsimp only
    rw [hseg]
    by_cases h4 : s.shift.segments.length < 4
    · obtain ⟨v, hv, _, hc, hw1, hw2⟩ := applyLot_changes lot e
      rw [if_pos (show s.shift.segments.length < Config.segmentCapacity from h4)]
      refine ⟨_, _, rfl, hstage.applied lot, ?_, fun t ht => ?_⟩
      · rw [hv]; exact hDl lot hpl
      · rw [hv] at ht
        obtain ⟨_, hl1, hl2, _⟩ := ht.doff
        obtain ⟨_, _, _, _, hs1, hs2⟩ := ht.stands
        rw [if_pos h4]
        refine ⟨hl1, hl2, by rw [hs1, hset], ht.shift.current _ rfl List.getLast?_concat, ?_, by rw [hs2]; exact hw1,
          fun hi => by rw [hs2]; exact hw2 (hsto ▸ hi)⟩
        refine ht.shift.counts.segments.trans ?_
        rw [List.length_append, hc.segments, hseg]; rfl
    · rw [if_neg (show ¬ s.shift.segments.length < Config.segmentCapacity from h4)]
      refine ⟨_, _, rfl, hstage, hlot ▸ hD, fun t ht => ?_⟩
      obtain ⟨_, hl1, hl2, _⟩ := ht.doff
      obtain ⟨_, _, _, _, hs1, hs2⟩ := ht.stands
      rw [if_neg h4]
      exact ⟨hl1.trans hlot, hl2.trans (hpend.trans hpl), hs1.trans hset, hs2.trans hsto⟩

/-- Settles O38: the emptied frame and its lot (`lotAtDoff_stage`), and the frame reopened (`finishDoff_finished`). -/
theorem doffCompleteEmptiesTheCops : Obligations.DoffCompleteEmptiesTheCops := by
  intro s call record hp hph hl hD hDl
  obtain ⟨outcome, m, hlot, hm, hDm, hmid⟩ := lotAtDoff_stage record s hl hD hDl
  obtain ⟨hdel, hz, hline, hring, hwork⟩ := hm.stands
  obtain ⟨hphi, hnum, hlog⟩ := hm.doff
  obtain ⟨t, hx, ht, hnot⟩ := exec_doffComplete_finished s hp hph hlot (hphi.trans (congrArg Delivery.phi hdel).symm)
    (hdel ▸ hDm)
  obtain ⟨tdel, tz, tline, tring, tset, _⟩ := ht.stands
  obtain ⟨tphi, tlot, _, tnum⟩ := ht.doff
  obtain ⟨tD, tW, tO, tR⟩ := ht.distances
  obtain ⟨done, tlog, hdone⟩ := ht.log
  obtain ⟨tph, treq, tcl⟩ := ht.phase
  have hc := ht.shift.counts
  rw [hdel] at tD tW tO tR
  rw [hwork] at tO tR
  rw [← tlot] at tD tW tO
  refine ⟨t, hx, tdel.trans hdel, tz.trans hz, tline.trans hline, tring.trans hring, (congrArg Settings.working tset).trans hwork,
    hc.doffs.trans hm.doffs, hc.cops.trans hm.copsCounted, hc.shortCops.trans hm.shortCops,
    fun n h1 hn => (ht.cops n).trans (hm.cops n h1 hn), tphi.trans hphi, hmid t ht, tD, tW, tO.trans (by rw [tD]), tR,
    tnum.trans hnum, ⟨done, hlog ▸ tlog, hdone⟩, tph, treq, tcl, fun r st side pos dir h => ?_, hnot⟩
  exact (ht.cars r st side pos dir (by rw [hm.cars r]; exact h)).ready_or_busy

end Sys2Proof.Machine

/-! # A roving change completed (R126, R129) -/

namespace Sys2Proof.Machine

open Sys2Proof

/-! ## Roving used, as read, under settling and changes of state -/

/-- A spindle's roving used as read at an odometer (R19). -/
def usedAt (phi : Nat) (sp : Spindle) : Nat := satAdd Config.top32 sp.rovingUsed (owedPulses phi sp)

theorem usedRead_eq (s : State) (sp : Spindle) : usedRead s sp = usedAt s.delivery.phi sp := rfl

theorem settled_rovingUsed (sp : Spindle) (driving : Bool) (now phi : Nat) :
    (sp.settled driving now phi).rovingUsed = usedAt phi sp := rfl

/-- R20: settling moves no reading. -/
theorem usedAt_settled (sp : Spindle) (driving : Bool) (now phi : Nat) :
    usedAt phi (sp.settled driving now phi) = usedAt phi sp := by
  simp only [usedAt, settled_rovingUsed, owedPulses_settled, satAdd]
  omega

theorem changed_rovingUsed (sp : Spindle) (driving : Bool) (now phi : Nat) (st : SpindleState) :
    (sp.changed driving now phi st).rovingUsed = satAdd Config.top32 sp.rovingUsed (pulsesOnChange phi sp st) := by
  cases st <;> rfl

theorem changed_estimateValid (sp : Spindle) (driving : Bool) (now phi : Nat) (st : SpindleState) :
    (sp.changed driving now phi st).estimateValid = sp.estimateValid := by
  cases st <;> rfl

/-- R18: a change of state moves no reading. -/
theorem usedAt_changed (sp : Spindle) (driving : Bool) (now phi : Nat) (st : SpindleState) :
    usedAt phi (sp.changed driving now phi st) = usedAt phi sp := by
  simp only [usedAt, changed_rovingUsed, owedPulses_changed, pulsesOnChange, satAdd]
  cases st.isRunning <;> simp; omega

/-! ## A spindle under the dispatcher's work and an enlistment -/

/-- What being passed over or enlisted by the dispatcher leaves of a spindle: its state, but that a BROKEN one may be ordered, its
estimate, its readings and, in RUNNING, its pulse mark. -/
structure Spindle.Handled (phi : Nat) (sp x : Spindle) : Prop where
  state : x.state = sp.state ∨ ∃ c t, sp.state = .broken c t ∧ x.state = .piecing c t
  estimate : x.estimateValid = sp.estimateValid
  used : usedAt phi x = usedAt phi sp
  roving : sp.rovingUsed ≤ Config.top32 → x.rovingUsed = sp.rovingUsed
  cop : sp.copPulses ≤ Config.top32 → x.copPulses = sp.copPulses
  mark : sp.state = .running → x.pulseMark = sp.pulseMark

namespace Spindle.Handled

variable {phi : Nat} {sp x y : Spindle}

theorem refl (phi : Nat) (sp : Spindle) : Handled phi sp sp := ⟨.inl rfl, rfl, rfl, fun _ => rfl, fun _ => rfl, fun _ => rfl⟩

theorem trans (h : Handled phi sp x) (k : Handled phi x y) : Handled phi sp y where
  state := by
    rcases k.state with k | ⟨c, t, hx, hy⟩
    · rw [k]; exact h.state
    · rcases h.state with h | ⟨_, _, _, h⟩
      · exact .inr ⟨c, t, h ▸ hx, hy⟩
      · rw [h] at hx; cases hx
  estimate := k.estimate.trans h.estimate
  used := k.used.trans h.used
  roving hr := (k.roving (h.roving hr ▸ hr)).trans (h.roving hr)
  cop hc := (k.cop (h.cop hc ▸ hc)).trans (h.cop hc)
  mark hs := by
    have hx : x.state = .running := by
      rcases h.state with h | ⟨_, _, h, _⟩
      · rw [h, hs]
      · rw [hs] at h; cases h
    exact (k.mark hx).trans (h.mark hs)

/-- The unlisted flag is none of these. -/
theorem flagged (b : Bool) : Handled phi sp { sp with unlisted := b } :=
  ⟨.inl rfl, rfl, rfl, fun _ => rfl, fun _ => rfl, fun _ => rfl⟩

/-- An order handles a spindle. -/
theorem ordered (driving : Bool) (now : Nat) : Handled phi sp (sp.changed driving now phi sp.state.toPiecing) where
  state := by
    rw [changed_state]
    cases h : sp.state with
    | broken c t => exact .inr ⟨c, t, rfl, rfl⟩
    | _ => exact .inl rfl
  estimate := changed_estimateValid _ _ _ _ _
  used := usedAt_changed _ _ _ _ _
  roving h := by rw [changed_rovingUsed, pulsesOnChange_toPiecing]; exact Nat.min_eq_right h
  cop h := by rw [changed_copPulses, pulsesOnChange_toPiecing]; exact Nat.min_eq_right h
  mark h := by rw [changed_pulseMark, h]; simp [SpindleState.toPiecing, markOnChange, h, SpindleState.isRunning]

end Spindle.Handled

theorem Spindle.Passes.handled {dl : Delivery} {sp x : Spindle} (h : sp.Passes dl x) : sp.Handled dl.phi x := by
  induction h with
  | refl => exact .refl _ _
  | unmark _ ih => exact ih.trans (.flagged false)
  | ordered _ ih => exact ih.trans (.ordered _ _)

theorem Dispatches.handled {W : Nat → Prop} {s t : State} (h : Dispatches W s t) (m : Nat) :
    (spindle s m).Handled s.delivery.phi (spindle t m) := (h.passes m).handled

theorem onlyPlanner.spindle {s t : State} (h : onlyPlanner s t) (m : Nat) : Machine.spindle t m = Machine.spindle s m := by
  obtain ⟨_, rfl⟩ := h; rfl

theorem spindle_raiseFault (c : FaultClass) (x : Subject) (d : Detail) (s : State) (m : Nat) :
    spindle (raiseFault c x d s) m = spindle s m := by rw [raiseFault_eq]; rfl

theorem listSpindle_handled (n m : Nat) (s : State) : (spindle s m).Handled s.delivery.phi (spindle (listSpindle n s) m) := by
  have h : (spindle s m).Handled s.delivery.phi (spindle (updSpindle n (fun x => { x with unlisted := true }) s) m) := by
    rw [spindle_updSpindle]; split
    · exact .flagged true
    · exact .refl _ _
  unfold listSpindle; dsimp only; split
  · exact (makeEntry_dispatches (W := fun _ => True) n false s).handled m
  · split
    · rw [spindle_raiseFault]; exact h
    · exact h

/-- R52, R81: a spindle taken in without a lock check, seen at any spindle. -/
theorem takeIn_handled (n m : Nat) (s : State) : (spindle s m).Handled s.delivery.phi (spindle (takeIn n .none s) m) := by
  have he : enlist n .none s = tellPlanner (groupOf n) (listSpindle n s) := rfl
  have hd : (tellPlanner (groupOf n) (listSpindle n s)).delivery = s.delivery := by
    obtain ⟨_, h1⟩ := tellPlanner_onlyPlanner (groupOf n) (listSpindle n s)
    obtain ⟨_, h2⟩ := listSpindle_onlyFrame n s
    rw [h1, h2]
  have h := (attemptIfListed_any n (tellPlanner (groupOf n) (listSpindle n s))).handled m
  rw [(tellPlanner_onlyPlanner _ _).spindle m, hd] at h
  rw [takeIn, he]
  exact (listSpindle_handled n m s).trans h

/-! ## The positions released (R126) -/

/-- R126: what the completion of a change makes of a spindle of the group. -/
def Spindle.released (dl : Delivery) (sp : Spindle) : Spindle :=
  match sp.state with
  | .waitRoving t => sp.changed dl.driving dl.now dl.phi (.broken .rovingOut t)
  | .settling .pieced _ => sp.changed dl.driving dl.now dl.phi (.settling .roving dl.now)
  | _ => sp

/-- A change of state of a spindle that does not run, to a state that does not. -/
theorem Spindle.Handled.changed {dl : Delivery} {sp x : Spindle} (h : sp.Handled dl.phi x) (hs : x.state = sp.state)
    (hn : sp.state.isRunning = false) (hr : sp.rovingUsed ≤ Config.top32) (hc : sp.copPulses ≤ Config.top32) (st : SpindleState)
    (hst : st.isRunning = false) :
    (sp.changed dl.driving dl.now dl.phi st).Handled dl.phi (x.changed dl.driving dl.now dl.phi st) where
  state := .inl (by simp)
  estimate := by rw [changed_estimateValid, changed_estimateValid, h.estimate]
  used := by rw [usedAt_changed, usedAt_changed, h.used]
  roving _ := by simp [changed_rovingUsed, pulsesOnChange, owedPulses, hs, hn, h.roving hr]
  cop _ := by simp [changed_copPulses, pulsesOnChange, owedPulses, hs, hn, h.cop hc]
  mark hm := by rw [changed_state] at hm; rw [hm] at hst; cases hst

/-- Being handled first and released after is being released first and handled after. -/
theorem Spindle.Handled.released {dl : Delivery} {sp x : Spindle} (h : sp.Handled dl.phi x) (hr : sp.rovingUsed ≤ Config.top32)
    (hc : sp.copPulses ≤ Config.top32) : (sp.released dl).Handled dl.phi (x.released dl) := by
  rcases h.state with hs | ⟨c, t, hb, hp⟩
  · unfold Spindle.released
    rw [hs]
    cases hst : sp.state with
    | waitRoving t => exact h.changed hs (by rw [hst]; rfl) hr hc _ rfl
    | settling o t =>
      cases o with
      | pieced => exact h.changed hs (by rw [hst]; rfl) hr hc _ rfl
      | _ => exact h
    | _ => exact h
  · unfold Spindle.released
    rw [hb, hp]
    exact h

theorem releaseFromRoving_handled (n m : Nat) (s : State) :
    (if m = n ∧ hasSpindle s n = true then (spindle s m).released s.delivery else spindle s m).Handled s.delivery.phi
      (spindle (releaseFromRoving n s) m) := by
  have hd (st : SpindleState) : (changeState n st s).delivery = s.delivery := by
    obtain ⟨_, hu⟩ := changeState_onlyTables n st s; rw [hu]
  by_cases hm : m = n ∧ hasSpindle s n = true
  · rw [if_pos hm]
    obtain ⟨rfl, hr⟩ := hm
    unfold releaseFromRoving Spindle.released
    cases (spindle s m).state with
    | waitRoving t =>
      have h := takeIn_handled m m (changeState m (.broken .rovingOut t) s)
      rw [hd, spindle_changeState, if_pos ⟨rfl, hr⟩] at h
      exact h
    | settling o t =>
      cases o with
      | pieced =>
        dsimp only
        rw [spindle_enterState, spindle_changeState, if_pos ⟨rfl, hr⟩]
        exact .refl _ _
      | _ => exact .refl _ _
    | _ => exact .refl _ _
  · rw [if_neg hm]
    unfold releaseFromRoving
    split
    · rename_i t _
      have h := takeIn_handled n m (changeState n (.broken .rovingOut t) s)
      rw [hd, spindle_changeState, if_neg hm] at h
      exact h
    · rw [spindle_enterState, spindle_changeState, if_neg hm]
      exact .refl _ _
    · exact .refl _ _

/-- R126: the positions released one after another. -/
def releaseEach (ns : List Nat) (s : State) : State := ns.foldl (fun acc n => releaseFromRoving n acc) s

theorem releaseFromRoving_delivery (n : Nat) (s : State) : (releaseFromRoving n s).delivery = s.delivery := by
  obtain ⟨_, hu⟩ := releaseFromRoving_onlyFrame n s; rw [hu]

/-- The release of the positions in turn handles every other spindle. -/
theorem releaseEach_other (m : Nat) : ∀ (ns : List Nat), m ∉ ns → ∀ s : State,
    (spindle s m).Handled s.delivery.phi (spindle (releaseEach ns s) m)
  | [], _, _ => .refl _ _
  | n :: ns, hm, s => by
    have hstep := releaseFromRoving_handled n m s
    rw [if_neg fun h : m = n ∧ hasSpindle s n = true => hm (h.1 ▸ List.mem_cons_self)] at hstep
    have hrest := releaseEach_other m ns (fun h => hm (List.mem_cons_of_mem _ h)) (releaseFromRoving n s)
    rw [releaseFromRoving_delivery] at hrest
    exact hstep.trans hrest

/-- The release of the positions in turn releases each of them, and handles it. -/
theorem releaseEach_member (m : Nat) : ∀ (ns : List Nat), ns.Nodup → m ∈ ns → ∀ s : State, hasSpindle s m = true →
    (spindle s m).rovingUsed ≤ Config.top32 → (spindle s m).copPulses ≤ Config.top32 →
      ((spindle s m).released s.delivery).Handled s.delivery.phi (spindle (releaseEach ns s) m)
  | n :: ns, hnd, hm, s, hr, hro, hco => by
    obtain ⟨hn, hnd⟩ := List.nodup_cons.1 hnd
    have hstep := releaseFromRoving_handled n m s
    by_cases he : m = n
    · subst he
      rw [if_pos ⟨rfl, hr⟩] at hstep
      have hrest := releaseEach_other m ns hn (releaseFromRoving m s)
      rw [releaseFromRoving_delivery] at hrest
      exact hstep.trans hrest
    · rw [if_neg fun h : m = n ∧ hasSpindle s n = true => he h.1] at hstep
      have hrest := releaseEach_member m ns hnd ((List.mem_cons.1 hm).resolve_left he) (releaseFromRoving n s)
        (by rw [hasSpindle_of_runs (releaseFromRoving_runs n s), hr]) (hstep.roving hro ▸ hro) (hstep.cop hco ▸ hco)
      rw [releaseFromRoving_delivery] at hrest
      exact (hstep.released hro hco).trans hrest

/-! ## The open shift (R160) -/

/-- Nothing of a shift but its categories, its segments and its piecing counts has changed. -/
def Shift.onlyAccrued (a b : Shift) : Prop :=
  ∃ c : Shift, b = { a with categories := c.categories, segments := c.segments, piecing := c.piecing }

namespace Shift.onlyAccrued

theorem refl (a : Shift) : onlyAccrued a a := ⟨a, rfl⟩

theorem after {a b c : Shift} (k : onlyAccrued b c) (h : onlyAccrued a b) : onlyAccrued a c := by
  obtain ⟨_, rfl⟩ := h; obtain ⟨x, rfl⟩ := k; exact ⟨x, rfl⟩

theorem changes {a b : Shift} (h : onlyAccrued a b) : b.changes = a.changes := by obtain ⟨_, rfl⟩ := h; rfl

theorem residue {a b : Shift} (h : onlyAccrued a b) : b.residue = a.residue := by obtain ⟨_, rfl⟩ := h; rfl

theorem breaks {a b : Shift} (h : onlyAccrued a b) : b.breaks = a.breaks := by obtain ⟨_, rfl⟩ := h; rfl

theorem handPieced {a b : Shift} (h : onlyAccrued a b) : b.handPieced = a.handPieced := by obtain ⟨_, rfl⟩ := h; rfl

theorem accrue (a : Shift) (k : Category) (x y : Nat) : onlyAccrued a (a.accrue k x y) := ⟨a.accrue k x y, rfl⟩

end Shift.onlyAccrued

theorem changeState_accrued (n : Nat) (st : SpindleState) (s : State) : s.shift.onlyAccrued (changeState n st s).shift := by
  unfold changeState; dsimp only; split
  · exact .accrue _ _ _ _
  · exact .refl _

theorem onlyPlanner.shift {s t : State} (h : onlyPlanner s t) : t.shift = s.shift := by obtain ⟨_, rfl⟩ := h; rfl

theorem enterState_accrued (n : Nat) (st : SpindleState) (s : State) : s.shift.onlyAccrued (enterState n st s).shift := by
  rw [enterState, (tellPlanner_onlyPlanner _ _).shift]; exact changeState_accrued n st s

theorem settleSpindle_accrued (n : Nat) (s : State) : s.shift.onlyAccrued (settleSpindle n s).shift := by
  unfold settleSpindle; dsimp only; split
  · exact .accrue _ _ _ _
  · exact .refl _

theorem Dispatches.accrued {W : Nat → Prop} {s t : State} (h : Dispatches W s t) : s.shift.onlyAccrued t.shift := by
  induction h with
  | refl => exact .refl _
  | @apart t u _ _ _ hs ih => exact Shift.onlyAccrued.after ⟨{ t.shift with piecing := u.shift.piecing }, hs⟩ ih
  | unmark _ _ ih => exact ih
  | order n _ _ ih => exact (changeState_accrued _ _ _).after ih

theorem listSpindle_shift (n : Nat) (s : State) : (listSpindle n s).shift = s.shift := by
  unfold listSpindle; dsimp only; split
  · unfold makeEntry; split
    · rw [setPieceList_shift]; rfl
    · rfl
  · split
    · rw [raiseFault_eq]; rfl
    · rfl

theorem takeIn_accrued (n : Nat) (s : State) : s.shift.onlyAccrued (takeIn n .none s).shift := by
  have h := (attemptIfListed_any n (tellPlanner (groupOf n) (listSpindle n s))).accrued
  rw [(tellPlanner_onlyPlanner _ _).shift, listSpindle_shift] at h
  exact h

theorem releaseFromRoving_accrued (n : Nat) (s : State) : s.shift.onlyAccrued (releaseFromRoving n s).shift := by
  unfold releaseFromRoving; split
  · exact (takeIn_accrued _ _).after (changeState_accrued _ _ _)
  · exact enterState_accrued _ _ _
  · exact .refl _

theorem foldl_accrued (f : State → Nat → State) (hf : ∀ (s : State) (n : Nat), s.shift.onlyAccrued (f s n).shift) : ∀ (ns : List Nat) (s : State),
    s.shift.onlyAccrued (ns.foldl f s).shift
  | [], _ => .refl _
  | n :: ns, s => (foldl_accrued f hf ns (f s n)).after (hf s n)

/-! ## The group renewed -/

/-- R126: the eight positions settled and their estimates renewed. -/
def renewedGroup (g : Nat) (s : State) : State :=
  (spindlesOfGroup g).foldl (fun acc n => updSpindle n Spindle.renewed acc) (settleEach (spindlesOfGroup g) s)

theorem renewGroup_eq (g : Nat) (s : State) :
    renewGroup g s = countChange (residueAtChange g s) (releaseEach (spindlesOfGroup g) (renewedGroup g s)) := rfl

theorem renewedGroup_onlyBooks (g : Nat) (s : State) : onlyBooks s (renewedGroup g s) :=
  (updEach_onlyBooks _ _ _).after (settleEach_onlyBooks _ _)

theorem spindle_renewedGroup (g : Nat) (s : State) (n : Nat) :
    spindle (renewedGroup g s) n =
      if n ∈ spindlesOfGroup g ∧ hasSpindle s n = true then
        ((spindle s n).settled s.delivery.driving s.delivery.now s.delivery.phi).renewed
      else spindle s n := by
  have hl : hasSpindle (settleEach (spindlesOfGroup g) s) n = hasSpindle s n := by simp [hasSpindle]
  rw [renewedGroup, spindle_updEach Spindle.renewed (fun _ => rfl), hl, spindle_settleEach n _ (nodup_spindlesOfGroup g) s]
  split <;> rfl

/-- R14, R126: the residue as booked is that of the positions as read before. -/
theorem residueAtChange_eq (g : Nat) (s : State) :
    residueAtChange g s =
      ((spindlesOfGroup g).map fun n => residueMetres s.delivery s.doff.lot (remaining s (spindle s n))).sum := by
  obtain ⟨u, hu⟩ := settleEach_onlyBooks (spindlesOfGroup g) s
  have hd : (settleEach (spindlesOfGroup g) s).delivery = s.delivery := by rw [hu]
  have hf : (settleEach (spindlesOfGroup g) s).doff = s.doff := by rw [hu]
  unfold residueAtChange residueOf groupSpindles
  rw [List.map_map]
  refine congrArg List.sum (List.map_congr_left fun n _ => ?_)
  simp only [Function.comp_apply, remaining, figC, hd, hf, usedRead_eq, spindle_settleEach n _ (nodup_spindlesOfGroup g) s]
  split
  · rw [usedAt_settled]
  · rfl

theorem spindle_countChange (k n : Nat) (s : State) : spindle (countChange k s) n = spindle s n := rfl

theorem countChange_changes (k : Nat) (s : State) :
    (countChange k s).shift.changes = satAdd Config.top32 s.shift.changes 1 := rfl

theorem countChange_residue (k : Nat) (s : State) :
    (countChange k s).shift.residue = satAdd Config.top32 s.shift.residue k := rfl

theorem countChange_breaks (k : Nat) (s : State) : (countChange k s).shift.breaks = s.shift.breaks := rfl

theorem length_renewedGroup (g : Nat) (s : State) : (renewedGroup g s).spindles.length = s.spindles.length := by
  have h1 := foldl_runs (fun acc n => updSpindle n Spindle.renewed acc)
    (fun t n => updSpindle_same_runs n Spindle.renewed t fun _ => ⟨rfl, rfl, rfl, rfl⟩) (spindlesOfGroup g)
    (settleEach (spindlesOfGroup g) s)
  exact h1.length.trans (length_settleEach _ _)

theorem renewedGroup_accrued (g : Nat) (s : State) : s.shift.onlyAccrued (renewedGroup g s).shift := by
  have h1 := foldl_accrued (fun acc n => updSpindle n Spindle.renewed acc) (fun t n => .refl _) (spindlesOfGroup g)
    (settleEach (spindlesOfGroup g) s)
  exact h1.after (foldl_accrued _ (fun t n => settleSpindle_accrued n t) _ _)

theorem renewedGroup_delivery (g : Nat) (s : State) : (renewedGroup g s).delivery = s.delivery := by
  obtain ⟨_, hu⟩ := renewedGroup_onlyBooks g s; rw [hu]

/-- R126: a position of the group: settled, renewed, released, and handled. -/
theorem renewGroup_member {g n : Nat} {s : State} (hn : n ∈ spindlesOfGroup g) (hr : hasSpindle s n = true) :
    ((((spindle s n).settled s.delivery.driving s.delivery.now s.delivery.phi).renewed).released s.delivery).Handled s.delivery.phi
      (spindle (renewGroup g s) n) := by
  have hz := spindle_renewedGroup g s n
  rw [if_pos ⟨hn, hr⟩] at hz
  have hl : hasSpindle (renewedGroup g s) n = true := by
    obtain ⟨h1, h2⟩ := (hasSpindle_iff s n).1 hr
    exact (hasSpindle_iff _ n).2 ⟨h1, by rw [length_renewedGroup]; exact h2⟩
  have h := releaseEach_member n _ (nodup_spindlesOfGroup g) hn (renewedGroup g s) hl
    (by rw [hz]; exact Nat.zero_le _) (by rw [hz]; exact satAdd_le _ _ _)
  rw [hz, renewedGroup_delivery] at h
  rw [renewGroup_eq, spindle_countChange]
  exact h

theorem renewGroup_other {g n : Nat} {s : State} (hn : n ∉ spindlesOfGroup g) :
    (spindle s n).Handled s.delivery.phi (spindle (renewGroup g s) n) := by
  have h := releaseEach_other n _ hn (renewedGroup g s)
  have hz := (spindle_renewedGroup g s n).trans (if_neg fun k : n ∈ spindlesOfGroup g ∧ hasSpindle s n = true => hn k.1)
  rw [hz, renewedGroup_delivery] at h
  rw [renewGroup_eq, spindle_countChange]
  exact h

/-- R126, R160: a change booked. -/
theorem renewGroup_shift (g : Nat) (s : State) :
    (renewGroup g s).shift.changes = satAdd Config.top32 s.shift.changes 1 ∧
      (renewGroup g s).shift.residue = satAdd Config.top32 s.shift.residue (residueAtChange g s) ∧
      (renewGroup g s).shift.breaks = s.shift.breaks := by
  have h : s.shift.onlyAccrued (releaseEach (spindlesOfGroup g) (renewedGroup g s)).shift :=
    (foldl_accrued _ (fun t n => releaseFromRoving_accrued n t) _ _).after (renewedGroup_accrued g s)
  rw [renewGroup_eq]
  refine ⟨?_, ?_, ?_⟩
  · rw [countChange_changes, h.changes]
  · rw [countChange_residue, h.residue]
  · rw [countChange_breaks, h.breaks]

theorem renewGroup_delivery (g : Nat) (s : State) : (renewGroup g s).delivery = s.delivery := by
  obtain ⟨_, hu⟩ := renewGroup_onlyFrame g s; rw [hu]

/-! ## The transport after a call test (R123) -/

/-- R123: the transport stands, or has been called now. -/
def standsOrCalled (s t : State) : Prop :=
  t.planner.transport = s.planner.transport ∨ ∃ c, t.planner.transport = .called c ∧ c.callTime = s.delivery.now

theorem standsOrCalled.after {s t u : State} (k : standsOrCalled t u) (hd : t.delivery = s.delivery) (h : standsOrCalled s t) :
    standsOrCalled s u := by
  rcases k with k | ⟨c, k, hc⟩
  · rcases h with h | ⟨c, h, hc⟩
    · exact .inl (k.trans h)
    · exact .inr ⟨c, k.trans h, hc⟩
  · exact .inr ⟨c, k, hd ▸ hc⟩

theorem callTest_transport (s : State) : standsOrCalled s (callTest s) := by
  unfold callTest; split
  · exact .inr ⟨_, rfl, rfl⟩
  · exact .inl rfl

theorem listGroup_transport (g : Nat) (u : CallUrgency) (o : CallOrigin) (s : State) : standsOrCalled s (listGroup g u o s) := by
  unfold listGroup; split
  · exact .inl rfl
  · split
    · exact .inl rfl
    · exact callTest_transport _
    · split
      · split
        · exact callTest_transport _
        · exact .inl rfl
      · exact .inl rfl

theorem evaluateGroup_transport (g : Nat) (s : State) : standsOrCalled s (evaluateGroup g s) := by
  unfold evaluateGroup; dsimp only; split
  · split
    · exact listGroup_transport _ _ _ (removePoint g s)
    · split
      · exact .inl rfl
      · split
        · exact listGroup_transport _ _ _ (removePoint g s)
        · exact .inl rfl
  · exact .inl rfl

/-! ## CHANGED -/

/-- What a change completed, on time or late, leaves at the end, but for the transport. -/
structure Changed (g : Nat) (s t : State) : Prop where
  outer : keepsOuter s t
  changes : t.shift.changes = min 4294967295 (s.shift.changes + 1)
  residue : t.shift.residue =
    min 4294967295
      (s.shift.residue + ((spindlesOfGroup g).map fun n => residueMetres s.delivery s.doff.lot (remaining s (spindle s n))).sum)
  breaks : t.shift.breaks = s.shift.breaks
  members : ∀ n ∈ spindlesOfGroup g, hasSpindle s n = true →
    ((((spindle s n).settled s.delivery.driving s.delivery.now s.delivery.phi).renewed).released s.delivery).Handled s.delivery.phi
      (spindle t n)
  others : ∀ n, n ∉ spindlesOfGroup g → (spindle s n).Handled s.delivery.phi (spindle t n)
  latch : t.notices.latches.getLsbD 2 = true

/-- R126: what follows the renewal of a group: the dispatcher's work, planner work, and the notice. -/
theorem changed_of_renewed {g : Nat} {s d t : State} (hd : DispatchesAny (renewGroup g s) d) {p : State} (hp : onlyPlanner d p)
    {k : NoticeKind} {l : NoticeLevel} {x : Subject} {e : Detail} (hk : k.classBit = 2) (ht : onlyPlanner (raiseNotice k l x e p) t) :
    Changed g s t := by
  have hdel : (renewGroup g s).delivery = s.delivery := renewGroup_delivery g s
  have hframe : onlyFrame s t :=
    ht.toTables.toFrame.after <| (raiseNotice_onlyFrame _ _ _ _ _).after <| hp.toTables.toFrame.after <|
      hd.tables.toFrame.after (renewGroup_onlyFrame g s)
  have hsh : t.shift = d.shift := by
    have h1 : t.shift = p.shift := ht.shift
    rw [h1, hp.shift]
  obtain ⟨h1, h2, h3⟩ := renewGroup_shift g s
  have hc := hd.accrued
  have hsp (n : Nat) : spindle t n = spindle d n := by
    have h1 : spindle t n = spindle p n := ht.spindle n
    rw [h1, hp.spindle n]
  have hhand (n : Nat) : (spindle (renewGroup g s) n).Handled s.delivery.phi (spindle t n) := by
    have h := hd.handled n
    rw [hdel] at h
    rw [hsp]; exact h
  have hres := residueAtChange_eq g s
  rw [hres, satAdd, Config.top32] at h2
  have hl : t.notices = (raiseNotice k l x e p).notices := by obtain ⟨_, hu⟩ := ht; rw [hu]
  constructor
  case outer => exact hframe.keepsOuter
  case changes => rw [hsh, hc.changes]; exact h1
  case residue => rw [hsh, hc.residue]; exact h2
  case breaks => rw [hsh, hc.breaks]; exact h3
  case members => intro n hn hr; exact (renewGroup_member hn hr).trans (hhand n)
  case others => intro n hn; exact (renewGroup_other hn).trans (hhand n)
  case latch =>
    rw [hl, raiseNotice_latches, BitVec.getLsbD_or, hk]
    exact Bool.or_eq_true_iff.2 (.inr (by decide))

theorem completeChange_changed (c : ActiveChange) (s : State) : Changed c.call.group s (completeChange c s) := by
  have hp := (evaluateGroup_onlyPlanner c.call.group _).after
    (updPlanner_onlyPlanner (fun p => { p with transport := .idle }) (endClaimOfChange (renewGroup c.call.group s)))
  unfold completeChange; dsimp only
  exact changed_of_renewed (endClaimOfChange_any _) hp (k := .rovingChanged) rfl (callTest_onlyPlanner _)

/-- R126: the transport, IDLE after a change, may be called at once. -/
theorem completeChange_transport (c : ActiveChange) (s : State) :
    (completeChange c s).planner.transport = .idle ∨
      ∃ c', (completeChange c s).planner.transport = .called c' ∧ c'.callTime = s.delivery.now := by
  have hd : (endClaimOfChange (renewGroup c.call.group s)).delivery = s.delivery :=
    (endClaimOfChange_any (renewGroup c.call.group s)).delivery.trans (renewGroup_delivery _ _)
  unfold completeChange; dsimp only
  generalize endClaimOfChange (renewGroup c.call.group s) = r at hd ⊢
  have h1 := evaluateGroup_transport c.call.group (updPlanner (fun p => { p with transport := .idle }) r)
  obtain ⟨v, hv⟩ := evaluateGroup_onlyPlanner c.call.group (updPlanner (fun p => { p with transport := .idle }) r)
  generalize evaluateGroup c.call.group (updPlanner (fun p => { p with transport := .idle }) r) = q at h1 hv ⊢
  have hq : q.delivery = s.delivery := by rw [hv]; exact hd
  have h2 := callTest_transport (raiseNotice .rovingChanged .info (.group c.call.group) (.residue (residueAtChange c.call.group s)) q)
  rcases h2 with h2 | ⟨a, h2, ha⟩
  · rcases h1 with h1 | ⟨a, h1, ha⟩
    · exact .inl (h2.trans h1)
    · exact .inr ⟨a, h2.trans h1, ha.trans (congrArg Delivery.now hd)⟩
  · exact .inr ⟨a, h2, ha.trans (congrArg Delivery.now hq)⟩

theorem Changed.of_planner {g : Nat} {s t : State} {p : Planner} (h : Changed g { s with planner := p } t) : Changed g s t := by
  obtain ⟨h1, h2, h3, h4, h5, h6, h7⟩ := h
  exact ⟨h1, h2, h3, h4, h5, h6, h7⟩

theorem Changed.of_emitted {g : Nat} {s t : State} {l : List Output} (h : Changed g { s with emitted := l } t) : Changed g s t := by
  obtain ⟨h1, h2, h3, h4, h5, h6, h7⟩ := h
  exact ⟨h1, h2, h3, h4, h5, h6, h7⟩

theorem Changed.other_estimates {g n : Nat} {s t : State} (h : Changed g s t) (hn : n ∉ spindlesOfGroup g) :
    usedRead t (spindle t n) = usedRead s (spindle s n) ∧ (spindle t n).estimateValid = (spindle s n).estimateValid := by
  obtain ⟨⟨_, _, hd, _⟩, _⟩ := h.outer
  rw [usedRead_eq, usedRead_eq, hd]
  exact ⟨(h.others n hn).used, (h.others n hn).estimate⟩

theorem honourLate_changed (g : Nat) (s : State) : Changed g s (honourLate g s) := by
  have hp := evaluateGroup_onlyPlanner g (renewGroup g (removeCall g s))
  refine Changed.of_planner (p := (removeCall g s).planner) ?_
  unfold honourLate; dsimp only
  exact changed_of_renewed .refl hp (k := .lateChange) rfl (updPlanner_onlyPlanner (fun p => { p with lastTimedOut := none }) _)

theorem released_books (dl : Delivery) (sp : Spindle) (hr : sp.rovingUsed = 0) (hc : sp.copPulses ≤ Config.top32) :
    (sp.released dl).rovingUsed = 0 ∧ (sp.released dl).estimateValid = sp.estimateValid ∧
      (sp.released dl).copPulses = sp.copPulses := by
  have h (st : SpindleState) (hn : sp.state.isRunning = false) :
      (sp.changed dl.driving dl.now dl.phi st).rovingUsed = 0 ∧
        (sp.changed dl.driving dl.now dl.phi st).estimateValid = sp.estimateValid ∧
        (sp.changed dl.driving dl.now dl.phi st).copPulses = sp.copPulses := by
    simp [changed_rovingUsed, changed_estimateValid, pulsesOnChange, owedPulses, hn, hr, satAdd, hc]
  unfold Spindle.released
  cases hst : sp.state with
  | waitRoving t => exact h _ (by rw [hst]; rfl)
  | settling o t =>
    cases o with
    | pieced => exact h _ (by rw [hst]; rfl)
    | _ => exact ⟨hr, rfl, rfl⟩
  | _ => exact ⟨hr, rfl, rfl⟩

/-- R126: a position of the group at the end, in the words of the statement. -/
theorem member_facts {s t : State} {n : Nat}
    (h : ((((spindle s n).settled s.delivery.driving s.delivery.now s.delivery.phi).renewed).released s.delivery).Handled
      s.delivery.phi (spindle t n)) :
    (spindle t n).rovingUsed = 0 ∧ (spindle t n).estimateValid = true ∧ (spindle t n).copPulses = copRead s (spindle s n) ∧
      match (spindle s n).state with
      | .waitRoving time => (spindle t n).state = .broken .rovingOut time ∨ (spindle t n).state = .piecing .rovingOut time
      | .settling .pieced _ => (spindle t n).state = .settling .roving s.delivery.now
      | .running => (spindle t n).state = .running ∧ (spindle t n).pulseMark = some s.delivery.phi
      | .broken c x => (spindle t n).state = .broken c x ∨ (spindle t n).state = .piecing c x
      | st => (spindle t n).state = st := by
  have hst : (((spindle s n).settled s.delivery.driving s.delivery.now s.delivery.phi).renewed).state = (spindle s n).state := rfl
  have hc : (((spindle s n).settled s.delivery.driving s.delivery.now s.delivery.phi).renewed).copPulses = copRead s (spindle s n) := rfl
  have hmark : (((spindle s n).settled s.delivery.driving s.delivery.now s.delivery.phi).renewed).pulseMark =
      if (spindle s n).state.isRunning then some s.delivery.phi else (spindle s n).pulseMark := rfl
  obtain ⟨hr0, he0, hc0⟩ := released_books s.delivery
    (((spindle s n).settled s.delivery.driving s.delivery.now s.delivery.phi).renewed) rfl (satAdd_le _ _ _)
  rw [hc] at hc0
  refine ⟨(h.roving (by rw [hr0]; exact Nat.zero_le _)).trans hr0, h.estimate.trans he0,
    (h.cop (by rw [hc0]; exact satAdd_le _ _ _)).trans hc0, ?_⟩
  have hstate := h.state
  have hm := h.mark
  generalize ((spindle s n).settled s.delivery.driving s.delivery.now s.delivery.phi).renewed = z at hst hmark hstate hm
  unfold Spindle.released at hstate hm
  rw [hst] at hstate hm
  cases hs : (spindle s n).state with
  | waitRoving time =>
    simp only [hs, changed_state] at hstate
    rcases hstate with h | ⟨c, x, hb, h⟩
    · exact .inl h
    · cases hb; exact .inr h
  | broken c x =>
    simp only [hs, hst] at hstate
    rcases hstate with h | ⟨c', x', hb, h⟩
    · exact .inl h
    · cases hb; exact .inr h
  | running =>
    simp only [hs, hst] at hstate hm
    rcases hstate with h | ⟨_, _, hb, _⟩
    · exact ⟨h, (hm trivial).trans (by rw [hmark, hs]; rfl)⟩
    · cases hb
  | settling o x =>
    cases o with
    | pieced =>
      simp only [hs, changed_state] at hstate
      rcases hstate with h | ⟨_, _, hb, _⟩
      · exact h
      · cases hb
    | _ =>
      simp only [hs, hst] at hstate
      rcases hstate with h | ⟨_, _, hb, _⟩
      · exact h
      · cases hb
  | _ =>
    simp only [hs, hst] at hstate
    rcases hstate with h | ⟨_, _, hb, _⟩
    · exact h
    · cases hb

theorem exec_changed (s : State) (tag : Nat) (hp : s.powered = true) :
    exec (.changed tag) s =
      .next (match currentChange s tag with
        | some c => completeChange c { s with emitted := [] }
        | none =>
          match lateGroup s tag with
          | some g => honourLate g { s with emitted := [] }
          | none => discardTransport { s with emitted := [] }) := live_powered (takeChanged tag) s hp

/-- Settles O34: a change on time (`completeChange_changed`), late (`honourLate_changed`), or of neither kind. -/
theorem changedRenewsTheGroup : Obligations.ChangedRenewsTheGroup := by
  intro s tag hp
  have hx := exec_changed s tag hp
  have hmem (g : Nat) (h1 : 1 ≤ g) (hl : 8 * g ≤ s.spindles.length) (n : Nat) (hn : n ∈ spindlesOfGroup g) :
      hasSpindle s n = true := by
    have := mem_spindlesOfGroup.1 hn
    exact (hasSpindle_iff s n).2 ⟨by omega, by omega⟩
  cases hc : currentChange s tag with
  | some c =>
    rw [hc] at hx
    dsimp only at hx
    intro _ g hg h1 hl _
    obtain rfl : c.call.group = g := by
      rcases hg with hg | ⟨hg, _⟩
      · exact Option.some.inj hg
      · exact nomatch (show some c.call.group = none from hg)
    have h := (completeChange_changed c { s with emitted := [] }).of_emitted
    exact ⟨_, hx, h.outer, h.changes, h.residue, h.breaks, fun n hn => member_facts (h.members n hn (hmem _ h1 hl n hn)),
      fun n hn => h.other_estimates hn, h.latch, completeChange_transport c _⟩
  | none =>
    rw [hc] at hx
    cases hl : lateGroup s tag with
    | none => rw [hl] at hx; exact hx
    | some g' =>
      rw [hl] at hx
      dsimp only at hx
      intro _ g hg h1 hlen _
      obtain rfl : g' = g := by
        rcases hg with hg | ⟨_, hg⟩
        · exact nomatch (show none = some g from hg)
        · exact Option.some.inj hg
      have h := (honourLate_changed g' { s with emitted := [] }).of_emitted
      exact ⟨_, hx, h.outer, h.changes, h.residue, h.breaks, fun n hn => member_facts (h.members n hn (hmem _ h1 hlen n hn)),
        fun n hn => h.other_estimates hn, h.latch, rfl⟩

end Sys2Proof.Machine

/-! # An accepted report (R32, R39, R41 to R43, R54, R55) -/

namespace Sys2Proof.Machine

open Sys2Proof

/-! ## Work on one spindle -/

theorem pieceList_setPieceList (side side' : Side) (l : List Entry) (s : State) :
    pieceList (setPieceList side l s) side' = if side' = side then l else pieceList s side' := by
  cases side <;> cases side' <;> rfl

theorem mem_insertEntry (e f : Entry) : ∀ l : List Entry, f ∈ insertEntry e l ↔ f = e ∨ f ∈ l
  | [] => by simp [insertEntry]
  | g :: l => by
    unfold insertEntry; split
    · simp
    · simp only [List.mem_cons, mem_insertEntry e f l]; tauto

/-- Work done on spindle `n`: no other record changes, and a piecing list gains entries of `n` alone. -/
structure TurnOf (n : Nat) (s t : State) : Prop where
  delivery : t.delivery = s.delivery
  settings : t.settings = s.settings
  doff : t.doff = s.doff
  length : t.spindles.length = s.spindles.length
  others : ∀ m, m ≠ n → spindle t m = spindle s m
  lists : ∀ side, ∀ e ∈ pieceList t side, e ∈ pieceList s side ∨ e.spindle = n

namespace TurnOf

variable {n : Nat} {s t u : State}

theorem refl (n : Nat) (s : State) : TurnOf n s s := ⟨rfl, rfl, rfl, rfl, fun _ _ => rfl, fun _ _ h => .inl h⟩

theorem after (k : TurnOf n t u) (h : TurnOf n s t) : TurnOf n s u where
  delivery := k.delivery.trans h.delivery
  settings := k.settings.trans h.settings
  doff := k.doff.trans h.doff
  length := k.length.trans h.length
  others m hm := (k.others m hm).trans (h.others m hm)
  lists side e he := (k.lists side e he).elim (h.lists side e) .inr

theorem has (h : TurnOf n s t) (m : Nat) : hasSpindle t m = hasSpindle s m := by simp [hasSpindle, h.length]

/-- Nothing that a turn is about has changed. -/
theorem of_same (hd : t.delivery = s.delivery) (hs : t.settings = s.settings) (hf : t.doff = s.doff) (hp : t.spindles = s.spindles)
    (ha : t.listA = s.listA) (hb : t.listB = s.listB) : TurnOf n s t :=
  ⟨hd, hs, hf, by rw [hp], fun m _ => by simp only [spindle, hp], fun side e he => by
    cases side
    · exact .inl (by rw [pieceList, ← ha]; exact he)
    · exact .inl (by rw [pieceList, ← hb]; exact he)⟩

end TurnOf

theorem onlyPlanner.turn {n : Nat} {s t : State} (h : onlyPlanner s t) : TurnOf n s t := by
  obtain ⟨_, rfl⟩ := h; exact .of_same rfl rfl rfl rfl rfl rfl

theorem raiseFault_turn (n : Nat) (c : FaultClass) (x : Subject) (d : Detail) (s : State) : TurnOf n s (raiseFault c x d s) := by
  rw [raiseFault_eq]; exact .of_same rfl rfl rfl rfl rfl rfl

theorem raiseNotice_turn (n : Nat) (k : NoticeKind) (l : NoticeLevel) (x : Subject) (d : Detail) (s : State) :
    TurnOf n s (raiseNotice k l x d s) := .of_same rfl rfl rfl rfl rfl rfl

theorem updLock_turn (n : Nat) (z : Nat) (f : Lock → Lock) (s : State) : TurnOf n s (updLock z f s) :=
  .of_same rfl rfl rfl rfl rfl rfl

theorem countIssued_turn (n : Nat) (s : State) : TurnOf n s (countIssued s) := .of_same rfl rfl rfl rfl rfl rfl

theorem updSpindle_turn (n : Nat) (f : Spindle → Spindle) (s : State) : TurnOf n s (updSpindle n f s) :=
  ⟨rfl, rfl, rfl, length_modifyNth _ _ _, fun m hm => spindle_updSpindle_other n m f s hm, fun side e he => by
    cases side <;> exact .inl he⟩

theorem changeState_turn (n : Nat) (st : SpindleState) (s : State) : TurnOf n s (changeState n st s) := by
  obtain ⟨u, hu⟩ := changeState_onlyRecords n st s
  refine ⟨by rw [hu], by rw [hu], by rw [hu], length_changeState n st s, fun m hm => spindle_changeState_other n m st s hm,
    fun side e he => .inl ?_⟩
  rw [hu] at he
  cases side <;> exact he

theorem enterState_turn (n : Nat) (st : SpindleState) (s : State) : TurnOf n s (enterState n st s) :=
  (tellPlanner_onlyPlanner _ _).turn.after (changeState_turn n st s)

theorem setPieceList_turn {n : Nat} {side : Side} {l : List Entry} {s : State}
    (h : ∀ e ∈ l, e ∈ pieceList s side ∨ e.spindle = n) : TurnOf n s (setPieceList side l s) where
  delivery := by cases side <;> rfl
  settings := by cases side <;> rfl
  doff := by cases side <;> rfl
  length := by cases side <;> rfl
  others m _ := by cases side <;> rfl
  lists side' e he := by
    rw [pieceList_setPieceList] at he
    split at he
    · rename_i hs; subst hs; exact h e he
    · exact .inl he

theorem makeEntry_turn (n : Nat) (urgent : Bool) (s : State) : TurnOf n s (makeEntry n urgent s) := by
  unfold makeEntry; split
  · refine (setPieceList_turn fun e he => ?_).after (updSpindle_turn n _ s)
    rcases (mem_insertEntry _ _ _).1 he with rfl | he
    · exact .inr rfl
    · exact .inl he
  · exact .refl n s

theorem dropFromList_turn (n : Nat) (s : State) : TurnOf n s (dropFromList n s) :=
  (setPieceList_turn fun _ he => .inl (List.mem_of_mem_filter he)).after (updSpindle_turn n _ s)

theorem listSpindle_turn (n : Nat) (s : State) : TurnOf n s (listSpindle n s) := by
  unfold listSpindle; dsimp only; split
  · exact makeEntry_turn n false s
  · split
    · exact (raiseFault_turn n _ _ _ _).after (updSpindle_turn n _ s)
    · exact updSpindle_turn n _ s

theorem enlist_turn (n : Nat) (check : LockCheck) (s : State) : TurnOf n s (enlist n check s) := by
  unfold enlist; split
  · exact (tellPlanner_onlyPlanner _ _).turn.after
      ((raiseNotice_turn n _ _ _ _ _).after (changeState_turn n _ s))
  · exact (tellPlanner_onlyPlanner _ _).turn.after (listSpindle_turn n s)

theorem countBreak_turn (n : Nat) (c : BreakCause) (s : State) : TurnOf n s (countBreak n c s) := by
  have h : TurnOf n s { s with shift := { s.shift with breaks := s.shift.breaks.bump c } } := .of_same rfl rfl rfl rfl rfl rfl
  unfold countBreak; dsimp only; split
  · exact (updSpindle_turn n _ _).after h
  · exact h

theorem breakSpindle_turn (n : Nat) (c : BreakCause) (s : State) : TurnOf n s (breakSpindle n c s) := by
  unfold breakSpindle; split
  · exact (expedite_onlyPlanner _ _).turn.after ((countBreak_turn _ _ _).after (enterState_turn n _ s))
  · exact (enlist_turn _ _ _).after ((countBreak_turn _ _ _).after (changeState_turn n _ s))

theorem leaveBroken_turn (n : Nat) (st : SpindleState) (s : State) : TurnOf n s (leaveBroken n st s) :=
  (enterState_turn n st _).after (dropFromList_turn n s)

theorem countHandPieced_turn (n : Nat) (s : State) : TurnOf n s (countHandPieced s) := .of_same rfl rfl rfl rfl rfl rfl

theorem actOnStreak_turn (n : Nat) (s : State) : TurnOf n s (actOnStreak n s) := by
  unfold actOnStreak; dsimp only; split
  · split
    · exact enterState_turn n _ s
    · exact .refl n s
  · split
    · exact breakSpindle_turn n _ s
    · exact .refl n s
  · split
    · exact (leaveBroken_turn n _ _).after (countHandPieced_turn n s)
    · exact .refl n s
  · split
    · exact (enterState_turn n _ _).after (countHandPieced_turn n s)
    · exact .refl n s
  · exact .refl n s

theorem reportSpindle_turn (n : Nat) (present : Bool) (s : State) : TurnOf n s (reportSpindle n present s) := by
  unfold reportSpindle; split
  · exact .refl n s
  · split
    · exact (actOnStreak_turn n _).after (updSpindle_turn n _ s)
    · exact updSpindle_turn n _ s

/-! ## A spindle apart from a side's piecing list -/

/-- R49, R52: the spindle has no entry in a side's piecing list and is not left unlisted. -/
structure Apart (side : Side) (n : Nat) (s : State) : Prop where
  unlisted : (spindle s n).unlisted = false
  entries : ∀ e ∈ pieceList s side, e.spindle ≠ n

/-- Work on another spindle leaves it so, and its record. -/
theorem TurnOf.apart {side : Side} {m n : Nat} {s t : State} (h : TurnOf m s t) (hm : n ≠ m) (ha : Apart side n s) :
    Apart side n t ∧ spindle t n = spindle s n :=
  ⟨⟨by rw [h.others n hm]; exact ha.unlisted, fun e he => (h.lists side e he).elim (ha.entries e) fun h => h ▸ hm.symm⟩, h.others n hm⟩

theorem oldestUnlisted_unlisted {s : State} {side : Side} {n : Nat} (h : oldestUnlisted s side = some n) :
    (spindle s n).unlisted = true := by
  have hm := pick_mem h
  exact (List.mem_filter.1 hm).2

/-- R55: a refill makes entries of unlisted spindles. -/
theorem refillUpTo_apart {side : Side} {n : Nat} : ∀ (fuel : Nat) (side' : Side) (s : State), Apart side n s →
    Apart side n (refillUpTo fuel side' s) ∧ spindle (refillUpTo fuel side' s) n = spindle s n
  | 0, _, _, h => ⟨h, rfl⟩
  | k + 1, side', s, h => by
    unfold refillUpTo; split
    · exact ⟨h, rfl⟩
    · rename_i m hm
      split
      · have hne : n ≠ m := by
          rintro rfl
          have := oldestUnlisted_unlisted hm
          rw [h.unlisted] at this; cases this
        obtain ⟨h1, e1⟩ := (makeEntry_turn m false s).apart hne h
        obtain ⟨h2, e2⟩ := refillUpTo_apart k side' _ h1
        exact ⟨h2, e2.trans e1⟩
      · exact ⟨h, rfl⟩

theorem refill_apart {side : Side} {n : Nat} (side' : Side) {s : State} (h : Apart side n s) :
    Apart side n (refill side' s) ∧ spindle (refill side' s) n = spindle s n := refillUpTo_apart _ _ _ h

theorem updCarriage_turn (n : Nat) (r : RecordNo) (f : Carriage → Carriage) (s : State) : TurnOf n s (updCarriage r f s) := by
  cases r <;> exact .of_same rfl rfl rfl rfl rfl rfl

/-- R83: an order for another spindle leaves it apart. -/
theorem issueOrder_apart {side : Side} {n : Nat} (r : RecordNo) (e : Entry) (carried : Bool) (s : State) (hne : n ≠ e.spindle)
    (h : Apart side n s) : Apart side n (issueOrder r e carried s) ∧ spindle (issueOrder r e carried s) n = spindle s n := by
  unfold issueOrder; dsimp only
  obtain ⟨h1, e1⟩ := ((dropFromList_turn e.spindle _).after ((emit_onlyPlanner _ _).turn.after
    (updLock_turn e.spindle _ _ s))).apart hne h
  obtain ⟨h2, e2⟩ := refill_apart (sideOf (emit _ (updLock _ _ s)) e.spindle) h1
  have h3 (f : Carriage → Carriage) (st : SpindleState) := ((countIssued_turn e.spindle _).after
    ((updCarriage_turn e.spindle r f _).after (enterState_turn e.spindle st _))).apart hne h2
  exact ⟨(h3 _ _).1, (h3 _ _).2.trans (e2.trans e1)⟩

/-- R81: so does a dispatch for the side. -/
theorem attemptSide_apart {side : Side} {n : Nat} {s : State} (h : Apart side n s) :
    Apart side n (attemptSide side s) ∧ spindle (attemptSide side s) n = spindle s n := by
  unfold attemptSide; split
  · exact ⟨h, rfl⟩
  · rename_i r hr
    unfold dispatch dispatchAmong
    split
    · rename_i st side' pos dir hl
      have hs := side_of_recordOfSide hr
      rw [hl] at hs
      obtain rfl : side' = side := Option.some.inj hs
      split
      · split
        · rename_i e he
          exact issueOrder_apart r e false s (h.entries e (List.mem_of_mem_filter (chooseEntry_mem he))).symm h
        · exact ⟨h, rfl⟩
      · exact ⟨h, rfl⟩
    · exact ⟨h, rfl⟩

end Sys2Proof.Machine

/-! # The turn of a reported spindle (R32, R39, R41 to R43, R63) -/

namespace Sys2Proof.Machine

open Sys2Proof

/-! ## Lists left alone -/

theorem Apart.of_same {side : Side} {n : Nat} {s t : State} (h : Apart side n s) (ha : t.listA = s.listA) (hb : t.listB = s.listB)
    (hu : (spindle t n).unlisted = (spindle s n).unlisted) : Apart side n t :=
  ⟨hu.trans h.unlisted, fun e he => h.entries e (by cases side <;> simpa [pieceList, ha, hb] using he)⟩

theorem onlyPlanner.apart {side : Side} {n : Nat} {s t : State} (k : onlyPlanner s t) (h : Apart side n s) : Apart side n t := by
  obtain ⟨_, rfl⟩ := k; exact h.of_same rfl rfl rfl

theorem changed_unlisted (sp : Spindle) (driving : Bool) (now phi : Nat) (st : SpindleState) :
    (sp.changed driving now phi st).unlisted = sp.unlisted := by
  cases st <;> rfl

theorem changeState_apart {side : Side} {n : Nat} {s : State} (st : SpindleState) (h : Apart side n s) :
    Apart side n (changeState n st s) := by
  have hu : (spindle (changeState n st s) n).unlisted = (spindle s n).unlisted := by
    rw [spindle_changeState]; split
    · exact changed_unlisted _ _ _ _ _
    · rfl
  obtain ⟨u, he⟩ := changeState_onlyRecords n st s
  refine h.of_same ?_ ?_ hu
  · rw [he]
  · rw [he]

theorem enterState_apart {side : Side} {n : Nat} {s : State} (st : SpindleState) (h : Apart side n s) :
    Apart side n (enterState n st s) := (tellPlanner_onlyPlanner _ _).apart (changeState_apart st h)

/-- A change of a record that keeps the unlisted flag keeps the spindle apart. -/
theorem updSpindle_apart {side : Side} {n : Nat} {s : State} (f : Spindle → Spindle) (hf : ∀ sp, (f sp).unlisted = sp.unlisted)
    (h : Apart side n s) : Apart side n (updSpindle n f s) := by
  refine h.of_same rfl rfl ?_
  rw [spindle_updSpindle]; split
  · exact hf _
  · rfl

theorem countBreak_apart {side : Side} {n : Nat} {s : State} (c : BreakCause) (h : Apart side n s) :
    Apart side n (countBreak n c s) := by
  have h1 : Apart side n { s with shift := { s.shift with breaks := s.shift.breaks.bump c } } := h.of_same rfl rfl rfl
  unfold countBreak; dsimp only; split
  · exact updSpindle_apart _ (fun _ => rfl) h1
  · exact h1

theorem spindle_dropFromList {n : Nat} {s : State} (hn : hasSpindle s n = true) :
    spindle (dropFromList n s) n = { spindle s n with unlisted := false } := by
  rw [← (spindle_updSpindle n n (fun x => { x with unlisted := false }) s).trans (if_pos ⟨rfl, hn⟩)]
  unfold dropFromList; cases sideOf s n <;> rfl

/-- R54: a spindle that leaves its list stands apart from it. -/
theorem dropFromList_apart {n : Nat} {s : State} (hn : hasSpindle s n = true) : Apart (sideOf s n) n (dropFromList n s) where
  unlisted := by rw [spindle_dropFromList hn]
  entries e he := by
    rw [dropFromList, pieceList_setPieceList, if_pos rfl] at he
    simpa using (List.mem_filter.1 he).2

theorem Apart.listed {n : Nat} {s : State} (h : Apart (sideOf s n) n s) : listed s n = false := by
  simpa [Machine.listed] using h.entries

/-! ## A streak counted -/

/-- R32: one more report counted in a spindle's streak. -/
def counted (n : Nat) (s : State) : State := updSpindle n (fun sp => { sp with streak := satAdd Config.topStreak sp.streak 1 }) s

theorem spindle_counted {n : Nat} {s : State} (hn : hasSpindle s n = true) :
    spindle (counted n s) n = { spindle s n with streak := min 16 ((spindle s n).streak + 1) } :=
  (spindle_updSpindle n n _ s).trans (if_pos ⟨rfl, hn⟩)

theorem spindle_unstreaked {n : Nat} {s : State} (hn : hasSpindle s n = true) :
    spindle (updSpindle n (fun sp => { sp with streak := 0 }) s) n = { spindle s n with streak := 0 } :=
  (spindle_updSpindle n n _ s).trans (if_pos ⟨rfl, hn⟩)

theorem counted_apart {side : Side} {n : Nat} {s : State} (h : Apart side n s) : Apart side n (counted n s) :=
  updSpindle_apart _ (fun _ => rfl) h

theorem hasSpindle_counted (n m : Nat) (s : State) : hasSpindle (counted n s) m = hasSpindle s m := (updSpindle_turn n _ s).has m

/-- R36: a change of state starts the streak again, whatever it was. -/
theorem changed_streaked (sp : Spindle) (k : Nat) (driving : Bool) (now phi : Nat) (st : SpindleState) :
    ({ sp with streak := k } : Spindle).changed driving now phi st = sp.changed driving now phi st := by
  cases st <;> rfl

theorem spindle_changeState_counted {n : Nat} {s : State} (hn : hasSpindle s n = true) (st : SpindleState) :
    spindle (changeState n st (counted n s)) n = (spindle s n).changed s.delivery.driving s.delivery.now s.delivery.phi st := by
  rw [spindle_changeState, if_pos ⟨rfl, by rw [hasSpindle_counted]; exact hn⟩, spindle_counted hn, changed_streaked]; rfl

theorem spindle_enterState_counted {n : Nat} {s : State} (hn : hasSpindle s n = true) (st : SpindleState) :
    spindle (enterState n st (counted n s)) n = (spindle s n).changed s.delivery.driving s.delivery.now s.delivery.phi st := by
  rw [spindle_enterState, spindle_changeState_counted hn]

/-! ## The cases of a turn -/

theorem reportSpindle_unawaited {n : Nat} {present : Bool} {s : State} (h : (spindle s n).state.awaits = none) :
    reportSpindle n present s = s := by
  simp only [reportSpindle, h]

theorem reportSpindle_against {n : Nat} {kind present : Bool} {s : State} (h : (spindle s n).state.awaits = some kind)
    (hp : present ≠ kind) : reportSpindle n present s = updSpindle n (fun sp => { sp with streak := 0 }) s := by
  simp only [reportSpindle, h, if_neg hp]

theorem reportSpindle_awaited {n : Nat} {present : Bool} {s : State} (h : (spindle s n).state.awaits = some present) :
    reportSpindle n present s = actOnStreak n (counted n s) := by
  simp only [reportSpindle, h, if_true]; rfl

/-- R39 to R43: the streak at which a report acts on a spindle in this state. -/
def countDue (w : Working) (st : SpindleState) : Nat := if st.isRunning then w.breakConfirm else w.settleCount

theorem actOnStreak_early {n : Nat} {s : State} (h : (spindle s n).streak < countDue s.settings.working (spindle s n).state) :
    actOnStreak n s = s := by
  unfold actOnStreak; dsimp only
  cases hs : (spindle s n).state <;> rw [hs] at h
  case settling => exact if_neg (Nat.not_le.2 h)
  case running => exact if_neg (Nat.not_le.2 h)
  case broken => exact if_neg (Nat.not_le.2 h)
  case waitRoving => exact if_neg (Nat.not_le.2 h)

theorem actOnStreak_settling {n : Nat} {s : State} {o : SettleOrigin} {x : Nat} (hs : (spindle s n).state = .settling o x)
    (h : s.settings.working.settleCount ≤ (spindle s n).streak) : actOnStreak n s = enterState n .running s := by
  simp only [actOnStreak, hs, if_pos h]

theorem actOnStreak_running {n : Nat} {s : State} (hs : (spindle s n).state = .running)
    (h : s.settings.working.breakConfirm ≤ (spindle s n).streak) : actOnStreak n s = breakSpindle n (breakCauseOf s n) s := by
  simp only [actOnStreak, hs, if_pos h]

theorem actOnStreak_broken {n : Nat} {s : State} {c : BreakCause} {x : Nat} (hs : (spindle s n).state = .broken c x)
    (h : s.settings.working.settleCount ≤ (spindle s n).streak) :
    actOnStreak n s = leaveBroken n (settlingOrIdle s .hand) (countHandPieced s) := by
  simp only [actOnStreak, hs, if_pos h]

theorem actOnStreak_waitRoving {n : Nat} {s : State} {x : Nat} (hs : (spindle s n).state = .waitRoving x)
    (h : s.settings.working.settleCount ≤ (spindle s n).streak) :
    actOnStreak n s = enterState n (settlingOrIdle s .hand) (countHandPieced s) := by
  simp only [actOnStreak, hs, if_pos h]

end Sys2Proof.Machine

/-! # A break confirmed at a RUNNING spindle (R33, R41, R42, R52, R63) -/

namespace Sys2Proof.Machine

open Sys2Proof

/-- R41: the spindle's roving, read as it stands, is out, whatever its streak. -/
theorem rovingOut_of_same {n : Nat} {s t : State} (hd : t.delivery = s.delivery) (hs : t.settings = s.settings) (hf : t.doff = s.doff)
    {k : Nat} (hn : spindle t n = { spindle s n with streak := k }) : rovingOut t n = rovingOut s n := by
  simp only [rovingOut, hn, remaining, figC, figCo, usedRead, owedPulses, hd, hs, hf]
  rfl

theorem rovingOut_counted {n : Nat} {s : State} (hn : hasSpindle s n = true) : rovingOut (counted n s) n = rovingOut s n :=
  rovingOut_of_same rfl rfl rfl (spindle_counted hn)

theorem breakCauseOf_eq (s : State) (n : Nat) :
    breakCauseOf s n = if rovingOut s n = true then .rovingOut else if s.doff.phase = .restarting then .start else .yarn := by
  unfold breakCauseOf
  split
  · rfl
  · cases s.doff.phase <;> rfl

/-! ## The record of a spindle whose break is confirmed -/

/-- A state outside RUNNING with the roving stop engaged, other than WITHHELD. -/
def SpindleState.halted (st : SpindleState) : Prop := st.isRunning = false ∧ engagedOnEntry st = true ∧ st ≠ .withheld

theorem halted_toPiecing {st : SpindleState} (h : st.halted) : st.toPiecing.halted := by
  cases st
  case broken => exact ⟨rfl, rfl, fun e => nomatch e⟩
  all_goals exact h

/-- R18, R33, R36: what a confirmed break leaves of a spindle: its pulses booked, its stop engaged, its tries kept. -/
structure Spindle.Halted (phi : Nat) (sp x : Spindle) : Prop where
  state : x.state.halted
  streak : x.streak = 0
  engaged : x.stopEngaged = true
  mark : x.pulseMark = none
  cop : x.copPulses = min 4294967295 (sp.copPulses + owedPulses phi sp)
  roving : x.rovingUsed = min 4294967295 (sp.rovingUsed + owedPulses phi sp)
  shift : x.shiftPulses = min 4294967295 (sp.shiftPulses + owedPulses phi sp)
  attempts : x.attempts = sp.attempts
  failures : x.failures = sp.failures

theorem changed_shiftPulses (sp : Spindle) (driving : Bool) (now phi : Nat) (st : SpindleState) :
    (sp.changed driving now phi st).shiftPulses = satAdd Config.top32 sp.shiftPulses (pulsesOnChange phi sp st) := by
  cases st <;> rfl

theorem changed_shiftEndBreaks (sp : Spindle) (driving : Bool) (now phi : Nat) (st : SpindleState) :
    (sp.changed driving now phi st).shiftEndBreaks = sp.shiftEndBreaks := by
  cases st <;> rfl

theorem changed_tries (sp : Spindle) (driving : Bool) (now phi : Nat) {st : SpindleState} (h : st.halted) :
    (sp.changed driving now phi st).attempts = sp.attempts ∧ (sp.changed driving now phi st).failures = sp.failures ∧
      (sp.changed driving now phi st).breakRing = sp.breakRing := by
  obtain ⟨hr, _, hw⟩ := h
  cases st
  case running => cases hr
  case withheld => exact absurd rfl hw
  all_goals exact ⟨rfl, rfl, rfl⟩

theorem pulsesOnChange_halted (phi : Nat) (sp : Spindle) {st : SpindleState} (h : st.halted) :
    pulsesOnChange phi sp st = owedPulses phi sp := by rw [pulsesOnChange, h.1]; rfl

theorem markOnChange_halted (phi : Nat) (sp : Spindle) {st : SpindleState} (h : st.halted) : markOnChange phi sp st = none := by
  rw [markOnChange, h.1]; rfl

theorem Spindle.Halted.of_changed (sp : Spindle) (driving : Bool) (now phi : Nat) {st : SpindleState} (h : st.halted) :
    sp.Halted phi (sp.changed driving now phi st) where
  state := by rw [changed_state]; exact h
  streak := changed_streak _ _ _ _ _
  engaged := by rw [changed_stopEngaged, h.2.1]
  mark := by rw [changed_pulseMark, markOnChange_halted phi sp h]
  cop := by rw [changed_copPulses, pulsesOnChange_halted phi sp h]; rfl
  roving := by rw [changed_rovingUsed, pulsesOnChange_halted phi sp h]; rfl
  shift := by rw [changed_shiftPulses, pulsesOnChange_halted phi sp h]; rfl
  attempts := (changed_tries sp driving now phi h).1
  failures := (changed_tries sp driving now phi h).2.1

/-- A further change of state between such states books no more. -/
theorem Spindle.Halted.changed {phi : Nat} {sp x : Spindle} (k : sp.Halted phi x) (driving : Bool) (now : Nat) {st : SpindleState}
    (h : st.halted) : sp.Halted phi (x.changed driving now phi st) := by
  have c := Spindle.Halted.of_changed x driving now phi h
  have h0 : owedPulses phi x = 0 := by rw [owedPulses, k.state.1]; rfl
  refine ⟨c.state, c.streak, c.engaged, c.mark, c.cop.trans ?_, c.roving.trans ?_, c.shift.trans ?_, c.attempts.trans k.attempts,
    c.failures.trans k.failures⟩
  · rw [h0, k.cop]; omega
  · rw [h0, k.roving]; omega
  · rw [h0, k.shift]; omega

/-- R83: an order issued for a spindle just broken leaves what the break left, and its end breaks. -/
theorem Spindle.Passes.halted {dl : Delivery} {sp x y : Spindle} (h : x.Passes dl y) (k : sp.Halted dl.phi x) :
    sp.Halted dl.phi y ∧ y.breakRing = x.breakRing ∧ y.shiftEndBreaks = x.shiftEndBreaks := by
  induction h with
  | refl => exact ⟨k, rfl, rfl⟩
  | unmark _ ih => exact ⟨{ ih.1 with }, ih.2⟩
  | ordered _ ih =>
    obtain ⟨i, hr, he⟩ := ih
    exact ⟨i.changed _ _ (halted_toPiecing i.state), (changed_tries _ _ _ _ (halted_toPiecing i.state)).2.2.trans hr,
      (changed_shiftEndBreaks _ _ _ _ _).trans he⟩

/-! ## The break counted and the spindle enlisted -/

theorem spindle_countBreak {n : Nat} {s : State} (c : BreakCause) (hn : hasSpindle s n = true) :
    spindle (countBreak n c s) n =
      if c.isEndBreak = true then
        { spindle s n with
          shiftEndBreaks := satAdd Config.top32 (spindle s n).shiftEndBreaks 1
          breakRing := stampRing (spindle s n).breakRing s.delivery.now }
      else spindle s n := by
  unfold countBreak; dsimp only; split
  · exact (spindle_updSpindle n n _ _).trans (if_pos ⟨rfl, hn⟩)
  · rfl

/-- R52, R53: listing a spindle moves its unlisted flag alone. -/
theorem spindle_listSpindle (n : Nat) (s : State) : ∃ b, spindle (listSpindle n s) n = { spindle s n with unlisted := b } := by
  have same (b : Bool) : ∃ b', spindle (updSpindle n (fun x => { x with unlisted := b }) s) n = { spindle s n with unlisted := b' } := by
    rw [spindle_updSpindle]; split
    · exact ⟨b, rfl⟩
    · exact ⟨(spindle s n).unlisted, rfl⟩
  unfold listSpindle; dsimp only; split
  · unfold makeEntry; split
    · obtain ⟨b, hb⟩ := same false
      refine ⟨b, ?_⟩
      rw [← hb]; cases sideOf s n <;> rfl
    · exact ⟨(spindle s n).unlisted, rfl⟩
  · split
    · obtain ⟨b, hb⟩ := same true
      exact ⟨b, by rw [← hb, spindle_raiseFault]⟩
    · exact same true

/-- R42, R33: a spindle broken now, its break counted. -/
def struck (n : Nat) (c : BreakCause) (s : State) : State := countBreak n c (changeState n (.broken c s.delivery.now) s)

theorem breakSpindle_end {n : Nat} {c : BreakCause} (hc : c.isEndBreak = true) (s : State) :
    breakSpindle n c s = enlist n .rogue (struck n c s) := by
  cases c
  case yarn => rfl
  case start => rfl
  case notHeld => rfl
  all_goals exact nomatch hc

/-- R63: the spindle has as many breaks in the rogue window as lock it. -/
def rogueBreaks (w : Working) (ring : List Nat) (now : Nat) : Prop :=
  w.rogueCount ≠ 0 ∧ w.rogueCount ≤ stampsWithin ring now w.rogueWindow

theorem enlist_locked {n t : Nat} {c : BreakCause} {s : State} (hs : (spindle s n).state = .broken c t)
    (h : rogueBreaks s.settings.working (spindle s n).breakRing t) :
    ∃ count, enlist n .rogue s =
      tellPlanner (groupOf n)
        (raiseNotice .spindleLocked .warning (.spindle n) (.lock .rogue count) (changeState n (.locked .rogue) s)) := by
  have ht : breakTimeOf s n = t := by rw [breakTimeOf, hs]; rfl
  simp only [enlist, ht, lockVerdict, if_neg h.1, if_pos h.2]
  exact ⟨_, rfl⟩

theorem enlist_listed {n t : Nat} {c : BreakCause} {s : State} (hs : (spindle s n).state = .broken c t)
    (h : ¬ rogueBreaks s.settings.working (spindle s n).breakRing t) :
    enlist n .rogue s = tellPlanner (groupOf n) (listSpindle n s) := by
  have ht : breakTimeOf s n = t := by rw [breakTimeOf, hs]; rfl
  have hv : lockVerdict s.settings.working (spindle s n) t .rogue = none := by
    unfold lockVerdict; dsimp only
    split
    · rfl
    · rename_i h0; exact if_neg fun hc => h ⟨h0, hc⟩
  simp only [enlist, ht, hv]

end Sys2Proof.Machine

/-! # An accepted report at one spindle (R32, R41, R43, R55, R63, R81) -/

namespace Sys2Proof.Machine

open Sys2Proof

/-! ## What a confirmed break makes of the spindle -/

/-- R40, R41: a break with the roving out: the spindle waits for roving, and its lists are as they were. -/
theorem breakSpindle_out {side : Side} {n : Nat} {s : State} (hn : hasSpindle s n = true) :
    spindle (breakSpindle n .rovingOut (counted n s)) n =
        (spindle s n).changed s.delivery.driving s.delivery.now s.delivery.phi (.waitRoving s.delivery.now) ∧
      (Apart side n s → Apart side n (breakSpindle n .rovingOut (counted n s))) := by
  have hk : hasSpindle (enterState n (.waitRoving s.delivery.now) (counted n s)) n = true := by
    rw [(enterState_turn n _ _).has, hasSpindle_counted]; exact hn
  have h : onlyPlanner (countBreak n .rovingOut (enterState n (.waitRoving s.delivery.now) (counted n s)))
    (breakSpindle n .rovingOut (counted n s)) := expedite_onlyPlanner _ _
  refine ⟨?_, fun ha => h.apart (countBreak_apart _ (enterState_apart _ (counted_apart ha)))⟩
  rw [h.spindle n, spindle_countBreak _ hk, if_neg (fun e => nomatch e), spindle_enterState_counted hn]

/-- R33, R42, R63: what a confirmed end break makes of a spindle: LOCKED as a rogue, or BROKEN, from which it may be ordered. -/
structure Spindle.Struck (w : Working) (dl : Delivery) (c : BreakCause) (sp x : Spindle) : Prop where
  halted : sp.Halted dl.phi x
  ring : x.breakRing = stampRing sp.breakRing dl.now
  endBreaks : x.shiftEndBreaks = min 4294967295 (sp.shiftEndBreaks + 1)
  locked : rogueBreaks w (stampRing sp.breakRing dl.now) dl.now → x.state = .locked .rogue
  listed : ¬ rogueBreaks w (stampRing sp.breakRing dl.now) dl.now → x.state = .broken c dl.now ∨ x.state = .piecing c dl.now

theorem struck_record {n : Nat} {c : BreakCause} {s : State} (hc : c.isEndBreak = true) (hn : hasSpindle s n = true) :
    (spindle (struck n c (counted n s)) n).state = .broken c s.delivery.now ∧
      (spindle s n).Halted s.delivery.phi (spindle (struck n c (counted n s)) n) ∧
      (spindle (struck n c (counted n s)) n).breakRing = stampRing (spindle s n).breakRing s.delivery.now ∧
      (spindle (struck n c (counted n s)) n).shiftEndBreaks = min 4294967295 ((spindle s n).shiftEndBreaks + 1) := by
  have hb : (SpindleState.broken c s.delivery.now).halted := ⟨rfl, rfl, fun e => nomatch e⟩
  have hk : hasSpindle (changeState n (.broken c s.delivery.now) (counted n s)) n = true := by
    rw [(changeState_turn n _ _).has, hasSpindle_counted]; exact hn
  have hd : (changeState n (.broken c s.delivery.now) (counted n s)).delivery = s.delivery := (changeState_turn n _ _).delivery
  have h := spindle_countBreak c hk
  rw [if_pos hc, spindle_changeState_counted hn, hd] at h
  change spindle (struck n c (counted n s)) n = _ at h
  have k := Spindle.Halted.of_changed (spindle s n) s.delivery.driving s.delivery.now s.delivery.phi hb
  rw [h]
  refine ⟨changed_state _ _ _ _ _, { k with }, ?_, ?_⟩
  · dsimp only; rw [(changed_tries _ _ _ _ hb).2.2]
  · dsimp only; rw [changed_shiftEndBreaks]; rfl

theorem breakSpindle_end_decides {side : Side} {n : Nat} {c : BreakCause} {s t : State} (hc : c.isEndBreak = true)
    (hn : hasSpindle s n = true) (ha : Apart side n s)
    (hp : (spindle (breakSpindle n c (counted n s)) n).Passes s.delivery (spindle t n))
    (hs : Apart side n (breakSpindle n c (counted n s)) → spindle t n = spindle (breakSpindle n c (counted n s)) n) :
    (spindle s n).Struck s.settings.working s.delivery c (spindle t n) := by
  rw [breakSpindle_end hc] at hp hs
  obtain ⟨hb, hh, hr, he⟩ := struck_record hc hn
  have hw : Apart side n (struck n c (counted n s)) := countBreak_apart c (changeState_apart _ (counted_apart ha))
  have ht : TurnOf n s (struck n c (counted n s)) :=
    (countBreak_turn n c _).after ((changeState_turn n _ _).after (updSpindle_turn n _ s))
  have hk : hasSpindle (struck n c (counted n s)) n = true := by rw [ht.has]; exact hn
  generalize hx : struck n c (counted n s) = x at hb hh hr he hw ht hk hp hs
  have hset : x.settings = s.settings := ht.settings
  by_cases hv : rogueBreaks s.settings.working (stampRing (spindle s n).breakRing s.delivery.now) s.delivery.now
  · obtain ⟨count, hl⟩ := enlist_locked hb (by rw [hset, hr]; exact hv)
    have ho : onlyPlanner (raiseNotice .spindleLocked .warning (.spindle n) (.lock .rogue count) (changeState n (.locked .rogue) x))
      (enlist n .rogue x) := by rw [hl]; exact tellPlanner_onlyPlanner _ _
    have hy : spindle (enlist n .rogue x) n =
        (spindle x n).changed x.delivery.driving x.delivery.now x.delivery.phi (.locked .rogue) := by
      rw [ho.spindle n, ← (spindle_changeState n n (.locked .rogue) x).trans (if_pos ⟨rfl, hk⟩)]; rfl
    have hap : Apart side n (enlist n .rogue x) := ho.apart ((changeState_apart _ hw).of_same rfl rfl rfl)
    have hst : (SpindleState.locked .rogue).halted := ⟨rfl, rfl, fun e => nomatch e⟩
    have hf : spindle t n = (spindle x n).changed s.delivery.driving s.delivery.now s.delivery.phi (.locked .rogue) := by
      rw [hs hap, hy, ht.delivery]
    rw [hf]
    exact ⟨hh.changed _ _ hst, (changed_tries _ _ _ _ hst).2.2.trans hr, (changed_shiftEndBreaks _ _ _ _ _).trans he,
      fun _ => changed_state _ _ _ _ _, fun h => absurd hv h⟩
  · have hl := enlist_listed hb (by rw [hset, hr]; exact hv)
    obtain ⟨b, hy⟩ := spindle_listSpindle n x
    have ho : onlyPlanner (listSpindle n x) (enlist n .rogue x) := by rw [hl]; exact tellPlanner_onlyPlanner _ _
    rw [ho.spindle n, hy] at hp
    obtain ⟨hh', hr', he'⟩ := hp.halted { hh with }
    refine ⟨hh', hr'.trans hr, he'.trans he, fun h => absurd h hv, fun _ => ?_⟩
    rcases hp.state with h | ⟨c', t', h, h'⟩
    · exact .inl (h.trans hb)
    · obtain ⟨rfl, rfl⟩ := SpindleState.broken.inj (hb.symm.trans h)
      exact .inr h'

/-! ## Turns of other spindles -/

/-- Spindle `n` and what its turn reads are as they were, and it stands apart from a list as it did. -/
structure Aside (n : Nat) (s t : State) : Prop where
  delivery : t.delivery = s.delivery
  settings : t.settings = s.settings
  doff : t.doff = s.doff
  length : t.spindles.length = s.spindles.length
  same : spindle t n = spindle s n
  apart : ∀ side, Apart side n s → Apart side n t

namespace Aside

variable {n : Nat} {s t u : State}

theorem refl (n : Nat) (s : State) : Aside n s s := ⟨rfl, rfl, rfl, rfl, rfl, fun _ => id⟩

theorem after (k : Aside n t u) (h : Aside n s t) : Aside n s u :=
  ⟨k.delivery.trans h.delivery, k.settings.trans h.settings, k.doff.trans h.doff, k.length.trans h.length, k.same.trans h.same,
    fun side ha => k.apart side (h.apart side ha)⟩

theorem has (h : Aside n s t) (m : Nat) : hasSpindle t m = hasSpindle s m := by simp [hasSpindle, h.length]

theorem sideOf (h : Aside n s t) (m : Nat) : Machine.sideOf t m = Machine.sideOf s m := by
  simp only [Machine.sideOf, sideOfSector, h.delivery]

theorem rovingOut (h : Aside n s t) : Machine.rovingOut t n = Machine.rovingOut s n :=
  rovingOut_of_same h.delivery h.settings h.doff (k := (spindle s n).streak) h.same

end Aside

theorem TurnOf.aside {m n : Nat} {s t : State} (h : TurnOf m s t) (hm : n ≠ m) : Aside n s t :=
  ⟨h.delivery, h.settings, h.doff, h.length, h.others n hm, fun _ ha => (h.apart hm ha).1⟩

theorem foldl_aside {n : Nat} (f : Nat → State → State) (hf : ∀ m s, TurnOf m s (f m s)) : ∀ (ns : List Nat) (s : State), n ∉ ns →
    Aside n s (ns.foldl (fun acc m => f m acc) s)
  | [], s, _ => .refl n s
  | m :: ns, s, h =>
    (foldl_aside f hf ns (f m s) fun hm => h (List.mem_cons_of_mem m hm)).after
      ((hf m s).aside fun hm => h (hm ▸ List.mem_cons_self))

/-- Of a round of turns, a spindle's own turn finds it as it stood, and the later ones leave it as that turn made it. -/
theorem foldl_turn {n : Nat} (f : Nat → State → State) (hf : ∀ m s, TurnOf m s (f m s)) {ns : List Nat} (hd : ns.Nodup) (hn : n ∈ ns)
    (s : State) : ∃ u, Aside n s u ∧ Aside n (f n u) (ns.foldl (fun acc m => f m acc) s) := by
  obtain ⟨xs, ys, rfl⟩ := List.append_of_mem hn
  have hx : n ∉ xs := fun h => List.disjoint_of_nodup_append hd h List.mem_cons_self
  have hy : n ∉ ys := (List.nodup_cons.1 (List.nodup_append.1 hd).2.1).1
  refine ⟨xs.foldl (fun acc m => f m acc) s, foldl_aside f hf xs s hx, ?_⟩
  rw [List.foldl_append]
  exact foldl_aside f hf ys _ hy

/-! ## The refill and the dispatch that follow -/

/-- A report of `present` at spindle `n` has led from `s` to `t`: its turn, found as `s` has it, then the dispatcher's work, which leaves
a spindle apart from its side's list as it is. -/
structure ReportedAt (n : Nat) (present : Bool) (s u t : State) : Prop where
  before : Aside n s u
  passes : (spindle (reportSpindle n present u) n).Passes s.delivery (spindle t n)
  apart : Apart (sideOf s n) n (reportSpindle n present u) →
    spindle t n = spindle (reportSpindle n present u) n ∧ Apart (sideOf s n) n t
  delivery : t.delivery = s.delivery

theorem mem_spindlesOfSector {k n : Nat} : n ∈ spindlesOfSector k ↔ 24 * (k - 1) + 1 ≤ n ∧ n < 24 * (k - 1) + 1 + 24 := by
  simp [spindlesOfSector, List.mem_range'_1, Config.sectorSpindles]

theorem sectorOf_of_mem {k n : Nat} (hk : 1 ≤ k) (hn : n ∈ spindlesOfSector k) : sectorOf n = k := by
  have h := mem_spindlesOfSector.1 hn
  simp only [sectorOf, Config.sectorSpindles]
  omega

theorem acceptReport_dispatches (k : Nat) (present : PresenceFlags) (s : State) :
    DispatchesAny (reportEach k present s) (acceptReport k present s) := by
  unfold acceptReport; dsimp only; split
  · exact (attemptSide_any _ _).after (refill_dispatches _ _)
  · exact refill_dispatches _ _

theorem acceptReport_apart {n k : Nat} {present : PresenceFlags} {s : State}
    (h : Apart (sideOfSector s k) n (reportEach k present s)) :
    Apart (sideOfSector s k) n (acceptReport k present s) ∧ spindle (acceptReport k present s) n = spindle (reportEach k present s) n := by
  obtain ⟨h1, e1⟩ := refill_apart (sideOfSector s k) h
  unfold acceptReport; dsimp only; split
  · obtain ⟨h2, e2⟩ := attemptSide_apart h1
    exact ⟨h2, e2.trans e1⟩
  · exact ⟨h1, e1⟩

/-- R23, R55, R81: an accepted report, as one spindle of its sector sees it. -/
theorem acceptReport_at {n k : Nat} (present : PresenceFlags) (s : State) (hk : 1 ≤ k) (hn : n ∈ spindlesOfSector k) :
    ∃ u, ReportedAt n (present.getLsbD (positionOf n - 1)) s u (acceptReport k present s) := by
  have hside : sideOf s n = sideOfSector s k := by rw [sideOf, sectorOf_of_mem hk hn]
  obtain ⟨u, hu, ha⟩ := foldl_turn (fun n acc => reportSpindle n (present.getLsbD (positionOf n - 1)) acc)
    (fun m s => reportSpindle_turn m _ s) List.nodup_range' hn s
  have ha : Aside n (reportSpindle n (present.getLsbD (positionOf n - 1)) u) (reportEach k present s) := ha
  have hd : (reportEach k present s).delivery = s.delivery :=
    ha.delivery.trans ((reportSpindle_turn n _ u).delivery.trans hu.delivery)
  have hw := acceptReport_dispatches k present s
  refine ⟨u, hu, ?_, fun h => ?_, hw.delivery.trans hd⟩
  · rw [← ha.same, ← hd]; exact hw.passes n
  · rw [hside] at h ⊢
    obtain ⟨hb, he⟩ := acceptReport_apart (ha.apart _ h)
    exact ⟨he.trans ha.same, hb⟩

end Sys2Proof.Machine

/-! # The outcome of an accepted report (R39, R41, R43) -/

namespace Sys2Proof.Machine

open Sys2Proof

namespace ReportedAt

variable {n : Nat} {b kind : Bool} {s u t : State} {side : Side}

theorem unawaited (R : ReportedAt n b s u t) (ha : Apart (sideOf s n) n s) (h : (spindle s n).state.awaits = none) :
    spindle t n = spindle s n := by
  have hv : reportSpindle n b u = u := reportSpindle_unawaited (by rw [R.before.same]; exact h)
  have := R.apart (by rw [hv]; exact R.before.apart _ ha)
  rw [this.1, hv, R.before.same]

/-- R32: a report that does not act leaves the spindle its streak: counted, or started again. -/
theorem turn_streak (R : ReportedAt n b s u t) (hn : hasSpindle s n = true) (h : (spindle s n).state.awaits = some kind)
    (hd : b = kind → min 16 ((spindle s n).streak + 1) < countDue s.settings.working (spindle s n).state) :
    spindle (reportSpindle n b u) n =
        { spindle s n with streak := if b = kind then min 16 ((spindle s n).streak + 1) else 0 } ∧
      (Apart side n s → Apart side n (reportSpindle n b u)) := by
  have hu : hasSpindle u n = true := by rw [R.before.has]; exact hn
  rw [← R.before.same] at h hd ⊢
  by_cases hb : b = kind
  · subst hb
    have hc : spindle (counted n u) n = { spindle u n with streak := min 16 ((spindle u n).streak + 1) } := spindle_counted hu
    have hv : reportSpindle n b u = counted n u := by
      rw [reportSpindle_awaited h]
      refine actOnStreak_early ?_
      rw [hc]
      have hset : (counted n u).settings = s.settings := R.before.settings
      rw [hset]; exact hd rfl
    rw [hv, if_pos rfl]
    exact ⟨hc, fun ha => counted_apart (R.before.apart _ ha)⟩
  · rw [reportSpindle_against h hb, if_neg hb]
    exact ⟨spindle_unstreaked hu, fun ha => updSpindle_apart _ (fun _ => rfl) (R.before.apart _ ha)⟩

theorem streak (R : ReportedAt n b s u t) (hn : hasSpindle s n = true) (ha : Apart (sideOf s n) n s)
    (h : (spindle s n).state.awaits = some kind)
    (hd : b = kind → min 16 ((spindle s n).streak + 1) < countDue s.settings.working (spindle s n).state) :
    spindle t n = { spindle s n with streak := if b = kind then min 16 ((spindle s n).streak + 1) else 0 } := by
  obtain ⟨hv, hk⟩ := R.turn_streak hn h hd (side := sideOf s n)
  rw [(R.apart (hk ha)).1, hv]

/-- R44, R83: so with a BROKEN spindle, unless an order is then issued for it. -/
theorem streak_broken (R : ReportedAt n b s u t) (hn : hasSpindle s n = true) {c : BreakCause} {x : Nat}
    (hs : (spindle s n).state = .broken c x) (hd : b = true → min 16 ((spindle s n).streak + 1) < s.settings.working.settleCount) :
    (spindle t n).state = .broken c x ∧ (spindle t n).streak = (if b = true then min 16 ((spindle s n).streak + 1) else 0) ∨
      (spindle t n).state = .piecing c x := by
  have hw : (spindle s n).state.awaits = some true := by rw [hs]; rfl
  obtain ⟨hv, -⟩ := R.turn_streak hn hw (by rw [hs]; exact hd) (side := .a)
  have hp := R.passes
  rw [hv] at hp
  rcases hp.state with h | ⟨c', x', h, h'⟩
  · have hb : (spindle t n).state = .broken c x := h.trans hs
    refine .inl ⟨hb, ?_⟩
    rcases hp.eq_of_broken (by rw [hb]; rfl) with e | e <;> rw [e]
  · obtain ⟨rfl, rfl⟩ := SpindleState.broken.inj (hs.symm.trans h)
    exact .inr h'

/-- R39: the settle count reached. -/
theorem settled (R : ReportedAt n true s u t) (hn : hasSpindle s n = true) (ha : Apart (sideOf s n) n s) {o : SettleOrigin} {x : Nat}
    (hs : (spindle s n).state = .settling o x) (hd : s.settings.working.settleCount ≤ min 16 ((spindle s n).streak + 1)) :
    spindle t n = (spindle s n).changed s.delivery.driving s.delivery.now s.delivery.phi .running := by
  have hu : hasSpindle u n = true := by rw [R.before.has]; exact hn
  have hsu : (spindle u n).state = .settling o x := by rw [R.before.same]; exact hs
  have hc : spindle (counted n u) n = _ := spindle_counted hu
  have hv : reportSpindle n true u = enterState n .running (counted n u) := by
    rw [reportSpindle_awaited (by rw [hsu]; rfl)]
    refine actOnStreak_settling (by rw [hc]; exact hsu) ?_
    have hset : (counted n u).settings = s.settings := R.before.settings
    rw [hc, hset, R.before.same]; exact hd
  have he := R.apart (by rw [hv]; exact enterState_apart _ (counted_apart (R.before.apart _ ha)))
  rw [he.1, hv, spindle_enterState_counted hu, R.before.same, R.before.delivery]

/-- R41: the break confirm count reached. -/
theorem turn_break (R : ReportedAt n false s u t) (hn : hasSpindle s n = true) (hs : (spindle s n).state = .running)
    (hd : s.settings.working.breakConfirm ≤ min 16 ((spindle s n).streak + 1)) :
    reportSpindle n false u =
      breakSpindle n (if rovingOut s n = true then .rovingOut else if s.doff.phase = .restarting then .start else .yarn)
        (counted n u) := by
  have hu : hasSpindle u n = true := by rw [R.before.has]; exact hn
  have hsu : (spindle u n).state = .running := by rw [R.before.same]; exact hs
  have hc : spindle (counted n u) n = _ := spindle_counted hu
  have hdoff : (counted n u).doff = s.doff := R.before.doff
  rw [reportSpindle_awaited (by rw [hsu]; rfl), actOnStreak_running (by rw [hc]; exact hsu) ?_, breakCauseOf_eq, rovingOut_counted hu,
    R.before.rovingOut, hdoff]
  have hset : (counted n u).settings = s.settings := R.before.settings
  rw [hc, hset, R.before.same]; exact hd

theorem broken_out (R : ReportedAt n false s u t) (hn : hasSpindle s n = true) (ha : Apart (sideOf s n) n s)
    (hs : (spindle s n).state = .running) (hd : s.settings.working.breakConfirm ≤ min 16 ((spindle s n).streak + 1))
    (ho : rovingOut s n = true) :
    spindle t n = (spindle s n).changed s.delivery.driving s.delivery.now s.delivery.phi (.waitRoving s.delivery.now) := by
  have hu : hasSpindle u n = true := by rw [R.before.has]; exact hn
  have hv := R.turn_break hn hs hd
  rw [if_pos ho] at hv
  obtain ⟨hr, hk⟩ := breakSpindle_out hu (side := sideOf s n)
  have he := R.apart (by rw [hv]; exact hk (R.before.apart _ ha))
  rw [he.1, hv, hr, R.before.same, R.before.delivery]

theorem broken_end (R : ReportedAt n false s u t) (hn : hasSpindle s n = true) (ha : Apart (sideOf s n) n s)
    (hs : (spindle s n).state = .running) (hd : s.settings.working.breakConfirm ≤ min 16 ((spindle s n).streak + 1))
    (ho : ¬ rovingOut s n = true) :
    (spindle s n).Struck s.settings.working s.delivery (if s.doff.phase = .restarting then .start else .yarn) (spindle t n) := by
  have hu : hasSpindle u n = true := by rw [R.before.has]; exact hn
  have hv := R.turn_break hn hs hd
  rw [if_neg ho] at hv
  have hc : (if s.doff.phase = .restarting then BreakCause.start else .yarn).isEndBreak = true := by split <;> rfl
  have hp := R.passes
  have hk := R.apart
  rw [hv] at hp hk
  rw [← R.before.delivery] at hp
  have h := breakSpindle_end_decides hc hu (R.before.apart _ ha) hp fun h => (hk h).1
  rwa [R.before.same, R.before.delivery, R.before.settings] at h

end ReportedAt

/-! ## Yarn pieced by hand -/

/-- R43: what a piecing by hand makes of a spindle that is in no piecing list then. -/
structure PiecedByHand (n : Nat) (s t : State) : Prop where
  state : (spindle t n).state = if s.delivery.driving then .settling .hand s.delivery.now else .idle
  streak : (spindle t n).streak = 0
  engaged : (spindle t n).stopEngaged = false
  unlisted : (spindle t n).unlisted = false
  listed : listed t n = false
  attempts : (spindle t n).attempts = (spindle s n).attempts
  failures : (spindle t n).failures = (spindle s n).failures
  cop : copRead t (spindle t n) = copRead s (spindle s n)

theorem piecedByHand_of {n : Nat} {s t : State} {flag : Bool}
    (h : spindle t n = ({ spindle s n with unlisted := flag } : Spindle).changed s.delivery.driving s.delivery.now s.delivery.phi
      (settlingOrIdle s .hand))
    (ha : Apart (sideOf t n) n t) (hd : t.delivery = s.delivery) : PiecedByHand n s t where
  state := by rw [h, changed_state]; rfl
  streak := by rw [h, changed_streak]
  engaged := by rw [h, changed_stopEngaged, settlingOrIdle]; split <;> rfl
  unlisted := ha.unlisted
  listed := ha.listed
  attempts := by rw [h, settlingOrIdle]; split <;> rfl
  failures := by rw [h, settlingOrIdle]; split <;> rfl
  cop := by rw [copRead_eq, copRead_eq, hd, h, copAt_changed]; rfl

namespace ReportedAt

variable {n : Nat} {s u t : State}

theorem sideOf_after {b : Bool} (R : ReportedAt n b s u t) : sideOf t n = sideOf s n := by
  simp only [sideOf, sideOfSector, R.delivery]

theorem by_hand_waiting (R : ReportedAt n true s u t) (hn : hasSpindle s n = true) (ha : Apart (sideOf s n) n s) {x : Nat}
    (hs : (spindle s n).state = .waitRoving x) (hd : s.settings.working.settleCount ≤ min 16 ((spindle s n).streak + 1)) :
    PiecedByHand n s t := by
  have hu : hasSpindle u n = true := by rw [R.before.has]; exact hn
  have hsu : (spindle u n).state = .waitRoving x := by rw [R.before.same]; exact hs
  have hc : spindle (counted n u) n = _ := spindle_counted hu
  have hv : reportSpindle n true u = enterState n (settlingOrIdle u .hand) (countHandPieced (counted n u)) := by
    rw [reportSpindle_awaited (by rw [hsu]; rfl)]
    refine actOnStreak_waitRoving (by rw [hc]; exact hsu) ?_
    have hset : (counted n u).settings = s.settings := R.before.settings
    rw [hc, hset, R.before.same]; exact hd
  have hk : Apart (sideOf s n) n (countHandPieced (counted n u)) := (counted_apart (R.before.apart _ ha)).of_same rfl rfl rfl
  obtain ⟨he, hap⟩ := R.apart (by rw [hv]; exact enterState_apart _ hk)
  refine piecedByHand_of (flag := (spindle s n).unlisted) ?_ (by rw [R.sideOf_after]; exact hap) R.delivery
  have hst : settlingOrIdle u .hand = settlingOrIdle s .hand := by simp only [settlingOrIdle, R.before.delivery]
  have hm : hasSpindle (countHandPieced (counted n u)) n = true := (hasSpindle_counted n n u).trans hu
  have hdel : (countHandPieced (counted n u)).delivery = s.delivery := R.before.delivery
  have hsame : spindle (countHandPieced (counted n u)) n =
      { spindle s n with streak := min 16 ((spindle s n).streak + 1) } := by rw [← R.before.same]; exact hc
  rw [he, hv, hst, spindle_enterState, spindle_changeState, if_pos ⟨rfl, hm⟩, hdel, hsame]
  exact changed_streaked (spindle s n) _ _ _ _ _

theorem by_hand_broken (R : ReportedAt n true s u t) (hn : hasSpindle s n = true) {c : BreakCause} {x : Nat}
    (hs : (spindle s n).state = .broken c x) (hd : s.settings.working.settleCount ≤ min 16 ((spindle s n).streak + 1)) :
    PiecedByHand n s t := by
  have hu : hasSpindle u n = true := by rw [R.before.has]; exact hn
  have hsu : (spindle u n).state = .broken c x := by rw [R.before.same]; exact hs
  have hc : spindle (counted n u) n = _ := spindle_counted hu
  have hv : reportSpindle n true u = leaveBroken n (settlingOrIdle u .hand) (countHandPieced (counted n u)) := by
    rw [reportSpindle_awaited (by rw [hsu]; rfl)]
    refine actOnStreak_broken (by rw [hc]; exact hsu) ?_
    have hset : (counted n u).settings = s.settings := R.before.settings
    rw [hc, hset, R.before.same]; exact hd
  have hm : hasSpindle (countHandPieced (counted n u)) n = true := (hasSpindle_counted n n u).trans hu
  have hside : sideOf (countHandPieced (counted n u)) n = sideOf s n := R.before.sideOf n
  have hk := dropFromList_apart hm
  rw [hside] at hk
  obtain ⟨he, hap⟩ := R.apart (by rw [hv]; exact enterState_apart _ hk)
  refine piecedByHand_of (flag := false) ?_ (by rw [R.sideOf_after]; exact hap) R.delivery
  have hst : settlingOrIdle u .hand = settlingOrIdle s .hand := by simp only [settlingOrIdle, R.before.delivery]
  have hdrop : (dropFromList n (countHandPieced (counted n u))).delivery = s.delivery :=
    (dropFromList_turn n _).delivery.trans R.before.delivery
  rw [he, hv, hst, leaveBroken, spindle_enterState, spindle_changeState,
    if_pos ⟨rfl, by rw [(dropFromList_turn n _).has]; exact hm⟩, hdrop, spindle_dropFromList hm]
  have hsame : spindle (countHandPieced (counted n u)) n =
      { spindle s n with streak := min 16 ((spindle s n).streak + 1) } := by rw [← R.before.same]; exact hc
  rw [hsame]
  exact changed_streaked { spindle s n with unlisted := false } _ _ _ _ _

end ReportedAt

end Sys2Proof.Machine

/-! # The hand piecings of an accepted report, and the report as a whole (R23, R43) -/

namespace Sys2Proof.Machine

open Sys2Proof

/-! ## Hand piecings counted -/

/-- R43: a report of this spindle shows that its yarn has been pieced by hand. -/
def showsHandPiecing (w : Working) (sp : Spindle) (present : Bool) : Bool :=
  decide ((sp.state.code = 4 ∨ sp.state.code = 6) ∧ present = true ∧ w.settleCount ≤ min 16 (sp.streak + 1))

theorem showsHandPiecing_iff {w : Working} {sp : Spindle} {present : Bool} :
    showsHandPiecing w sp present = true ↔
      (sp.state.code = 4 ∨ sp.state.code = 6) ∧ present = true ∧ w.settleCount ≤ min 16 (sp.streak + 1) := decide_eq_true_iff

theorem enlist_handPieced (n : Nat) (check : LockCheck) (s : State) : (enlist n check s).shift.handPieced = s.shift.handPieced := by
  unfold enlist; split
  · rw [(tellPlanner_onlyPlanner _ _).shift]
    exact (changeState_accrued n _ s).handPieced
  · rw [(tellPlanner_onlyPlanner _ _).shift, listSpindle_shift]

theorem countBreak_handPieced (n : Nat) (c : BreakCause) (s : State) : (countBreak n c s).shift.handPieced = s.shift.handPieced := by
  unfold countBreak; dsimp only; split <;> rfl

theorem breakSpindle_handPieced (n : Nat) (c : BreakCause) (s : State) :
    (breakSpindle n c s).shift.handPieced = s.shift.handPieced := by
  unfold breakSpindle; split
  · rw [(expedite_onlyPlanner _ _).shift, countBreak_handPieced, (enterState_accrued n _ s).handPieced]
  · rw [enlist_handPieced, countBreak_handPieced, (changeState_accrued n _ s).handPieced]

theorem leaveBroken_handPieced (n : Nat) (st : SpindleState) (s : State) :
    (leaveBroken n st s).shift.handPieced = s.shift.handPieced := by
  rw [leaveBroken, (enterState_accrued n st _).handPieced, dropFromList, setPieceList_shift]; rfl

/-- R43: what a streak at its count does to the hand piecings of the shift. -/
theorem actOnStreak_handPieced (n : Nat) (s : State) :
    (actOnStreak n s).shift.handPieced =
      if ((spindle s n).state.code = 4 ∨ (spindle s n).state.code = 6) ∧ s.settings.working.settleCount ≤ (spindle s n).streak then
        satAdd Config.top32 s.shift.handPieced 1
      else s.shift.handPieced := by
  unfold actOnStreak; dsimp only
  cases hs : (spindle s n).state <;> dsimp only
  case settling =>
    refine Eq.trans ?_ (if_neg fun h => by simp [SpindleState.code] at h).symm
    split
    · exact (enterState_accrued n _ s).handPieced
    · rfl
  case running =>
    refine Eq.trans ?_ (if_neg fun h => by simp [SpindleState.code] at h).symm
    split
    · exact breakSpindle_handPieced n _ s
    · rfl
  case broken =>
    by_cases hd : s.settings.working.settleCount ≤ (spindle s n).streak
    · rw [if_pos hd, if_pos ⟨.inl rfl, hd⟩, leaveBroken_handPieced]; rfl
    · rw [if_neg hd, if_neg fun h => hd h.2]
  case waitRoving =>
    by_cases hd : s.settings.working.settleCount ≤ (spindle s n).streak
    · rw [if_pos hd, if_pos ⟨.inr rfl, hd⟩, (enterState_accrued n _ _).handPieced]; rfl
    · rw [if_neg hd, if_neg fun h => hd h.2]
  all_goals rw [if_neg (by simp [SpindleState.code])]

theorem awaits_of_broken_or_waiting {st : SpindleState} (h : st.code = 4 ∨ st.code = 6) : st.awaits = some true := by
  cases st
  case broken => rfl
  case waitRoving => rfl
  all_goals simp [SpindleState.code] at h

theorem reportSpindle_handPieced {n : Nat} {present : Bool} {s : State} (hn : hasSpindle s n = true) :
    (reportSpindle n present s).shift.handPieced =
      if showsHandPiecing s.settings.working (spindle s n) present = true then satAdd Config.top32 s.shift.handPieced 1
      else s.shift.handPieced := by
  have hc : spindle (counted n s) n = _ := spindle_counted hn
  by_cases hw : (spindle s n).state.awaits = some present
  · rw [reportSpindle_awaited hw, actOnStreak_handPieced, hc]
    refine if_congr ?_ rfl rfl
    rw [showsHandPiecing_iff]
    refine and_congr_right fun h => ?_
    have hp := (awaits_of_broken_or_waiting h).symm.trans hw
    exact ⟨fun hd => ⟨(Option.some.inj hp).symm, hd⟩, fun h => h.2⟩
  · rw [if_neg fun h => hw (by
      obtain ⟨hst, hp, -⟩ := showsHandPiecing_iff.1 h
      rw [hp]; exact awaits_of_broken_or_waiting hst)]
    cases ha : (spindle s n).state.awaits with
    | none => rw [reportSpindle_unawaited ha]
    | some kind => rw [reportSpindle_against ha fun e => hw (by rw [e]; exact ha)]; rfl

/-- R43: a round of reports counts each hand piecing that it shows. -/
theorem foldl_handPieced (seen : Nat → Bool) : ∀ (ns : List Nat) (s : State), ns.Nodup → (∀ m ∈ ns, hasSpindle s m = true) →
    s.shift.handPieced ≤ 4294967295 →
    (ns.foldl (fun acc m => reportSpindle m (seen m) acc) s).shift.handPieced =
      min 4294967295
        (s.shift.handPieced + ns.countP fun m => showsHandPiecing s.settings.working (spindle s m) (seen m))
  | [], s, _, _, h => by simp; omega
  | m :: ns, s, hd, hs, h => by
    obtain ⟨hm, hd'⟩ := List.nodup_cons.1 hd
    have ht := reportSpindle_turn m (seen m) s
    have h1 := reportSpindle_handPieced (present := seen m) (hs m List.mem_cons_self)
    have hle : (reportSpindle m (seen m) s).shift.handPieced ≤ 4294967295 := by
      rw [h1]; split
      · exact Nat.min_le_left _ _
      · exact h
    have ih := foldl_handPieced seen ns (reportSpindle m (seen m) s) hd'
      (fun k hk => (ht.has k).trans (hs k (List.mem_cons_of_mem m hk))) hle
    have hsame : ns.countP (fun k => showsHandPiecing (reportSpindle m (seen m) s).settings.working
          (spindle (reportSpindle m (seen m) s) k) (seen k)) =
        ns.countP fun k => showsHandPiecing s.settings.working (spindle s k) (seen k) := by
      refine List.countP_congr fun k hk => ?_
      rw [ht.settings, ht.others k fun e => hm (e ▸ hk)]
    rw [List.foldl_cons, ih, hsame, h1, List.countP_cons]
    split
    · simp only [satAdd, Config.top32]; omega
    · omega

theorem handPiecedIn_length (s : State) (k : Nat) (present : PresenceFlags) :
    (handPiecedIn s k present).length =
      (spindlesOfSector k).countP fun m =>
        showsHandPiecing s.settings.working (spindle s m) (present.getLsbD (positionOf m - 1)) := by
  rw [handPiecedIn, List.length_filterMap_eq_countP, spindlesOfSector, List.range'_eq_map_range, List.countP_map]
  refine List.countP_congr fun p hp => ?_
  have hp : p < 24 := List.mem_range.1 hp
  have hm : 24 * (k - 1) + 1 + p = 24 * (k - 1) + p + 1 := by omega
  have hq : positionOf (24 * (k - 1) + p + 1) - 1 = p := by simp only [positionOf, Config.sectorSpindles]; omega
  simp only [Function.comp_apply, Config.sectorSpindles, hm, hq, showsHandPiecing_iff]
  split
  · rename_i h; exact ⟨fun _ => h, fun _ => rfl⟩
  · rename_i h; exact ⟨(fun e => nomatch e), fun e => absurd e h⟩

theorem acceptReport_handPieced {k : Nat} {s : State} (present : PresenceFlags) (hl : 24 * k ≤ s.spindles.length) (hk : 1 ≤ k)
    (h : s.shift.handPieced ≤ 4294967295) :
    (acceptReport k present s).shift.handPieced = min 4294967295 (s.shift.handPieced + (handPiecedIn s k present).length) := by
  have hs : ∀ m ∈ spindlesOfSector k, hasSpindle s m = true := fun m hm => by
    have := mem_spindlesOfSector.1 hm
    exact (hasSpindle_iff s m).2 (by omega)
  rw [(acceptReport_dispatches k present s).accrued.handPieced, handPiecedIn_length, reportEach]
  exact foldl_handPieced (fun m => present.getLsbD (positionOf m - 1)) (spindlesOfSector k) s List.nodup_range' hs h

end Sys2Proof.Machine

/-! # An answer accepted of an ACTIVE head (R23) -/

namespace Sys2Proof.Machine

open Sys2Proof

/-- R23: the poll of head `h` finished by an answer: none in flight, no miss. -/
def answered (side : Side) (h : Nat) (s : State) : State :=
  updHead side h (fun x => { x with misses := 0 }) (updRail side (fun r => { r with inFlight := none }) { s with emitted := [] })

theorem answered_eq (side : Side) (h : Nat) (s : State) :
    ∃ u : State, answered side h s = { s with emitted := [], railA := u.railA, railB := u.railB } := by
  cases side
  · exact ⟨answered .a h s, rfl⟩
  · exact ⟨answered .b h s, rfl⟩

theorem answered_aside (side : Side) (h n : Nat) (s : State) : Aside n s (answered side h s) := by
  obtain ⟨u, hu⟩ := answered_eq side h s
  rw [hu]
  exact ⟨rfl, rfl, rfl, rfl, rfl, fun _ ha => ha.of_same rfl rfl rfl⟩

theorem answered_misses {side : Side} {h : Nat} {s : State} (h1 : 1 ≤ h) (hl : h ≤ (railOf s side).heads.length) :
    (headAt (answered side h s) side h).misses = 0 := by
  have hr : (railOf (answered side h s) side).heads = modifyNth (railOf s side).heads h fun x => { x with misses := 0 } := by
    cases side <;> rfl
  rw [headAt, hr, nth_modifyNth_same _ _ _ _ h1 hl]

theorem exec_pollAnswer_active {s : State} {side : Side} {h : Nat} (present : PresenceFlags) (hp : s.powered = true)
    (hf : (railOf s side).inFlight = some h) (ha : (headAt s side h).state = .active) :
    exec (.pollAnswer side true true present) s = .next (acceptReport (sectorOfHead s side h) present (answered side h s)) := by
  refine (live_powered _ s hp).trans (congrArg _ ?_)
  have hf' : (railOf { s with emitted := [] } side).inFlight = some h := by cases side <;> exact hf
  have ha' : (headAt (updRail side (fun r => { r with inFlight := none }) { s with emitted := [] }) side h).state = .active := by
    cases side <;> exact ha
  have hk : sectorOfHead (updRail side (fun r => { r with inFlight := none }) { s with emitted := [] }) side h =
      sectorOfHead s side h := by cases side <;> rfl
  simp only [finishPoll, hf', Bool.and_self, if_true, validAnswer, ha', hk]
  rfl

theorem headAt_acceptReport (k : Nat) (present : PresenceFlags) (s : State) (side : Side) (h : Nat) :
    headAt (acceptReport k present s) side h = headAt s side h := by
  obtain ⟨u, hu⟩ := acceptReport_onlyFrame k present s
  rw [hu]; cases side <;> rfl

theorem ReportedAt.from {n : Nat} {b : Bool} {r s u t : State} (R : ReportedAt n b s u t) (h : Aside n r s) : ReportedAt n b r u t where
  before := R.before.after h
  passes := by rw [← h.delivery]; exact R.passes
  apart := by rw [← h.sideOf n]; exact R.apart
  delivery := R.delivery.trans h.delivery

theorem spindles_answered (side : Side) (h : Nat) (s : State) :
    (answered side h s).spindles = s.spindles ∧ (answered side h s).shift = s.shift ∧
      (answered side h s).settings = s.settings := by
  obtain ⟨u, hu⟩ := answered_eq side h s
  rw [hu]; exact ⟨rfl, rfl, rfl⟩

theorem handPiecedIn_of_same {s t : State} (k : Nat) (present : PresenceFlags) (hp : t.spindles = s.spindles)
    (hs : t.settings = s.settings) : handPiecedIn t k present = handPiecedIn s k present := by
  simp only [handPiecedIn, spindle, hp, hs]
  rfl

theorem one_le_sectorOfHead (s : State) (side : Side) {h : Nat} (h1 : 1 ≤ h) : 1 ≤ sectorOfHead s side h := by
  cases side
  · exact h1
  · exact Nat.le_trans h1 (Nat.le_add_left _ _)

theorem owedPulses_running {phi : Nat} {sp : Spindle} (h : sp.state = .running) :
    owedPulses phi sp = phi - sp.pulseMark.getD phi := by simp [owedPulses, h, SpindleState.isRunning]

/-- R34, R36: a SETTLING spindle that becomes RUNNING. -/
theorem settled_outcome {n : Nat} {s t : State} {o : SettleOrigin} {x : Nat} (hs : (spindle s n).state = .settling o x)
    (h : spindle t n = (spindle s n).changed s.delivery.driving s.delivery.now s.delivery.phi .running) (hd : t.delivery = s.delivery) :
    (spindle t n).state = .running ∧ (spindle t n).pulseMark = some s.delivery.phi ∧ (spindle t n).streak = 0 ∧
      (spindle t n).attempts = 0 ∧ (spindle t n).failures = 0 ∧ (spindle t n).stopEngaged = false ∧
      copRead t (spindle t n) = copRead s (spindle s n) := by
  have hm : (spindle t n).pulseMark = some s.delivery.phi := by
    rw [h, changed_pulseMark, markOnChange_entered _ _ _ (by rw [hs]; rfl)]; rfl
  have hc : copRead t (spindle t n) = copRead s (spindle s n) := by rw [copRead_eq, copRead_eq, hd, h, copAt_changed]
  refine ⟨?_, hm, ?_, ?_, ?_, ?_, hc⟩ <;> rw [h]
  · exact changed_state _ _ _ _ _
  · exact changed_streak _ _ _ _ _
  · rfl
  · rfl
  · exact changed_stopEngaged _ _ _ _ _

/-- Settles O20: a spindle's own turn finds it as it stood, the refill and the one dispatch leave a spindle outside the lists as its turn
made it, and a BROKEN one at most ordered. -/
theorem acceptedReportDecidesEachSpindle : Obligations.AcceptedReportDecidesEachSpindle := by
  unfold Obligations.AcceptedReportDecidesEachSpindle
  intro s side h p present hp hf h1 hl hact hp24 hk hout
  have hk1 := one_le_sectorOfHead s side h1
  refine ⟨_, exec_pollAnswer_active present hp hf hact, ?_, ?_, ?_⟩
  · rw [headAt_acceptReport]; exact answered_misses h1 hl
  · intro hle
    obtain ⟨hsp, hsh, hse⟩ := spindles_answered side h s
    rw [acceptReport_handPieced present (by rw [hsp]; omega) hk1 (by rw [hsh]; exact hle), hsh, handPiecedIn_of_same _ _ hsp hse]
  · dsimp only
    generalize hkk : sectorOfHead s side h = k at *
    have hpos : positionOf (24 * (k - 1) + p + 1) - 1 = p := by simp only [positionOf, Config.sectorSpindles]; omega
    have hmem : 24 * (k - 1) + p + 1 ∈ spindlesOfSector k := mem_spindlesOfSector.2 (by omega)
    have hn : hasSpindle s (24 * (k - 1) + p + 1) = true := (hasSpindle_iff _ _).2 (by omega)
    obtain ⟨u, R⟩ := acceptReport_at present (answered side h s) hk1 hmem
    rw [hpos] at R
    replace R := R.from (answered_aside side h _ s)
    generalize 24 * (k - 1) + p + 1 = n at *
    generalize acceptReport k present (answered side h s) = t at *
    generalize present.getLsbD p = b at *
    have ha (hb : (spindle s n).state.isBroken = false) : Apart (sideOf s n) n s :=
      ⟨(hout hb).1, fun e he => (hout hb).2 e (List.mem_append.2 (by cases hs : sideOf s n <;> rw [hs] at he; exacts [.inl he, .inr he]))⟩
    cases hs : (spindle s n).state with
    | settling o x =>
      have ha' := ha (by rw [hs]; rfl)
      have hw : (spindle s n).state.awaits = some true := by rw [hs]; rfl
      dsimp only
      cases b with
      | false => rw [if_pos rfl, ← hs]; exact R.streak hn ha' hw fun e => nomatch e
      | true =>
        rw [if_neg (fun e => nomatch e)]
        split
        · rename_i hlt; rw [← hs]; exact R.streak hn ha' hw fun _ => by rw [hs]; exact hlt
        · rename_i hge
          exact settled_outcome hs (R.settled hn ha' hs (Nat.not_lt.1 hge)) R.delivery
    | running =>
      have ha' := ha (by rw [hs]; rfl)
      have hw : (spindle s n).state.awaits = some false := by rw [hs]; rfl
      dsimp only
      cases b with
      | true => rw [if_pos rfl, ← hs]; exact R.streak hn ha' hw fun e => nomatch e
      | false =>
        rw [if_neg (fun e => nomatch e)]
        split
        · rename_i hlt; rw [← hs]; exact R.streak hn ha' hw fun _ => by rw [hs]; exact hlt
        · rename_i hge
          have hd := Nat.not_lt.1 hge
          rw [← owedPulses_running hs]
          by_cases ho : rovingOut s n = true
          · have hr := R.broken_out hn ha' hs hd ho
            have hst : (SpindleState.waitRoving s.delivery.now).halted := ⟨rfl, rfl, fun e => nomatch e⟩
            have k := Spindle.Halted.of_changed (spindle s n) s.delivery.driving s.delivery.now s.delivery.phi hst
            rw [← hr] at k
            refine ⟨k.streak, k.engaged, k.mark, k.cop, k.roving, k.shift, k.attempts, k.failures, ?_⟩
            rw [if_pos ho, hr]
            exact ⟨changed_state _ _ _ _ _, (changed_tries _ _ _ _ hst).2.2, changed_shiftEndBreaks _ _ _ _ _⟩
          · have k := R.broken_end hn ha' hs hd ho
            refine ⟨k.halted.streak, k.halted.engaged, k.halted.mark, k.halted.cop, k.halted.roving, k.halted.shift,
              k.halted.attempts, k.halted.failures, ?_⟩
            rw [if_neg ho, k.ring]
            refine ⟨rfl, k.endBreaks, ?_⟩
            split
            · rename_i hv; exact k.locked hv
            · rename_i hv; exact k.listed hv
    | broken c x =>
      dsimp only
      split
      · rename_i hd
        obtain ⟨rfl, hd⟩ := hd
        have k := R.by_hand_broken hn hs hd
        exact ⟨k.state, k.streak, k.engaged, k.unlisted, k.listed, k.attempts, k.failures, k.cop⟩
      · rename_i hd
        exact R.streak_broken hn hs fun e => Nat.not_le.1 fun h => hd ⟨e, h⟩
    | waitRoving x =>
      have ha' := ha (by rw [hs]; rfl)
      dsimp only
      split
      · rename_i hd
        obtain ⟨rfl, hd⟩ := hd
        have k := R.by_hand_waiting hn ha' hs hd
        exact ⟨k.state, k.streak, k.engaged, k.unlisted, k.listed, k.attempts, k.failures, k.cop⟩
      · rename_i hd
        rw [← hs]
        exact R.streak hn ha' (by rw [hs]; rfl) fun e => by rw [hs]; exact Nat.not_le.1 fun h => hd ⟨e, h⟩
    | idle => exact R.unawaited (ha (by rw [hs]; rfl)) (by rw [hs]; rfl)
    | withheld => exact R.unawaited (ha (by rw [hs]; rfl)) (by rw [hs]; rfl)
    | locked r => exact R.unawaited (ha (by rw [hs]; rfl)) (by rw [hs]; rfl)
    | piecing c x => rw [R.unawaited (ha (by rw [hs]; rfl)) (by rw [hs]; rfl)]; exact hs

end Sys2Proof.Machine

/-! # Nothing outgrows its place (R31 to R33, R49, R146, R159, R167, R196) -/

namespace Sys2Proof.Machine

open Sys2Proof

/-! ## The bounds read off -/

section
variable {s : State}

theorem capacitiesSound.list (h : capacitiesSound s) (side : Side) : (pieceList s side).length ≤ 96 := by
  obtain ⟨ha, hb, _⟩ := h; cases side
  · exact ha
  · exact hb

theorem capacitiesSound.entries (h : capacitiesSound s) (side : Side) : ∀ e ∈ pieceList s side, sideOf s e.spindle = side := by
  obtain ⟨_, _, _, _, _, _, _, _, _, _, _, ha, hb⟩ := h; cases side
  · exact ha
  · exact hb

theorem capacitiesSound.queue (h : capacitiesSound s) : s.notices.queue.length ≤ 32 := by obtain ⟨_, _, hq, _⟩ := h; exact hq

theorem capacitiesSound.log (h : capacitiesSound s) : s.doff.log.length ≤ 16 := by obtain ⟨_, _, _, hl, _⟩ := h; exact hl

theorem capacitiesSound.closed (h : capacitiesSound s) : s.ring.length ≤ 3 := by obtain ⟨_, _, _, _, hr, _⟩ := h; exact hr

theorem capacitiesSound.segments (h : capacitiesSound s) : s.shift.segments.length ≤ 4 := by
  obtain ⟨_, _, _, _, _, hg, _⟩ := h; exact hg

theorem capacitiesSound.counts (h : capacitiesSound s) : ∀ sp ∈ s.spindles, spindleCountsOk sp := by
  obtain ⟨_, _, _, _, _, _, hs, _⟩ := h; exact hs

/-- R167: the rings that the store holds or is about to hold have at most 3 records each. -/
def storeRingsOk (st : Store) : Prop := ringOk st.copy1 ∧ ringOk st.copy2 ∧ ringOk st.writer.image

theorem capacitiesSound.store (h : capacitiesSound s) : storeRingsOk s.store := by
  obtain ⟨_, _, _, _, _, _, _, h1, h2, h3, _⟩ := h; exact ⟨h1, h2, h3⟩

/-! ## One place changed -/

theorem capacitiesSound.setPieceList (h : capacitiesSound s) (side : Side) {l : List Entry} (hl : l.length ≤ 96)
    (hs : ∀ e ∈ l, sideOf s e.spindle = side) : capacitiesSound (setPieceList side l s) := by
  obtain ⟨ha, hb, h3, h4, h5, h6, h7, h8, h9, h10, h11, hea, heb⟩ := h
  cases side
  · exact ⟨hl, hb, h3, h4, h5, h6, h7, h8, h9, h10, h11, hs, heb⟩
  · exact ⟨ha, hl, h3, h4, h5, h6, h7, h8, h9, h10, h11, hea, hs⟩

theorem capacitiesSound.setSpindles (h : capacitiesSound s) {l : List Spindle} (hl : ∀ sp ∈ l, spindleCountsOk sp) :
    capacitiesSound { s with spindles := l } := by
  obtain ⟨h1, h2, h3, h4, h5, h6, _, h8⟩ := h; exact ⟨h1, h2, h3, h4, h5, h6, hl, h8⟩

theorem capacitiesSound.setNotices (h : capacitiesSound s) {ns : Notices} (hl : ns.queue.length ≤ 32) :
    capacitiesSound { s with notices := ns } := by
  obtain ⟨h1, h2, _, h4⟩ := h; exact ⟨h1, h2, hl, h4⟩

theorem capacitiesSound.setDoff (h : capacitiesSound s) {d : Doff} (hl : d.log.length ≤ 16) :
    capacitiesSound { s with doff := d } := by
  obtain ⟨h1, h2, h3, _, h5⟩ := h; exact ⟨h1, h2, h3, hl, h5⟩

theorem capacitiesSound.setRing (h : capacitiesSound s) {r : List ClosedShift} (hl : r.length ≤ 3) :
    capacitiesSound { s with ring := r } := by
  obtain ⟨h1, h2, h3, h4, _, h6⟩ := h; exact ⟨h1, h2, h3, h4, hl, h6⟩

theorem capacitiesSound.setShift (h : capacitiesSound s) {sh : Shift} (hl : sh.segments.length ≤ 4) :
    capacitiesSound { s with shift := sh } := by
  obtain ⟨h1, h2, h3, h4, h5, _, h7⟩ := h; exact ⟨h1, h2, h3, h4, h5, hl, h7⟩

theorem capacitiesSound.setStore (h : capacitiesSound s) {st : Store} (hl : storeRingsOk st) :
    capacitiesSound { s with store := st } := by
  obtain ⟨h1, h2, h3, h4, h5, h6, h7, _, _, _, h11⟩ := h
  obtain ⟨k1, k2, k3⟩ := hl
  exact ⟨h1, h2, h3, h4, h5, h6, h7, k1, k2, k3, h11⟩

theorem capacitiesSound.setZones (h : capacitiesSound s) {z : Zones} (hl : ∀ k ∈ z.withheld, 1 ≤ k) :
    capacitiesSound { s with zones := z } := by
  obtain ⟨h1, h2, h3, h4, h5, h6, h7, h8, h9, h10, _, h12⟩ := h
  exact ⟨h1, h2, h3, h4, h5, h6, h7, h8, h9, h10, hl, h12⟩

theorem capacitiesSound.updCarriage (h : capacitiesSound s) (r : RecordNo) (f : Carriage → Carriage) :
    capacitiesSound (updCarriage r f s) := by cases r <;> exact h

theorem capacitiesSound.updRail (h : capacitiesSound s) (side : Side) (f : Rail → Rail) : capacitiesSound (updRail side f s) := by
  cases side <;> exact h

theorem capacitiesSound.updSpindle (h : capacitiesSound s) (n : Nat) {f : Spindle → Spindle}
    (hf : ∀ sp, spindleCountsOk sp → spindleCountsOk (f sp)) : capacitiesSound (updSpindle n f s) := by
  cases hn : hasSpindle s n
  · rw [updSpindle_none n f s hn]; exact h
  · exact h.setSpindles (forall_mem_modifyNth n f s hn h.counts (hf _))

theorem capacitiesSound.updDoff (h : capacitiesSound s) {f : Doff → Doff} (hl : (f s.doff).log = s.doff.log) :
    capacitiesSound (updDoff f s) := h.setDoff (hl ▸ h.log)

theorem capacitiesSound.foldl {α : Type} {f : State → α → State} (hf : ∀ t x, capacitiesSound t → capacitiesSound (f t x)) :
    ∀ (l : List α) {s : State}, capacitiesSound s → capacitiesSound (l.foldl f s)
  | [], _, h => h
  | x :: l, _, h => capacitiesSound.foldl hf l (hf _ x h)

theorem capacitiesSound.ite {p : Prop} [Decidable p] {t u : State} (ht : capacitiesSound t) (hu : capacitiesSound u) :
    capacitiesSound (if p then t else u) := by split <;> assumption

theorem onlyPlanner.capacities {t : State} (k : onlyPlanner s t) (h : capacitiesSound s) : capacitiesSound t := by
  obtain ⟨_, rfl⟩ := k; exact h

end

/-! ## The counts of a spindle record (R31 to R33) -/

theorem countsOk_of_same {sp x : Spindle} (h : spindleCountsOk sp) (hs : x.streak ≤ 16) (ha : x.attempts = sp.attempts)
    (hf : x.failures = sp.failures) (hr : x.breakRing = sp.breakRing) : spindleCountsOk x := by
  obtain ⟨_, h2, h3, h4⟩ := h
  exact ⟨hs, ha ▸ h2, hf ▸ h3, hr ▸ h4⟩

/-- R36: a change of state starts the streak again, and clears the tries or leaves them. -/
theorem changed_countsOk {sp : Spindle} (driving : Bool) (now phi : Nat) (st : SpindleState) (h : spindleCountsOk sp) :
    spindleCountsOk (sp.changed driving now phi st) := by
  obtain ⟨_, h2, h3, h4⟩ := h
  cases st
  case running => exact ⟨Nat.zero_le _, Nat.zero_le _, Nat.zero_le _, h4⟩
  case withheld => exact ⟨Nat.zero_le _, Nat.zero_le _, Nat.zero_le _, Nat.zero_le _⟩
  all_goals exact ⟨Nat.zero_le _, h2, h3, h4⟩

/-- R33: a ring stamped keeps its latest four stamps. -/
theorem length_stampRing_le (ring : List Nat) (t : Nat) : (stampRing ring t).length ≤ 4 := by
  simp only [stampRing, List.length_drop, List.length_append, Config.breakRingSize]; omega

/-- R85: attempts and failures stop at 7. -/
theorem tried_countsOk {sp : Spindle} (failed : Bool) (h : spindleCountsOk sp) : spindleCountsOk (sp.tried failed) := by
  obtain ⟨h1, _, h3, h4⟩ := h
  refine ⟨h1, satAdd_le _ _ _, ?_, h4⟩
  cases failed
  · exact h3
  · exact satAdd_le _ _ _

/-- R18, R159: seconds and pulses booked open no segment. -/
theorem accrue_capacities {s : State} (k : Category) (x y : Nat) (h : capacitiesSound s) :
    capacitiesSound { s with shift := s.shift.accrue k x y } :=
  h.setShift ((length_addToCurrent _ _).trans_le h.segments)

/-! ## Settling and a change of state -/

theorem settleSpindle_capacities {s : State} (n : Nat) (h : capacitiesSound s) : capacitiesSound (settleSpindle n s) := by
  unfold settleSpindle; dsimp only; split
  · exact (accrue_capacities _ _ _ h).updSpindle n fun _ k => k
  · exact h

theorem settleEach_capacities {s : State} (ns : List Nat) (h : capacitiesSound s) : capacitiesSound (settleEach ns s) :=
  h.foldl (fun _ n k => settleSpindle_capacities n k) ns

theorem settleAll_capacities {s : State} (h : capacitiesSound s) : capacitiesSound (settleAll s) := settleEach_capacities _ h

theorem changeState_capacities {s : State} (n : Nat) (st : SpindleState) (h : capacitiesSound s) :
    capacitiesSound (changeState n st s) := by
  unfold changeState; dsimp only; split
  · exact (accrue_capacities _ _ _ h).updSpindle n fun _ => changed_countsOk _ _ _ st
  · exact h

theorem tellPlanner_capacities {s : State} (g : Nat) (h : capacitiesSound s) : capacitiesSound (tellPlanner g s) :=
  (tellPlanner_onlyPlanner g s).capacities h

theorem enterState_capacities {s : State} (n : Nat) (st : SpindleState) (h : capacitiesSound s) :
    capacitiesSound (enterState n st s) := tellPlanner_capacities _ (changeState_capacities n st h)

/-! ## Faults and notices (R196, R197) -/

/-- R197: one notice makes room where one of the level is queued. -/
theorem length_dropNewestOf {level : NoticeLevel} : ∀ {l : List Notice}, l.any (fun n => n.level == level) = true →
    (dropNewestOf level l).length + 1 = l.length
  | [], h => nomatch h
  | n :: rest, h => by
    unfold dropNewestOf
    split
    · rename_i hr
      simpa using length_dropNewestOf hr
    · rename_i hr
      have hn : (n.level == level) = true := by simpa [hr] using h
      rw [if_pos hn]; rfl

/-- R197: the level dropped is one that is queued. -/
theorem any_lowestLevel {q : List Notice} (h : q.any (fun m => m.level != .critical) = true) :
    q.any (fun n => n.level == lowestLevel q) = true := by
  unfold lowestLevel
  split
  · assumption
  · rename_i hi
    obtain ⟨m, hm, hl⟩ := List.any_eq_true.1 h
    refine List.any_eq_true.2 ⟨m, hm, ?_⟩
    have hmi : m.level ≠ .info := fun e => hi (List.any_eq_true.2 ⟨m, hm, by simp [e]⟩)
    cases hk : m.level <;> simp_all

theorem length_enqueue_le (n : Notice) {ns : Notices} (h : ns.queue.length ≤ 32) : (enqueue n ns).queue.length ≤ 32 := by
  unfold enqueue
  split
  · rename_i hlt
    simpa [Config.noticeCapacity] using hlt
  · split
    · rename_i _ hc
      have hd := length_dropNewestOf (any_lowestLevel (by simpa using (Bool.and_eq_true_iff.1 hc).2))
      simp only [List.length_append, List.length_singleton]; omega
    · exact h

theorem raiseNotice_capacities {s : State} (k : NoticeKind) (l : NoticeLevel) (x : Subject) (d : Detail) (h : capacitiesSound s) :
    capacitiesSound (raiseNotice k l x d s) := by
  refine h.setNotices ?_
  split
  · exact length_enqueue_le _ h.queue
  · exact h.queue

theorem raiseFault_capacities {s : State} (c : FaultClass) (x : Subject) (d : Detail) (h : capacitiesSound s) :
    capacitiesSound (raiseFault c x d s) := by
  have h1 : capacitiesSound { s with faults := recordFault c x d s.delivery.mill s.faults } := h
  unfold raiseFault; dsimp only; split
  · exact h1
  · exact raiseNotice_capacities _ _ _ _ h1

/-! ## The piecing lists (R49, R55) -/

theorem length_insertEntry (e : Entry) : ∀ l : List Entry, (insertEntry e l).length = l.length + 1
  | [] => rfl
  | f :: l => by
    unfold insertEntry; split
    · rfl
    · simp [length_insertEntry e l]

theorem unlisted_capacities {s : State} (n : Nat) (b : Bool) (h : capacitiesSound s) :
    capacitiesSound (updSpindle n (fun x => { x with unlisted := b }) s) := h.updSpindle n fun _ k => k

/-- R50: an entry made where its list has room. -/
theorem makeEntry_capacities {s : State} (n : Nat) (urgent : Bool) (hl : (pieceList s (sideOf s n)).length < 96)
    (h : capacitiesSound s) : capacitiesSound (makeEntry n urgent s) := by
  unfold makeEntry; split
  · refine (unlisted_capacities n false h).setPieceList _ ?_ fun e he => ?_
    · rw [length_insertEntry]; exact hl
    · rcases (mem_insertEntry _ _ _).1 he with rfl | he
      · rfl
      · exact h.entries _ e he
  · exact h

theorem dropFromList_capacities {s : State} (n : Nat) (h : capacitiesSound s) : capacitiesSound (dropFromList n s) :=
  (unlisted_capacities n false h).setPieceList _ ((List.length_filter_le _ _).trans (h.list _))
    fun e he => h.entries _ e (List.mem_of_mem_filter he)

/-- R1: a spindle of a side's range is of that side. -/
theorem sideOf_of_mem_spindlesOfSide {s : State} {side : Side} {n : Nat} (h : n ∈ spindlesOfSide s side) : sideOf s n = side := by
  simp only [spindlesOfSide, firstSpindle, List.mem_range'_1, Config.sectorSpindles] at h
  have hk : sectorOf n = (n - 1) / 24 + 1 := rfl
  unfold sideOf sideOfSector
  cases side
  · simp only [firstSector] at h; exact if_pos (by omega)
  · simp only [firstSector] at h; exact if_neg (by omega)

theorem oldestUnlisted_side {s : State} {side : Side} {n : Nat} (h : oldestUnlisted s side = some n) : sideOf s n = side :=
  sideOf_of_mem_spindlesOfSide (List.mem_of_mem_filter (pick_mem h))

theorem refillUpTo_capacities (side : Side) : ∀ (fuel : Nat) {s : State}, capacitiesSound s → capacitiesSound (refillUpTo fuel side s)
  | 0, _, h => h
  | k + 1, s, h => by
    unfold refillUpTo; split
    · exact h
    · rename_i n hn
      split
      · rename_i hlt
        exact refillUpTo_capacities side k (makeEntry_capacities n false (by rw [oldestUnlisted_side hn]; exact hlt) h)
      · exact h

theorem refill_capacities {s : State} (side : Side) (h : capacitiesSound s) : capacitiesSound (refill side s) :=
  refillUpTo_capacities side _ h

theorem listSpindle_capacities {s : State} (n : Nat) (h : capacitiesSound s) : capacitiesSound (listSpindle n s) := by
  unfold listSpindle; dsimp only; split
  · exact makeEntry_capacities n false ‹_› h
  · exact (raiseFault_capacities _ _ _ (unlisted_capacities n true h)).ite (unlisted_capacities n true h)

/-! ## Orders and locks (chapters 4 and 5) -/

theorem updLock_capacities {s : State} (k : Nat) (f : Lock → Lock) (h : capacitiesSound s) : capacitiesSound (updLock k f s) := h

theorem emit_capacities {s : State} (o : Output) (h : capacitiesSound s) : capacitiesSound (emit o s) := h

theorem countIssued_capacities {s : State} (h : capacitiesSound s) : capacitiesSound (countIssued s) := h

theorem issueOrder_capacities {s : State} (r : RecordNo) (e : Entry) (carried : Bool) (h : capacitiesSound s) :
    capacitiesSound (issueOrder r e carried s) := by
  unfold issueOrder; dsimp only
  exact countIssued_capacities <| capacitiesSound.updCarriage
    (enterState_capacities _ _ <| refill_capacities _ <| dropFromList_capacities _ <| emit_capacities _ <| updLock_capacities _ _ h) r _

theorem dispatchAmong_capacities {s : State} (allowed : Entry → Bool) (carried : Bool) (r : RecordNo) (h : capacitiesSound s) :
    capacitiesSound (dispatchAmong allowed carried r s) := by
  unfold dispatchAmong; split
  · split
    · split
      · exact issueOrder_capacities _ _ _ h
      · exact h
    · exact h
  · exact h

theorem dispatch_capacities {s : State} (r : RecordNo) (h : capacitiesSound s) : capacitiesSound (dispatch r s) :=
  dispatchAmong_capacities _ _ _ h

theorem attemptSide_capacities {s : State} (side : Side) (h : capacitiesSound s) : capacitiesSound (attemptSide side s) := by
  unfold attemptSide; split
  · exact h
  · exact dispatch_capacities _ h

theorem attemptBoth_capacities {s : State} (h : capacitiesSound s) : capacitiesSound (attemptBoth s) :=
  attemptSide_capacities _ (attemptSide_capacities _ h)

theorem refillAndAttempt_capacities {s : State} (side : Side) (h : capacitiesSound s) :
    capacitiesSound (refillAndAttempt side s) :=
  (attemptSide_capacities side (refill_capacities side h)).ite (refill_capacities side h)

theorem attemptIfListed_capacities {s : State} (n : Nat) (h : capacitiesSound s) : capacitiesSound (attemptIfListed n s) :=
  (attemptSide_capacities _ h).ite h

theorem releaseLock_capacities {s : State} (k : Nat) (h : capacitiesSound s) : capacitiesSound (releaseLock k s) := by
  unfold releaseLock; split
  · exact (plannerGranted_onlyPlanner _).capacities h
  · exact attemptSide_capacities _ h
  · exact h

theorem endClaim_capacities {s : State} (k : Nat) (h : capacitiesSound s) : capacitiesSound (endClaim k s) := by
  unfold endClaim; split
  · exact attemptSide_capacities _ h
  · exact h
  · exact h

theorem endClaimOfChange_capacities {s : State} (h : capacitiesSound s) : capacitiesSound (endClaimOfChange s) := by
  unfold endClaimOfChange; split
  · exact endClaim_capacities _ h
  · exact endClaim_capacities _ h
  · exact h

theorem claimSector_capacities {s : State} (c : ActiveChange) (h : capacitiesSound s) : capacitiesSound (claimSector c s) := by
  unfold claimSector; dsimp only; split
  · exact (plannerGranted_onlyPlanner _).capacities h
  · exact (plannerGranted_onlyPlanner _).capacities h
  · exact h
  · exact h

/-! ## Breaks (chapter 3) -/

theorem enlist_capacities {s : State} (n : Nat) (check : LockCheck) (h : capacitiesSound s) : capacitiesSound (enlist n check s) := by
  unfold enlist; split
  · exact tellPlanner_capacities _ (raiseNotice_capacities _ _ _ _ (changeState_capacities n _ h))
  · exact tellPlanner_capacities _ (listSpindle_capacities n h)

theorem takeIn_capacities {s : State} (n : Nat) (check : LockCheck) (h : capacitiesSound s) : capacitiesSound (takeIn n check s) :=
  attemptIfListed_capacities n (enlist_capacities n check h)

theorem countBreak_capacities {s : State} (n : Nat) (c : BreakCause) (h : capacitiesSound s) : capacitiesSound (countBreak n c s) := by
  have h1 : capacitiesSound { s with shift := { s.shift with breaks := s.shift.breaks.bump c } } := h
  refine capacitiesSound.ite (h1.updSpindle n fun sp k => ?_) h1
  obtain ⟨k1, k2, k3, _⟩ := k
  exact ⟨k1, k2, k3, length_stampRing_le _ _⟩

theorem breakSpindle_capacities {s : State} (n : Nat) (c : BreakCause) (h : capacitiesSound s) :
    capacitiesSound (breakSpindle n c s) := by
  unfold breakSpindle; split
  · exact (expedite_onlyPlanner _ _).capacities (countBreak_capacities n _ (enterState_capacities n _ h))
  · exact enlist_capacities n _ (countBreak_capacities n c (changeState_capacities n _ h))

theorem leaveBroken_capacities {s : State} (n : Nat) (st : SpindleState) (h : capacitiesSound s) :
    capacitiesSound (leaveBroken n st s) := enterState_capacities n st (dropFromList_capacities n h)

theorem leaveList_capacities {s : State} (n : Nat) (st : SpindleState) (h : capacitiesSound s) :
    capacitiesSound (leaveList n st s) := refillAndAttempt_capacities _ (leaveBroken_capacities n st h)

theorem returnToBroken_capacities {s : State} (n : Nat) (check : LockCheck) (h : capacitiesSound s) :
    capacitiesSound (returnToBroken n check s) := by
  unfold returnToBroken; split
  · exact (enterState_capacities n _ h).ite (takeIn_capacities n check (changeState_capacities n _ h))
  · exact h

theorem pieceDone_capacities {s : State} (n : Nat) (h : capacitiesSound s) : capacitiesSound (pieceDone n s) := by
  unfold pieceDone; split
  · exact (enterState_capacities n _ h).ite (enterState_capacities n _ h)
  · exact h

end Sys2Proof.Machine

/-! # Nothing outgrows its place: the events of the rails, the links, the doff, the shift and the store -/

namespace Sys2Proof.Machine

open Sys2Proof

/-! ## Reports and heads (chapter 2) -/

theorem actOnStreak_capacities {s : State} (n : Nat) (h : capacitiesSound s) : capacitiesSound (actOnStreak n s) := by
  have hc : capacitiesSound (countHandPieced s) := h
  unfold actOnStreak; dsimp only; split
  · exact (enterState_capacities n _ h).ite h
  · exact (breakSpindle_capacities n _ h).ite h
  · exact (leaveBroken_capacities n _ hc).ite h
  · exact (enterState_capacities n _ hc).ite h
  · exact h

/-- R32: a streak is at most 16. -/
theorem streak_capacities {s : State} (n : Nat) (f : Nat → Nat) (hf : ∀ k, f k ≤ 16) (h : capacitiesSound s) :
    capacitiesSound (updSpindle n (fun sp => { sp with streak := f sp.streak }) s) :=
  h.updSpindle n fun _ k => countsOk_of_same k (hf _) rfl rfl rfl

theorem reportSpindle_capacities {s : State} (n : Nat) (present : Bool) (h : capacitiesSound s) :
    capacitiesSound (reportSpindle n present s) := by
  unfold reportSpindle; split
  · exact h
  · split
    · exact actOnStreak_capacities n (streak_capacities n (fun k => satAdd Config.topStreak k 1) (fun _ => satAdd_le _ _ _) h)
    · exact streak_capacities n (fun _ => 0) (fun _ => Nat.zero_le _) h

theorem acceptReport_capacities {s : State} (k : Nat) (present : PresenceFlags) (h : capacitiesSound s) :
    capacitiesSound (acceptReport k present s) := by
  have h1 := refill_capacities (sideOfSector s k)
    (h.foldl (fun _ n => reportSpindle_capacities n (present.getLsbD (positionOf n - 1))) (spindlesOfSector k))
  exact (attemptSide_capacities _ h1).ite h1

theorem updHead_capacities {s : State} (side : Side) (k : Nat) (f : Head → Head) (h : capacitiesSound s) :
    capacitiesSound (updHead side k f s) := h.updRail side _

theorem missPoll_capacities {s : State} (side : Side) (k : Nat) (h : capacitiesSound s) : capacitiesSound (missPoll side k s) := by
  have h1 := updHead_capacities side k Head.missed (h.updRail side fun r => { r with discarded := satAdd Config.top16 r.discarded 1 })
  exact (raiseFault_capacities _ _ _ (updHead_capacities side k Head.silenced h1)).ite h1

theorem activateHead_capacities {s : State} (side : Side) (k : Nat) (h : capacitiesSound s) :
    capacitiesSound (activateHead side k s) := by
  have h1 := (updHead_capacities side k (fun x => { x with state := .active, returnMark := false }) h).foldl
    (f := fun acc n => updSpindle n (fun sp => sp.sensed s.delivery.now) acc)
    (fun _ n k => k.updSpindle n fun _ c => countsOk_of_same c (Nat.zero_le _) rfl rfl rfl)
    (spindlesOfSector (sectorOfHead s side k))
  exact (raiseNotice_capacities _ _ _ _ h1).ite h1

theorem validAnswer_capacities {s : State} (side : Side) (k : Nat) (present : PresenceFlags) (h : capacitiesSound s) :
    capacitiesSound (validAnswer side k present s) := by
  have h1 := updHead_capacities side k (fun x => { x with misses := 0 }) h
  unfold validAnswer; dsimp only; split
  · exact acceptReport_capacities _ _ h1
  · exact (activateHead_capacities side k h1).ite (updHead_capacities side k _ h1)
  · exact updHead_capacities side k _ h1
  · exact h

theorem finishPoll_capacities {s : State} (side : Side) {act : Nat → State → State}
    (hact : ∀ k t, capacitiesSound t → capacitiesSound (act k t)) (h : capacitiesSound s) :
    capacitiesSound (finishPoll side act s) := by
  unfold finishPoll; split
  · exact h
  · exact hact _ _ (h.updRail side _)

theorem pollHead_capacities {s : State} (side : Side) (h : capacitiesSound s) : capacitiesSound (pollHead side s) :=
  (capacitiesSound.updRail (emit_capacities _ h) side _).ite h

theorem sleepPoll_capacities {s : State} (side : Side) (h : capacitiesSound s) : capacitiesSound (sleepPoll side s) :=
  (capacitiesSound.updRail (emit_capacities _ h) side _).ite h

theorem takeDrowse_capacities {s : State} (h : capacitiesSound s) : capacitiesSound (takeDrowse s) := h

theorem drowseExpiry_capacities {s : State} (h : capacitiesSound s) : capacitiesSound (drowseExpiry s) :=
  capacitiesSound.ite (capacitiesSound.ite h (takeDrowse_capacities h)) h

theorem settleLimit_capacities {s : State} (n : Nat) (h : capacitiesSound s) : capacitiesSound (settleLimit n s) := by
  unfold settleLimit; split
  · exact (attemptIfListed_capacities n (breakSpindle_capacities n _ h)).ite h
  · exact h

theorem lampExpiry_capacities {s : State} (k : Nat) (h : capacitiesSound s) : capacitiesSound (lampExpiry k s) :=
  capacitiesSound.ite (show capacitiesSound (updLamp _ _ s) from h) h

/-! ## Roving changes (chapters 5 and 6) -/

theorem releaseFromRoving_capacities {s : State} (n : Nat) (h : capacitiesSound s) : capacitiesSound (releaseFromRoving n s) := by
  unfold releaseFromRoving; split
  · exact takeIn_capacities n _ (changeState_capacities n _ h)
  · exact enterState_capacities n _ h
  · exact h

theorem countChange_capacities {s : State} (k : Nat) (h : capacitiesSound s) : capacitiesSound (countChange k s) := h

theorem renewGroup_capacities {s : State} (g : Nat) (h : capacitiesSound s) : capacitiesSound (renewGroup g s) := by
  unfold renewGroup; dsimp only
  refine countChange_capacities _ <| capacitiesSound.foldl (fun _ n => releaseFromRoving_capacities n) _ ?_
  exact capacitiesSound.foldl (f := fun acc n => updSpindle n Spindle.renewed acc) (fun _ n k => k.updSpindle n fun _ c => c) _
    (settleEach_capacities _ h)

theorem completeChange_capacities {s : State} (c : ActiveChange) (h : capacitiesSound s) : capacitiesSound (completeChange c s) := by
  unfold completeChange; dsimp only
  exact (callTest_onlyPlanner _).capacities <| raiseNotice_capacities _ _ _ _ <| (evaluateGroup_onlyPlanner _ _).capacities <|
    (updPlanner_onlyPlanner _ _).capacities <| endClaimOfChange_capacities <| renewGroup_capacities _ h

theorem honourLate_capacities {s : State} (g : Nat) (h : capacitiesSound s) : capacitiesSound (honourLate g s) := by
  unfold honourLate; dsimp only
  exact (updPlanner_onlyPlanner _ _).capacities <| raiseNotice_capacities _ _ _ _ <| (evaluateGroup_onlyPlanner _ _).capacities <|
    renewGroup_capacities g <| (removeCall_onlyPlanner g s).capacities h

theorem waitExpiry_capacities {s : State} (k : Nat) (h : capacitiesSound s) : capacitiesSound (waitExpiry k s) := by
  unfold waitExpiry; split
  · exact (updLock_capacities _ _ h).ite h
  · exact h

theorem takeAccept_onlyPlanner (tag : Nat) (s : State) : onlyPlanner s (takeAccept tag s) := by
  unfold takeAccept; split
  · split
    · split
      · exact .refl s
      · exact updPlanner_onlyPlanner _ _
    · exact discardTransport_onlyPlanner s
  · exact discardTransport_onlyPlanner s

theorem takeDecline_onlyPlanner (tag : Nat) (s : State) : onlyPlanner s (takeDecline tag s) := by
  unfold takeDecline; split
  · split
    · exact (updPlanner_onlyPlanner _ _).after (relist_onlyPlanner _ _ _)
    · exact discardTransport_onlyPlanner s
  · exact discardTransport_onlyPlanner s

theorem backOffExpiry_onlyPlanner (s : State) : onlyPlanner s (backOffExpiry s) := by
  unfold backOffExpiry; split
  · exact (callTest_onlyPlanner _).after (updPlanner_onlyPlanner _ _)
  · exact .refl s

theorem takeAtSector_capacities {s : State} (tag : Nat) (h : capacitiesSound s) : capacitiesSound (takeAtSector tag s) := by
  unfold takeAtSector; split
  · unfold standAtSector; split
    · exact claimSector_capacities _ ((updPlanner_onlyPlanner _ _).capacities h)
    · exact claimSector_capacities _ h
    · exact claimSector_capacities _ h
    · exact h
  · exact (discardTransport_onlyPlanner s).capacities h

theorem takeChanged_capacities {s : State} (tag : Nat) (h : capacitiesSound s) : capacitiesSound (takeChanged tag s) := by
  unfold takeChanged; split
  · exact completeChange_capacities _ h
  · split
    · exact honourLate_capacities _ h
    · exact (discardTransport_onlyPlanner s).capacities h

theorem takeAborted_capacities {s : State} (tag : Nat) (h : capacitiesSound s) : capacitiesSound (takeAborted tag s) := by
  unfold takeAborted; split
  · exact ((callTest_onlyPlanner _).after (relist_onlyPlanner _ _ _)).capacities (endClaimOfChange_capacities h)
  · exact (discardTransport_onlyPlanner s).capacities h

theorem transportExpiry_capacities {s : State} (h : capacitiesSound s) : capacitiesSound (transportExpiry s) := by
  unfold transportExpiry; split
  · split
    · exact (callTest_onlyPlanner _).capacities <| (relist_onlyPlanner _ _ _).capacities <| (updPlanner_onlyPlanner _ _).capacities <|
        endClaimOfChange_capacities <| emit_capacities _ <| raiseFault_capacities _ _ _ h
    · exact h
  · exact h

/-! ## The doff called and the carriages parked (chapters 4 and 7) -/

theorem testDrowse_capacities {s : State} (h : capacitiesSound s) : capacitiesSound (testDrowse s) :=
  (takeDrowse_capacities h).ite h

theorem enterPhase_capacities {s : State} (ph : DoffPhase) (h : capacitiesSound s) : capacitiesSound (enterPhase ph s) := by
  have h1 := testDrowse_capacities (h.updDoff (f := fun d => d.toPhase ph) rfl)
  exact (attemptBoth_capacities h1).ite h1

theorem enterDoffing_capacities {s : State} (call : CallInfo) (h : capacitiesSound s) : capacitiesSound (enterDoffing call s) :=
  enterPhase_capacities _ (h.updDoff rfl)

theorem testClear_capacities {s : State} (h : capacitiesSound s) : capacitiesSound (testClear s) := by
  unfold testClear; split
  · exact (enterDoffing_capacities _ h).ite h
  · exact h

theorem parkRecord_capacities {s : State} (r : RecordNo) (h : capacitiesSound s) : capacitiesSound (parkRecord r s) := by
  unfold parkRecord; split
  · split
    · exact capacitiesSound.updCarriage (emit_capacities _ h) r _
    · exact h
  · exact h

theorem enterParking_capacities {s : State} (call : CallInfo) (h : capacitiesSound s) : capacitiesSound (enterParking call s) :=
  testClear_capacities <| parkRecord_capacities _ <| parkRecord_capacities _ <| enterPhase_capacities _ h

theorem enterCalled_capacities {s : State} (early forced : Bool) (h : capacitiesSound s) :
    capacitiesSound (enterCalled early forced s) := by
  have h1 (call : CallInfo) := enterPhase_capacities (.called call)
    (h.updDoff (f := fun d => { d with hold := false, overdue := false }) rfl)
  exact (h1 _).ite (enterParking_capacities _ (h1 _))

theorem forceDoff_capacities {s : State} (h : capacitiesSound s) : capacitiesSound (forceDoff s) :=
  raiseNotice_capacities _ _ _ _ <| enterCalled_capacities _ _ <| h.updDoff rfl

theorem toPhase_capacities {s : State} (ph : DoffPhase) (h : capacitiesSound s) : capacitiesSound (toPhase ph s) :=
  capacitiesSound.ite h (enterPhase_capacities ph h)

theorem applyTable_capacities {s : State} (h : capacitiesSound s) : capacitiesSound (applyTable s) := by
  rw [applyTable_eq]
  refine (forceDoff_capacities h).ite (capacitiesSound.ite (capacitiesSound.ite ?_ ?_) (capacitiesSound.ite ?_ ?_))
  · exact toPhase_capacities _ (h.updDoff rfl)
  · exact enterCalled_capacities _ _ h
  · exact toPhase_capacities _ h
  · exact toPhase_capacities _ (h.updDoff rfl)

theorem followProgress_capacities {s : State} (h : capacitiesSound s) : capacitiesSound (followProgress s) := by
  unfold followProgress; split
  · exact applyTable_capacities h
  · exact applyTable_capacities h
  · exact h

theorem testWindow_capacities {s : State} (h : capacitiesSound s) : capacitiesSound (testWindow s) := by
  unfold testWindow; split
  · exact (applyTable_capacities h).ite h
  · exact h

theorem doffPoints_capacities {s : State} (h : capacitiesSound s) : capacitiesSound (doffPoints s) := by
  unfold doffPoints; split
  · exact testWindow_capacities h
  · exact followProgress_capacities h

/-! ## Carriages (chapter 4) -/

theorem heard_capacities {s : State} (station : Nat) (h : capacitiesSound s) : capacitiesSound (heard station s) := by
  unfold heard; split
  · exact h
  · exact h.updCarriage _ _

theorem discardCarriage_capacities {s : State} (h : capacitiesSound s) : capacitiesSound (discardCarriage s) := h

theorem updPiecing_capacities {s : State} (f : PiecingCounts → PiecingCounts) (h : capacitiesSound s) :
    capacitiesSound (updPiecing f s) := h

theorem dropOrder_capacities {s : State} (o : Option Order) (h : capacitiesSound s) : capacitiesSound (dropOrder o s) := by
  unfold dropOrder; split
  · exact h
  · exact releaseLock_capacities _ (returnToBroken_capacities _ _ h)

theorem makeAbsent_capacities {s : State} (r : RecordNo) (lost : Bool) (h : capacitiesSound s) :
    capacitiesSound (makeAbsent r lost s) := by
  have h1 := h.updCarriage r Carriage.absented
  unfold makeAbsent; dsimp only
  refine testClear_capacities (dropOrder_capacities _ ?_)
  split
  · exact (raiseFault_capacities _ _ _ h1).ite h1
  · exact h1

theorem rejectEnrolment_capacities {s : State} (r : RecordNo) (st : Station) (side : Side) (reason : RefuseReason)
    (h : capacitiesSound s) : capacitiesSound (rejectEnrolment r st side reason s) :=
  testClear_capacities <| raiseFault_capacities _ _ _ <|
    capacitiesSound.updCarriage (capacitiesSound.updCarriage (emit_capacities _ h) r _) r _

theorem acceptEnrolment_capacities {s : State} (r : RecordNo) (st : Station) (side : Side) (w : CarriageWork)
    (h : capacitiesSound s) : capacitiesSound (acceptEnrolment r st side w s) := by
  unfold acceptEnrolment; dsimp only
  refine testClear_capacities <| dispatch_capacities r <| raiseNotice_capacities _ _ _ _ <|
    capacitiesSound.updCarriage (capacitiesSound.updCarriage ?_ r _) r _
  exact capacitiesSound.ite (emit_capacities _ h) (emit_capacities _ (emit_capacities _ h))

theorem enrol_capacities {s : State} (r : RecordNo) (st : Station) (side : Side) (h : capacitiesSound s) :
    capacitiesSound (enrol r st side s) := by
  unfold enrol
  refine (rejectEnrolment_capacities _ _ _ _ h).ite <| (rejectEnrolment_capacities _ _ _ _ h).ite <|
    (rejectEnrolment_capacities _ _ _ _ h).ite ?_
  split
  · exact capacitiesSound.updCarriage (emit_capacities _ h) r _
  all_goals exact acceptEnrolment_capacities _ _ _ _ h

theorem enrolStation_capacities {s : State} (st : Station) (side : Side) (h : capacitiesSound s) :
    capacitiesSound (enrolStation st side s) := by
  unfold enrolStation; split
  · exact (enrol_capacities _ _ _ (makeAbsent_capacities _ _ h)).ite (enrol_capacities _ _ _ h)
  · split
    · exact enrol_capacities _ _ _ h
    · exact raiseFault_capacities _ _ _ (emit_capacities _ h)

theorem completeOrder_capacities {s : State} (r : RecordNo) (o : Order) (h : capacitiesSound s) :
    capacitiesSound (completeOrder r o s) := by
  have h1 (f : Carriage → Carriage) := h.updCarriage r f
  exact testClear_capacities <|
    (dispatchAmong_capacities _ _ _ (h1 _)).ite (dispatch_capacities _ (releaseLock_capacities _ (h1 _)))

theorem settleOutcome_capacities {s : State} (r : RecordNo) (o : Order) (x : OrderOutcome) (h : capacitiesSound s) :
    capacitiesSound (settleOutcome r o x s) := by
  have tried (failed : Bool) : capacitiesSound (updSpindle o.spindle (fun x => x.tried failed) s) :=
    h.updSpindle _ fun _ => tried_countsOk failed
  cases x with
  | pieced => exact updPiecing_capacities _ (capacitiesSound.updCarriage (pieceDone_capacities _ (tried false)) r _)
  | failed => exact updPiecing_capacities _ (capacitiesSound.updCarriage (returnToBroken_capacities _ _ (tried true)) r _)
  | notReached => exact updPiecing_capacities _ (capacitiesSound.updCarriage (returnToBroken_capacities _ _ h) r _)
  | cancelled => exact updPiecing_capacities _ (returnToBroken_capacities _ _ h)

theorem handleResult_capacities {s : State} (r : RecordNo) (o : Order) (x : OrderOutcome) (h : capacitiesSound s) :
    capacitiesSound (handleResult r o x s) := completeOrder_capacities _ _ (settleOutcome_capacities _ _ _ h)

theorem reachPark_capacities {s : State} (r : RecordNo) (h : capacitiesSound s) : capacitiesSound (reachPark r s) :=
  testClear_capacities (h.updCarriage r _)

theorem leaveSuspect_capacities {s : State} (r : RecordNo) (h : capacitiesSound s) : capacitiesSound (leaveSuspect r s) := by
  unfold leaveSuspect; split
  · exact dispatch_capacities _ (h.updCarriage r _)
  · exact h

theorem timeOutOrder_capacities {s : State} (r : RecordNo) (st : Station) (side : Side) (o : Order) (h : capacitiesSound s) :
    capacitiesSound (timeOutOrder r st side o s) := by
  unfold timeOutOrder; dsimp only
  refine testClear_capacities <| emit_capacities _ <| capacitiesSound.updCarriage (releaseLock_capacities _ <|
    returnToBroken_capacities _ _ <| updPiecing_capacities _ ?_) r _
  exact capacitiesSound.updCarriage (raiseFault_capacities _ _ _ h) r _

theorem fromStation_capacities {s : State} (station : Nat) {act : RecordNo → State → State}
    (hact : ∀ r t, capacitiesSound t → capacitiesSound (act r t)) (h : capacitiesSound s) :
    capacitiesSound (fromStation station act s) := by
  unfold fromStation; split
  · exact h
  · exact hact _ _ (h.updCarriage _ _)

theorem takeAbility_capacities {s : State} (station : Nat) (side : Side) (a : AbilitySet) (revision : Nat) (h : capacitiesSound s) :
    capacitiesSound (takeAbility station side a revision s) :=
  (enrolStation_capacities _ _ (heard_capacities _ h)).ite (discardCarriage_capacities (heard_capacities _ h))

theorem takePosition_capacities {s : State} (n : Nat) (dir : Direction) (r : RecordNo) (h : capacitiesSound s) :
    capacitiesSound (takePosition n dir r s) := by
  unfold takePosition; split
  · exact (leaveSuspect_capacities r (h.updCarriage r _)).ite (discardCarriage_capacities h)
  · exact h

theorem staleTag_capacities {s : State} (tag : Nat) (r : RecordNo) (h : capacitiesSound s) : capacitiesSound (staleTag tag r s) :=
  (h.updCarriage r fun c => { c with counters := { c.counters with late := satAdd Config.top32 c.counters.late 1 } }).ite
    (discardCarriage_capacities h)

theorem arriveAt_capacities {s : State} (r : RecordNo) (o : Order) (h : capacitiesSound s) : capacitiesSound (arriveAt r o s) :=
  capacitiesSound.ite h ((h.updCarriage r _).updSpindle _ fun _ k => k)

theorem takeArrived_capacities {s : State} (tag : Nat) (r : RecordNo) (h : capacitiesSound s) :
    capacitiesSound (takeArrived tag r s) := by
  unfold takeArrived; split
  · exact (arriveAt_capacities r _ h).ite (staleTag_capacities tag r h)
  · exact staleTag_capacities tag r h
  · exact h

theorem takeResult_capacities {s : State} (tag : Nat) (x : OrderOutcome) (r : RecordNo) (h : capacitiesSound s) :
    capacitiesSound (takeResult tag x r s) := by
  unfold takeResult; split
  · exact (handleResult_capacities r _ x h).ite (staleTag_capacities tag r h)
  · exact staleTag_capacities tag r h
  · exact h

theorem takeParked_capacities {s : State} (r : RecordNo) (h : capacitiesSound s) : capacitiesSound (takeParked r s) := by
  unfold takeParked; split
  · exact reachPark_capacities r h
  · exact (reachPark_capacities r (handleResult_capacities r _ _ h)).ite (discardCarriage_capacities h)
  · exact h
  · exact h

theorem takeStatus_capacities {s : State} (r : RecordNo) (h : capacitiesSound s) : capacitiesSound (takeStatus r s) := by
  unfold takeStatus; split
  · exact leaveSuspect_capacities r h
  · exact h

theorem takeDiscard_capacities {s : State} (cause : LinkDiscard) (h : capacitiesSound s) : capacitiesSound (takeDiscard cause s) := by
  cases cause with
  | badCheck => exact h
  | unknownKind => exact discardCarriage_capacities (heard_capacities _ h)
  | badField => exact discardCarriage_capacities (heard_capacities _ h)

theorem orderExpiry_capacities {s : State} (r : RecordNo) (h : capacitiesSound s) : capacitiesSound (orderExpiry r s) := by
  unfold orderExpiry; split
  · exact (timeOutOrder_capacities r _ _ _ h).ite h
  · exact h

theorem linkLossExpiry_capacities {s : State} (r : RecordNo) (h : capacitiesSound s) : capacitiesSound (linkLossExpiry r s) :=
  (makeAbsent_capacities r true h).ite h

theorem parkExpiry_capacities {s : State} (r : RecordNo) (h : capacitiesSound s) : capacitiesSound (parkExpiry r s) := by
  unfold parkExpiry; split
  · exact (raiseFault_capacities _ _ _ (h.updCarriage r _)).ite h
  · exact h

/-! ## The store (R167, R184, R185) -/

theorem ringOk_none : ringOk none := fun _ h => nomatch h

theorem storeRingsOk_setCopy {st : Store} {image : Option Image} (c : CopyNo) (h : storeRingsOk st) (hi : ringOk image) :
    storeRingsOk (st.setCopy c image) := by
  obtain ⟨h1, h2, h3⟩ := h
  cases c
  · exact ⟨hi, h2, h3⟩
  · exact ⟨h1, hi, h3⟩

theorem storeRingsOk_idle {st : Store} (b : Bool) (h : storeRingsOk st) : storeRingsOk { st with writer := .idle, rewrite := b } := by
  obtain ⟨h1, h2, _⟩ := h; exact ⟨h1, h2, ringOk_none⟩

/-- R184: an image written holds the ring as it stands. -/
theorem beginWrite_capacities {s : State} (h : capacitiesSound s) : capacitiesSound (beginWrite s) := by
  obtain ⟨h1, h2, _⟩ := h.store
  exact h.setStore ⟨h1, h2, fun x hx => by cases hx; exact h.closed⟩

theorem askWrite_capacities {s : State} (h : capacitiesSound s) : capacitiesSound (askWrite s) := by
  unfold askWrite; split
  · exact beginWrite_capacities h
  · exact h.setStore (st := { s.store with rewrite := true }) h.store

theorem afterWrite_capacities {s : State} (h : capacitiesSound s) : capacitiesSound (afterWrite s) := by
  refine capacitiesSound.ite (beginWrite_capacities (h.setStore (st := { s.store with rewrite := false }) h.store)) ?_
  exact h.setStore (storeRingsOk_idle s.store.rewrite h.store)

theorem writeDone_capacities {s : State} (h : capacitiesSound s) : capacitiesSound (writeDone s) := by
  unfold writeDone; split
  · exact h
  · rename_i c image hw
    obtain ⟨_, _, h3⟩ := h.store
    exact afterWrite_capacities (h.setStore (storeRingsOk_setCopy c h.store fun x hx => h3 x (by rw [hw]; exact hx)))

theorem writeFailed_capacities {s : State} (h : capacitiesSound s) : capacitiesSound (writeFailed s) := by
  unfold writeFailed; split
  · exact h
  · exact afterWrite_capacities (raiseFault_capacities _ _ _ (h.setStore (storeRingsOk_setCopy _ h.store ringOk_none)))

/-! ## Shifts and doffs (chapters 7 and 8) -/

theorem mapSpindles_capacities {s : State} (f : Spindle → Spindle) (hf : ∀ sp, spindleCountsOk sp → spindleCountsOk (f sp))
    (h : capacitiesSound s) : capacitiesSound { s with spindles := s.spindles.map f } := by
  refine h.setSpindles fun sp hsp => ?_
  obtain ⟨x, hx, rfl⟩ := List.mem_map.1 hsp
  exact hf x (h.counts x hx)

/-- R166: a shift opens with one segment. -/
theorem openShift_capacities {s : State} (number : Nat) (h : capacitiesSound s) : capacitiesSound (openShift number s) :=
  mapSpindles_capacities Spindle.newShift (fun _ k => k)
    (h.setShift (sh := freshShift number s.delivery.mill s.delivery.now false (!s.delivery.clockSet) s.doff.lot) (by decide : 1 ≤ 4))

theorem closeShiftNow_capacities {s : State} (h : capacitiesSound s) : capacitiesSound (closeShiftNow s) := by
  refine raiseNotice_capacities _ _ _ _ <| askWrite_capacities <| openShift_capacities _ ?_
  exact (settleAll_capacities h).setRing (List.length_take_le _ _)

/-- R159: a lot is applied where a segment is left for it. -/
theorem lotAtDoff_capacities {s : State} (h : capacitiesSound s) : capacitiesSound (lotAtDoff s).2 := by
  unfold lotAtDoff; split
  · exact h
  · split
    · rename_i lot _ hlt
      have hseg : (settleAll s).shift.segments.length = s.shift.segments.length := (settleEach_doffCounts (allSpindles s) s).segments
      have hs := settleAll_capacities h
      have h1 := hs.setShift
        (sh := { (settleAll s).shift with
          segments := (settleAll s).shift.segments ++ [{ lot := lot.number, t := lot.t, pulses := 0 }] })
        (by rw [List.length_append, hseg]; exact hlt)
      have h2 := h1.setDoff (d := { (settleAll s).doff with lot := lot, pendingLot := none }) hs.log
      exact askWrite_capacities ((evaluateGroups_onlyPlanner _ _).capacities h2)
    · exact h

theorem resumeRecord_capacities {s : State} (r : RecordNo) (h : capacitiesSound s) : capacitiesSound (resumeRecord r s) := by
  unfold resumeRecord; split
  · exact capacitiesSound.updCarriage (emit_capacities _ h) r _
  · exact h

theorem completeDoff_capacities {s : State} (r : DoffRecord) (h : capacitiesSound s) : capacitiesSound (completeDoff r s) := by
  have hc : capacitiesSound (countDoff r s) := h
  unfold completeDoff; dsimp only
  refine raiseNotice_capacities _ _ _ _ <| testWindow_capacities <| enterPhase_capacities _ <| resumeRecord_capacities _ <|
    resumeRecord_capacities _ <| capacitiesSound.setDoff (lotAtDoff_capacities ?_) (List.length_take_le _ _)
  exact (mapSpindles_capacities Spindle.emptied (fun _ k => k) (settleAll_capacities hc)).updDoff rfl

theorem doffPulse_capacities {s : State} (h : capacitiesSound s) : capacitiesSound (doffPulse s) := by
  unfold doffPulse; split
  · exact completeDoff_capacities _ h
  · exact raiseFault_capacities _ _ _ h

theorem dofferRise_capacities {s : State} (h : capacitiesSound s) : capacitiesSound (dofferRise s) := by
  have h1 : capacitiesSound (updDoff (fun d => { d with dofferActive := true }) s) := h.updDoff rfl
  unfold dofferRise; dsimp only; split
  · exact h1
  · exact raiseFault_capacities _ _ _ h1

theorem setProgress_capacities {s : State} (percent : Nat) (h : capacitiesSound s) : capacitiesSound (setProgress percent s) := by
  unfold setProgress; dsimp only
  have h3 := mapSpindles_capacities
    (fun sp => sp.capped (doffProgress (settleAll (updDoff (fun d => { d with phiD := s.delivery.phi - d.dPulses * percent / 100 }) s))))
    (fun _ k => k)
    (settleAll_capacities (h.updDoff (f := fun d => { d with phiD := s.delivery.phi - d.dPulses * percent / 100 }) rfl))
  exact followProgress_capacities (capacitiesSound.ite (h3.updDoff rfl) h3)

end Sys2Proof.Machine

/-! # Nothing outgrows its place: Restart, the line, the requests, and every step -/

namespace Sys2Proof.Machine

open Sys2Proof

/-! ## Restart (R207) -/

theorem refuseAtRestart_capacities {s : State} (r : RecordNo) (h : capacitiesSound s) : capacitiesSound (refuseAtRestart r s) := by
  unfold refuseAtRestart; split
  · exact h
  · exact capacitiesSound.updCarriage (emit_capacities _ h) r _

theorem releaseAtRestart_capacities {s : State} (h : capacitiesSound s) : capacitiesSound (releaseAtRestart s) := by
  have h1 : capacitiesSound { s with locks := s.locks.map Lock.restarted } := h
  exact ((plannerGranted_onlyPlanner _).capacities h1).ite h1

theorem rebuildSpindles_capacities {s : State} (h : capacitiesSound s) : capacitiesSound (rebuildSpindles s) := by
  refine h.setSpindles fun sp hsp => ?_
  obtain ⟨⟨x, i⟩, _, rfl⟩ := List.mem_map.1 hsp
  exact ⟨Nat.zero_le _, Nat.zero_le _, Nat.zero_le _, Nat.zero_le _⟩

/-- R71: the lists are empty at Restart. -/
theorem resetSensing_capacities {s : State} (h : capacitiesSound s) : capacitiesSound (resetSensing s) := by
  obtain ⟨_, _, h3, h4, h5, h6, h7, h8, h9, h10, h11, _⟩ := h
  exact ⟨Nat.zero_le _, Nat.zero_le _, h3, h4, h5, h6, h7, h8, h9, h10, h11, fun _ he => (nomatch he), fun _ he => (nomatch he)⟩

theorem countRestart_capacities {s : State} (h : capacitiesSound s) : capacitiesSound (countRestart s) := h

theorem doffAtRestart_capacities {s : State} (h : capacitiesSound s) : capacitiesSound (doffAtRestart s) := by
  unfold doffAtRestart; split
  · exact capacitiesSound.ite h (enterParking_capacities _ h)
  · exact testClear_capacities h
  · exact h

theorem makeRestart_capacities {s : State} (h : capacitiesSound s) : capacitiesSound (makeRestart s) :=
  doffAtRestart_capacities <| countRestart_capacities <| (rebuildPoints_onlyPlanner _).capacities <| resetSensing_capacities <|
    rebuildSpindles_capacities <| releaseAtRestart_capacities <| refuseAtRestart_capacities _ <| refuseAtRestart_capacities _ <|
      settleAll_capacities h

/-! ## The line (chapter 11) -/

theorem updLine_capacities {s : State} (f : Line → Line) (h : capacitiesSound s) : capacitiesSound (updLine f s) := h

theorem restartOf_capacities {s : State} (effect : ReplyEffect) (h : capacitiesSound s) : capacitiesSound (restartOf effect s) := by
  unfold restartOf; split
  · exact makeRestart_capacities h
  · exact h

/-- R198: marking and unmarking removes no notice and adds none. -/
theorem unmarkNotices_capacities {s : State} (h : capacitiesSound s) : capacitiesSound (unmarkNotices s) :=
  h.setNotices ((List.length_map _).trans_le h.queue)

theorem withholdReply_capacities {s : State} (h : capacitiesSound s) : capacitiesSound (withholdReply s) := by
  unfold withholdReply; split
  · exact h
  · exact restartOf_capacities _ (updLine_capacities _ (unmarkNotices_capacities h))

theorem receive_capacities {s : State} {act : State → State} (hact : ∀ t, capacitiesSound t → capacitiesSound (act t))
    (h : capacitiesSound s) : capacitiesSound (receive act s) := (hact _ (withholdReply_capacities h)).ite h

theorem takeRequest_capacities {s : State} (kind : Nat) (lengthOk : Bool) {answer : State → Answer}
    (ha : ∀ t, capacitiesSound t → capacitiesSound (answer t).state) (h : capacitiesSound s) :
    capacitiesSound (takeRequest kind lengthOk answer s) :=
  receive_capacities (fun t ht => (updLine_capacities _ ht).ite
    ((updLine_capacities _ (ha t ht)).ite (updLine_capacities _ (updLine_capacities _ ht)))) h

/-- A request that its block answers without a change. -/
theorem takeReading_capacities {s : State} (kind : Nat) (lengthOk : Bool) {answer : State → Answer} (ha : ∀ t, (answer t).state = t)
    (h : capacitiesSound s) : capacitiesSound (takeRequest kind lengthOk answer s) :=
  takeRequest_capacities kind lengthOk (fun t ht => by rw [ha]; exact ht) h

theorem takeBroadcast_capacities {s : State} (lengthOk : Bool) {act : State → State}
    (ha : ∀ t, capacitiesSound t → capacitiesSound (act t)) (h : capacitiesSound s) :
    capacitiesSound (takeBroadcast lengthOk act s) :=
  receive_capacities (fun t ht => updLine_capacities _ ((ha t ht).ite (updLine_capacities _ ht))) h

theorem applySending_capacities {s : State} (effect : ReplyEffect) (h : capacitiesSound s) :
    capacitiesSound (applySending effect s) := by
  cases effect with
  | none => exact h
  | fetch => exact h.setNotices ((List.length_filter_le _ _).trans h.queue)
  | latches r => exact h.setNotices h.queue
  | cursor next => exact updLine_capacities _ h
  | restart => exact h

theorem sendReply_capacities {s : State} (h : capacitiesSound s) : capacitiesSound (sendReply s) := by
  unfold sendReply; split
  · exact (updLine_capacities _ (applySending_capacities _ (emit_capacities _ h))).ite h
  · exact h

theorem finishReply_capacities {s : State} (h : capacitiesSound s) : capacitiesSound (finishReply s) := by
  unfold finishReply; split
  · unfold endReply; dsimp only; split
    · exact updLine_capacities _ h
    · exact restartOf_capacities _ (updLine_capacities _ h)
  · exact h

theorem endResync_capacities {s : State} (h : capacitiesSound s) : capacitiesSound (endResync s) := by
  unfold endResync; split
  · exact updLine_capacities _ h
  · exact h

theorem takeUnknown_capacities {s : State} (kind : Byte) (h : capacitiesSound s) : capacitiesSound (takeUnknown kind s) :=
  (updLine_capacities _ h).ite (updLine_capacities _ (updLine_capacities _ h))

/-! ## Requests -/

/-- R60: an entry displaced leaves a place in its list. -/
theorem displaceEntry_room {s : State} {side : Side} {e : Entry} (h : capacitiesSound s) (he : e ∈ pieceList s side) :
    (pieceList (displaceEntry e s) side).length < 96 := by
  have hl : pieceList (displaceEntry e s) side = (pieceList s side).filter fun x => x.spindle != e.spindle := by
    have hd : pieceList (dropFromList e.spindle s) side = (pieceList s side).filter fun x => x.spindle != e.spindle := by
      rw [dropFromList, pieceList_setPieceList, h.entries side e he, if_pos rfl]
    rw [← hd]; cases side <;> rfl
  rw [hl]
  refine Nat.lt_of_lt_of_le ?_ (h.list side)
  exact List.length_filter_lt_length_iff_exists.2 ⟨e, he, by simp⟩

theorem displaceEntry_capacities {s : State} (e : Entry) (h : capacitiesSound s) : capacitiesSound (displaceEntry e s) :=
  unlisted_capacities _ true (dropFromList_capacities _ h)

theorem sideOf_displaceEntry (e : Entry) (n : Nat) (s : State) : sideOf (displaceEntry e s) n = sideOf s n := by
  unfold displaceEntry dropFromList sideOf sideOfSector; simp

theorem answerPiece_capacities {s : State} (n : Nat) (h : capacitiesSound s) : capacitiesSound (answerPiece n s).state := by
  unfold answerPiece; split
  · split
    · exact h
    · unfold pieceBroken; split
      · refine h.setPieceList _ ((List.length_map _).trans_le (h.list _)) fun e he => ?_
        obtain ⟨x, hx, rfl⟩ := List.mem_map.1 he
        have := h.entries _ x hx
        split
        · exact this
        · exact this
      · split
        · rename_i e he
          refine makeEntry_capacities n true ?_ (displaceEntry_capacities e h)
          rw [sideOf_displaceEntry]
          exact displaceEntry_room h (List.mem_of_mem_filter (pick_mem he))
        · exact h
    · exact h
  · exact h

theorem answerLock_capacities {s : State} (n : Nat) (h : capacitiesSound s) : capacitiesSound (answerLock n s).state := by
  unfold answerLock; split
  · split
    · exact h
    · exact h
    · exact h.updSpindle n fun _ k => k
    · exact leaveList_capacities n _ h
  · exact h

/-- R67: a pardon clears the ring and the tries. -/
theorem pardoned_countsOk {sp : Spindle} (h : spindleCountsOk sp) : spindleCountsOk sp.pardoned := by
  obtain ⟨h1, _⟩ := h
  exact ⟨h1, Nat.zero_le _, Nat.zero_le _, Nat.zero_le _⟩

theorem answerRelease_capacities {s : State} (n : Nat) (h : capacitiesSound s) : capacitiesSound (answerRelease n s).state := by
  unfold answerRelease; split
  · split
    · exact h
    · exact takeIn_capacities n _ (changeState_capacities n _ (h.updSpindle n fun _ => pardoned_countsOk))
    · exact h
  · exact h

theorem answerCall_capacities {s : State} (g : Nat) (h : capacitiesSound s) : capacitiesSound (answerCall g s).state := by
  rw [answerCall_eq]
  split
  · exact h
  · split
    · exact h
    · split
      · exact h
      · exact (listGroup_onlyPlanner g .urgent .request s).capacities h

theorem declaredGroup_capacities {s : State} (g used : Nat) (h : capacitiesSound s) :
    capacitiesSound (declaredGroup g used s) := by
  unfold declaredGroup
  refine (settleEach_capacities _ h).foldl (fun t n k => ?_) _
  exact k.updSpindle n fun _ c => c

theorem answerDeclare_capacities {s : State} (g e : Nat) (h : capacitiesSound s) : capacitiesSound (answerDeclare g e s).state := by
  rw [answerDeclare_eq]
  split
  · exact h
  · split
    · exact h
    · rw [taken_state, declareGroup_eq]
      exact (evaluateGroup_onlyPlanner g _).capacities (declaredGroup_capacities g _ h)

theorem answerHold_capacities {s : State} (h : capacitiesSound s) : capacitiesSound (answerHold s).state := by
  unfold answerHold; split
  · exact h
  · exact h.updDoff rfl

theorem answerResume_capacities {s : State} (h : capacitiesSound s) : capacitiesSound (answerResume s).state := by
  unfold answerResume; split
  · exact h
  · exact capacitiesSound.ite (followProgress_capacities (h.updDoff rfl)) h

theorem answerDoffNow_capacities {s : State} (h : capacitiesSound s) : capacitiesSound (answerDoffNow s).state := by
  unfold answerDoffNow; split
  · exact enterCalled_capacities _ _ h
  · exact enterCalled_capacities _ _ h
  · exact h
  · exact h

theorem answerProgress_capacities {s : State} (percent : Nat) (h : capacitiesSound s) :
    capacitiesSound (answerProgress percent s).state := by
  unfold answerProgress; split
  · exact h
  · split
    · exact setProgress_capacities _ h
    · exact setProgress_capacities _ h
    · exact h

theorem answerReleaseCarriage_capacities {s : State} (code : Nat) (h : capacitiesSound s) :
    capacitiesSound (answerReleaseCarriage code s).state := by
  unfold answerReleaseCarriage; split
  · exact h
  · unfold taken releaseRecord; dsimp only; split
    · exact h
    · exact makeAbsent_capacities _ _ (emit_capacities _ h)

theorem answerClear_capacities {s : State} (set : Nat) (h : capacitiesSound s) : capacitiesSound (answerClear set s).state := by
  unfold answerClear; split
  · exact h
  · exact h

theorem storeItems_capacities {s : State} (retained : Bool) (items : List (Nat × Nat)) (h : capacitiesSound s) :
    capacitiesSound (storeItems retained items s) := by
  cases retained
  · exact h
  · exact beginWrite_capacities (s := { s with settings := _ }) h

theorem actOnWrite_capacities {s : State} (items : List (Nat × Nat)) (h : capacitiesSound s) :
    capacitiesSound (actOnWrite items s) := by
  have h1 : capacitiesSound (if names items [33, 34] then workOutAlarm s else s) :=
    (show capacitiesSound (workOutAlarm s) from h).ite h
  have h2 := ((evaluateGroups_onlyPlanner
    (allGroups (if names items [33, 34] then workOutAlarm s else s)) _).capacities h1).ite (p := names items [12, 13] = true) h1
  exact (followProgress_capacities (h2.updDoff rfl)).ite h2

theorem answerSettings_capacities {s : State} (target : Nat) (items : List (Nat × Nat)) (h : capacitiesSound s) :
    capacitiesSound (answerSettings target items s).state := by
  unfold answerSettings; split
  · exact h
  · split
    · exact h
    · split
      · exact h
      · exact actOnWrite_capacities _ (storeItems_capacities _ _ h)

theorem withholdSpindle_capacities {s : State} (n : Nat) (h : capacitiesSound s) : capacitiesSound (withholdSpindle n s) := by
  unfold withholdSpindle; split
  · exact h.updSpindle n fun _ k => k
  · exact changeState_capacities n _ (dropFromList_capacities n h)

theorem unwithholdSpindle_capacities {s : State} (n : Nat) (h : capacitiesSound s) : capacitiesSound (unwithholdSpindle n s) := by
  unfold unwithholdSpindle; split
  · exact changeState_capacities n _ h
  · exact h.updSpindle n fun _ k => k
  · exact h

theorem changeZone_capacities {s : State} (entered left : List Nat) (h : capacitiesSound s) :
    capacitiesSound (changeZone entered left s) :=
  capacitiesSound.foldl (fun _ n => unwithholdSpindle_capacities n) _
    (h.foldl (fun _ n => withholdSpindle_capacities n) (entered.flatMap spindlesOfSector))

/-- R175: the withheld set names sectors, counted from 1. -/
theorem one_le_of_mem_withheldSet {z : ZoneRecords} {sides sectors k : Nat} (h : k ∈ withheldSet z sides sectors) : 1 ≤ k := by
  have hs (side : Side) (hk : k ∈ withheldOfSide z sectors side) : 1 ≤ k := by
    obtain ⟨i, hi, rfl⟩ := List.mem_map.1 hk
    have h1 := (List.mem_range'_1.1 (List.mem_of_mem_filter hi)).1
    exact h1.trans (Nat.le_add_left _ _)
  rcases List.mem_append.1 h with ha | hb
  · exact hs .a ha
  · split at hb
    · exact hs .b hb
    · exact nomatch hb

theorem writeZone_capacities {s : State} (side : Side) (record : RecordNo) (z : Zone) (h : capacitiesSound s) :
    capacitiesSound (writeZone side record z s) := by
  unfold writeZone; dsimp only
  have h0 := h.setZones (z :=
    { records := s.zones.records.set side record z
      withheld := withheldSet (s.zones.records.set side record z) s.delivery.sides s.delivery.sectors })
    fun k hk => one_le_of_mem_withheldSet hk
  have h1 (entered left : List Nat) := refill_capacities side (changeZone_capacities entered left h0)
  have h2 (entered left gs : List Nat) := (h1 entered left).foldl (fun _ g => tellPlanner_capacities g) gs
  exact askWrite_capacities ((attemptSide_capacities side (h2 _ _ _)).ite (h2 _ _ _))

theorem answerZone_capacities {s : State} (a b c d e f : Nat) (h : capacitiesSound s) :
    capacitiesSound (answerZone a b c d e f s).state := by
  unfold answerZone; split
  · split
    · exact h
    · exact writeZone_capacities _ _ _ h
  · exact h

theorem length_markFetched : ∀ (l : List Notice) (c w i : Nat), (markFetched c w i l).length = l.length
  | [], _, _, _ => rfl
  | n :: l, c, w, i => by
    have ih := length_markFetched l
    rw [markFetched.eq_def]
    dsimp only
    split <;> split <;> simp only [List.length_cons, ih]

theorem length_markFirst (k : Nat) (l : List Notice) : (markFirst k l).length = l.length := length_markFetched l _ _ _

theorem answerFetch_capacities {s : State} (limit : Nat) (h : capacitiesSound s) : capacitiesSound (answerFetch limit s).state := by
  unfold answerFetch; split
  · exact h
  · exact h.setNotices ((length_markFirst _ _).trans_le h.queue)

/-! ## Clocks, odometer and drive (chapter 1) -/

theorem updDelivery_capacities {s : State} (f : Delivery → Delivery) (hf : (f s.delivery).sectors = s.delivery.sectors)
    (h : capacitiesSound s) : capacitiesSound (updDelivery f s) := by
  obtain ⟨h1, h2, h3, h4, h5, h6, h7, h8, h9, h10, h11, ha, hb⟩ := h
  refine ⟨h1, h2, h3, h4, h5, h6, h7, h8, h9, h10, h11, ?_, ?_⟩
  · simpa only [sideOf, sideOfSector, updDelivery, hf] using ha
  · simpa only [sideOf, sideOfSector, updDelivery, hf] using hb

theorem pulseSeen_capacities {s : State} (h : capacitiesSound s) : capacitiesSound (pulseSeen s) := by
  rw [pulseSeen]
  have h1 := updDelivery_capacities
    (fun dl => { dl with pulseLost := false, pulseTimer := some (dl.now + s.settings.working.pulseLossTime) }) rfl h
  exact capacitiesSound.ite (capacitiesSound.ite (raiseNotice_capacities _ _ _ _ h1) h1) h

theorem rollerPulse_capacities {s : State} (h : capacitiesSound s) : capacitiesSound (rollerPulse s) :=
  (reachPoints_onlyPlanner _).capacities <| doffPoints_capacities <| pulseSeen_capacities <| updDelivery_capacities _ rfl h

theorem startSpindle_capacities {s : State} (n : Nat) (h : capacitiesSound s) : capacitiesSound (startSpindle n s) := by
  unfold startSpindle; split
  · exact enterState_capacities n _ h
  · exact h

theorem stopSpindle_capacities {s : State} (n : Nat) (h : capacitiesSound s) : capacitiesSound (stopSpindle n s) := by
  unfold stopSpindle; split
  · exact enterState_capacities n _ h
  · exact enterState_capacities n _ h
  · exact h

theorem assertDrive_capacities {s : State} (h : capacitiesSound s) : capacitiesSound (assertDrive s) := h

theorem dropDrive_capacities {s : State} (h : capacitiesSound s) : capacitiesSound (dropDrive s) := h

theorem driveRise_capacities {s : State} (h : capacitiesSound s) : capacitiesSound (driveRise s) :=
  attemptBoth_capacities <| capacitiesSound.foldl (fun _ n => startSpindle_capacities n) _ <|
    assertDrive_capacities (settleAll_capacities h)

theorem driveFall_capacities {s : State} (h : capacitiesSound s) : capacitiesSound (driveFall s) := by
  have h1 := (dropDrive_capacities (settleAll_capacities h)).foldl (fun _ n => stopSpindle_capacities n)
    (allSpindles (dropDrive (settleAll s)))
  rw [driveFall, doffAtFall]; split
  · exact enterParking_capacities _ h1
  · exact h1

theorem losePulses_capacities {s : State} (h : capacitiesSound s) : capacitiesSound (losePulses s) :=
  (raiseFault_capacities _ _ _ (updDelivery_capacities (fun dl => { dl with pulseLost := true, pulseTimer := none }) rfl h)).ite h

/-! ## Every command -/

theorem live_capacities {act : State → State} (hact : ∀ t, capacitiesSound t → capacitiesSound (act t)) {s t : State}
    (h : live act s = .next t) (hs : capacitiesSound s) : capacitiesSound t := by
  rw [live_next h]
  exact (hact _ (show capacitiesSound { s with emitted := [] } from hs)).ite hs

theorem exec_capacities (c : Instr) (s t : State) (hon : ∀ a v d f, c ≠ .powerOnReset a v d f) (hoff : c ≠ .powerLoss)
    (hs : capacitiesSound s) (h : exec c s = .next t) : capacitiesSound t := by
  cases c
  case powerOnReset a v d f => exact absurd rfl (hon a v d f)
  case powerLoss => exact absurd rfl hoff
  case runSecond => exact live_capacities (fun _ => updDelivery_capacities Delivery.second rfl) h hs
  case frontRollerPulse => exact live_capacities (fun _ => rollerPulse_capacities) h hs
  case driveRunningRise =>
    exact live_capacities (act := fun t => if t.delivery.driving then t else driveRise t)
      (fun _ k => capacitiesSound.ite k (driveRise_capacities k)) h hs
  case driveRunningFall =>
    exact live_capacities (act := fun t => if t.delivery.driving then driveFall t else t)
      (fun _ k => (driveFall_capacities k).ite k) h hs
  case pulseLoss => exact live_capacities (fun _ => losePulses_capacities) h hs
  case headPoll side => exact live_capacities (fun _ => pollHead_capacities side) h hs
  case pollAnswer side checkOk headOk present =>
    refine live_capacities (act := finishPoll side fun h =>
      if checkOk && headOk then validAnswer side h present else missPoll side h)
      (fun _ => finishPoll_capacities side fun n t k => ?_) h hs
    split
    · exact validAnswer_capacities side n present k
    · exact missPoll_capacities side n k
  case answerWaitExpiry side =>
    exact live_capacities (fun _ => finishPoll_capacities side fun n _ => missPoll_capacities side n) h hs
  case drowseDelayExpiry => exact live_capacities (fun _ => drowseExpiry_capacities) h hs
  case sleepPoll side => exact live_capacities (fun _ => sleepPoll_capacities side) h hs
  case settleLimitReached n => exact live_capacities (fun _ => settleLimit_capacities n) h hs
  case lampHoldExpiry n => exact live_capacities (fun _ => lampExpiry_capacities n) h hs
  case ability a side x d => exact live_capacities (fun _ => takeAbility_capacities a side x d) h hs
  case position a n d => exact live_capacities (fun _ => fromStation_capacities a fun r _ => takePosition_capacities n d r) h hs
  case arrived a tag => exact live_capacities (fun _ => fromStation_capacities a fun r _ => takeArrived_capacities tag r) h hs
  case result a tag x => exact live_capacities (fun _ => fromStation_capacities a fun r _ => takeResult_capacities tag x r) h hs
  case parked a => exact live_capacities (fun _ => fromStation_capacities a fun r _ => takeParked_capacities r) h hs
  case carriageStatus a => exact live_capacities (fun _ => fromStation_capacities a fun r _ => takeStatus_capacities r) h hs
  case orderTimerExpiry r => exact live_capacities (fun _ => orderExpiry_capacities r) h hs
  case linkLossTimerExpiry r => exact live_capacities (fun _ => linkLossExpiry_capacities r) h hs
  case parkTimerExpiry r => exact live_capacities (fun _ => parkExpiry_capacities r) h hs
  case waitLimitExpiry n => exact live_capacities (fun _ => waitExpiry_capacities n) h hs
  case transportAccept tag => exact live_capacities (fun t => (takeAccept_onlyPlanner tag t).capacities) h hs
  case decline tag => exact live_capacities (fun t => (takeDecline_onlyPlanner tag t).capacities) h hs
  case atSector tag => exact live_capacities (fun _ => takeAtSector_capacities tag) h hs
  case changed tag => exact live_capacities (fun _ => takeChanged_capacities tag) h hs
  case aborted tag => exact live_capacities (fun _ => takeAborted_capacities tag) h hs
  case transportTimerExpiry => exact live_capacities (fun _ => transportExpiry_capacities) h hs
  case backOffExpiry => exact live_capacities (fun t => (backOffExpiry_onlyPlanner t).capacities) h hs
  case dofferActiveRise =>
    exact live_capacities (act := fun t => if t.doff.dofferActive then t else dofferRise t)
      (fun _ k => capacitiesSound.ite k (dofferRise_capacities k)) h hs
  case dofferActiveFall => exact live_capacities (fun _ k => k.updDoff rfl) h hs
  case doffComplete => exact live_capacities (fun _ => doffPulse_capacities) h hs
  case storeWriteDone => exact live_capacities (fun _ => writeDone_capacities) h hs
  case storeWriteFailed => exact live_capacities (fun _ => writeFailed_capacities) h hs
  case frameSilenceTimeout => exact live_capacities (fun _ => receive_capacities fun _ => updLine_capacities _) h hs
  case frameDiscarded => exact live_capacities (fun _ => receive_capacities fun _ => updLine_capacities _) h hs
  case resyncSilence => exact live_capacities (fun _ => endResync_capacities) h hs
  case frameIgnored => exact live_capacities (fun _ => receive_capacities fun _ => updLine_capacities _) h hs
  case unknownKind kind => exact live_capacities (fun _ => receive_capacities fun _ => takeUnknown_capacities kind) h hs
  case broadcastIgnored =>
    exact live_capacities (fun _ => receive_capacities fun _ k => updLine_capacities _ (updLine_capacities _ k)) h hs
  case replySend => exact live_capacities (fun _ => sendReply_capacities) h hs
  case replyWithheld => exact live_capacities (fun _ => receive_capacities fun _ k => k) h hs
  case identify => exact live_capacities (fun _ => takeReading_capacities _ _ fun _ => rfl) h hs
  case readStatus => exact live_capacities (fun _ => takeRequest_capacities _ _ fun _ k => k.setNotices k.queue) h hs
  case fetchNotices => exact live_capacities (fun _ => takeRequest_capacities _ _ fun _ => answerFetch_capacities _) h hs
  case readSpindles => exact live_capacities (fun _ => takeReading_capacities _ _ (answerSpindles_state _ _ _)) h hs
  case readPiecingList => exact live_capacities (fun _ => takeReading_capacities _ _ (answerPiecingList_state _ _)) h hs
  case readGroups => exact live_capacities (fun _ => takeReading_capacities _ _ (answerGroups_state _)) h hs
  case readRovingCalls => exact live_capacities (fun _ => takeReading_capacities _ _ fun _ => rfl) h hs
  case readCarriages => exact live_capacities (fun _ => takeReading_capacities _ _ fun _ => rfl) h hs
  case readDoffState => exact live_capacities (fun _ => takeReading_capacities _ _ fun _ => rfl) h hs
  case readDoffLog => exact live_capacities (fun _ => takeReading_capacities _ _ (answerDoffLog_state _)) h hs
  case readShift => exact live_capacities (fun _ => takeReading_capacities _ _ (answerShift_state _ _)) h hs
  case readFaults => exact live_capacities (fun _ => takeReading_capacities _ _ fun _ => rfl) h hs
  case clearFaults => exact live_capacities (fun _ => takeRequest_capacities _ _ fun _ => answerClear_capacities _) h hs
  case readSettings => exact live_capacities (fun _ => takeReading_capacities _ _ (answerReadSettings_state _ _)) h hs
  case writeSettings => exact live_capacities (fun _ => takeRequest_capacities _ _ fun _ => answerSettings_capacities _ _) h hs
  case writeLot => exact live_capacities (fun _ => takeRequest_capacities _ _ fun _ k => k.updDoff rfl) h hs
  case readZones => exact live_capacities (fun _ => takeReading_capacities _ _ (answerZones_state _)) h hs
  case writeZone => exact live_capacities (fun _ => takeRequest_capacities _ _ fun _ => answerZone_capacities _ _ _ _ _ _) h hs
  case pieceSpindle => exact live_capacities (fun _ => takeRequest_capacities _ _ fun _ => answerPiece_capacities _) h hs
  case lockSpindle => exact live_capacities (fun _ => takeRequest_capacities _ _ fun _ => answerLock_capacities _) h hs
  case releaseSpindle => exact live_capacities (fun _ => takeRequest_capacities _ _ fun _ => answerRelease_capacities _) h hs
  case callRoving => exact live_capacities (fun _ => takeRequest_capacities _ _ fun _ => answerCall_capacities _) h hs
  case declareRoving => exact live_capacities (fun _ => takeRequest_capacities _ _ fun _ => answerDeclare_capacities _ _) h hs
  case holdDoff => exact live_capacities (fun _ => takeRequest_capacities _ _ fun _ => answerHold_capacities) h hs
  case resumeDoff => exact live_capacities (fun _ => takeRequest_capacities _ _ fun _ => answerResume_capacities) h hs
  case doffNow => exact live_capacities (fun _ => takeRequest_capacities _ _ fun _ => answerDoffNow_capacities) h hs
  case setDoffProgress => exact live_capacities (fun _ => takeRequest_capacities _ _ fun _ => answerProgress_capacities _) h hs
  case releaseCarriage =>
    exact live_capacities (fun _ => takeRequest_capacities _ _ fun _ => answerReleaseCarriage_capacities _) h hs
  case closeShift broadcast body =>
    cases broadcast
    · exact live_capacities (fun _ => takeRequest_capacities _ _ fun _ => closeShiftNow_capacities) h hs
    · exact live_capacities (fun _ => takeBroadcast_capacities _ fun _ => closeShiftNow_capacities) h hs
  case setClock broadcast body =>
    have clock (t : State) (k : capacitiesSound t) := updDelivery_capacities
      (fun dl => { dl with mill := bodyNumber body 0 4, clockSet := true }) rfl k
    cases broadcast
    · exact live_capacities (fun _ => takeRequest_capacities _ _ clock) h hs
    · exact live_capacities (fun _ => takeBroadcast_capacities _ clock) h hs
  case restart => exact live_capacities (fun _ => takeReading_capacities _ _ fun _ => rfl) h hs
  case replyEnd => exact live_capacities (fun _ => finishReply_capacities) h hs
  case carriageLinkDiscard cause => exact live_capacities (fun _ => takeDiscard_capacities cause) h hs
  case transportLinkDiscard => exact live_capacities (fun t => (discardTransport_onlyPlanner t).capacities) h hs

/-! ## The two of the supply -/

theorem storeRingsOk_cutOff {st : Store} (h : storeRingsOk st) : storeRingsOk st.cutOff := by
  unfold Store.cutOff; split
  · exact h
  · exact storeRingsOk_idle false (storeRingsOk_setCopy _ h ringOk_none)

/-- R184: the image loaded is one of the two copies, or the defaults. -/
theorem loadedImage_ring {st : Store} (h : storeRingsOk st) : (loadedImage st).ring.length ≤ 3 := by
  obtain ⟨h1, h2, _⟩ := h
  have hn (c : CopyNo) (x : Image) (hc : newestCopy st = some (c, x)) : st.copy1 = some x ∨ st.copy2 = some x := by
    unfold newestCopy at hc
    split at hc
    · exact nomatch hc
    · rename_i e _; cases hc; exact .inl e
    · rename_i e; cases hc; exact .inr e
    · rename_i ea eb
      split at hc
      · cases hc; exact .inl ea
      · split at hc
        · cases hc; exact .inr eb
        · split at hc
          · cases hc; exact .inl ea
          · cases hc; exact .inr eb
  unfold loadedImage; split
  · rename_i c x hc
    exact (hn c x hc).elim (h1 x) (h2 x)
  · exact Nat.zero_le _

theorem capacitiesSound_blocksAtPowerOn (image : Image) (st : Store) (a v : Nat) (d f : Bool) (q : List Instr)
    (hi : image.ring.length ≤ 3) (hs : storeRingsOk st) : capacitiesSound (blocksAtPowerOn image st a v d f q) := by
  obtain ⟨h1, h2, h3⟩ := hs
  refine ⟨Nat.zero_le _, Nat.zero_le _, Nat.zero_le _, Nat.zero_le _, hi, (by decide : 1 ≤ 4), fun sp hsp => ?_, h1, h2, h3,
    fun k hk => one_le_of_mem_withheldSet hk, fun _ he => (nomatch he), fun _ he => (nomatch he)⟩
  obtain ⟨n, rfl⟩ := mem_blocksAtPowerOn hsp
  exact ⟨Nat.zero_le _, Nat.zero_le _, Nat.zero_le _, Nat.zero_le _⟩

theorem powerOn_capacities (st : Store) (a v : Nat) (d f : Bool) (q : List Instr) (h : storeRingsOk st) :
    capacitiesSound (powerOn st a v d f q) := by
  have hc := storeRingsOk_cutOff h
  have hb := capacitiesSound_blocksAtPowerOn (loadedImage st.cutOff) st.cutOff a v d f q (loadedImage_ring hc) hc
  unfold powerOn; dsimp only; split
  · exact hb
  · exact beginWrite_capacities (raiseFault_capacities _ _ _ hb)

theorem powerOff_capacities {s : State} (h : storeRingsOk s.store) : capacitiesSound (powerOff s) := by
  obtain ⟨h1, h2, h3⟩ := storeRingsOk_cutOff h
  exact ⟨Nat.zero_le _, Nat.zero_le _, Nat.zero_le _, Nat.zero_le _, Nat.zero_le _, Nat.zero_le _, fun _ hsp => (nomatch hsp),
    h1, h2, h3, fun _ hk => (nomatch hk), fun _ he => (nomatch he), fun _ he => (nomatch he)⟩

/-- Settles O5: every command keeps the capacities (`exec_capacities`), and the two of the supply set up a board that meets them. -/
theorem stepKeepsCapacities : Obligations.StepKeepsCapacities := by
  intro s t hs h
  refine step_cases hs (fun _ _ hb => hb) (fun s a v d f hb => powerOn_capacities _ _ _ _ _ _ hb.store)
    (fun s hb => powerOff_capacities hb.store) (fun c s t hon hoff _ hb hx => exec_capacities c s t hon hoff hb hx) h

end Sys2Proof.Machine

/-! # The sector lamps, and the timers of the sensing (R27, R28, R45, R46) -/

namespace Sys2Proof.Machine

open Sys2Proof

/-! ## The lamp of a sector (R45, R46) -/

theorem causesFlashing_iff (st : SpindleState) : st.causesFlashing = true ↔ st.code = 7 := by
  cases st <;> simp [SpindleState.causesFlashing, SpindleState.code]

theorem causesSteady_iff (st : SpindleState) : st.causesSteady = true ↔ st.code ∈ [4, 5, 6] := by
  cases st <;> simp [SpindleState.causesSteady, SpindleState.code]

theorem causesLamp_iff (st : SpindleState) : (st.causesFlashing || st.causesSteady) = true ↔ st.code ∈ [4, 5, 6, 7] := by
  rw [Bool.or_eq_true, causesFlashing_iff, causesSteady_iff]
  simp only [List.mem_cons, List.not_mem_nil, or_false]
  omega

theorem sectorStates_any (f : SpindleState → Bool) (s : State) (k : Nat) :
    (sectorStates s k).any f = true ↔ ∃ m ∈ spindlesOfSector k, f (spindle s m).state = true := by
  simp [sectorStates]

theorem hasLampCause_iff (s : State) (k : Nat) :
    hasLampCause s k = true ↔ ∃ m ∈ spindlesOfSector k, (spindle s m).state.code ∈ [4, 5, 6, 7] := by
  simp only [hasLampCause, sectorStates_any, causesLamp_iff]

theorem newLamp_eq (s : State) (k : Nat) (hadCause : Bool) :
    newLamp s k hadCause =
      if ∃ m ∈ spindlesOfSector k, (spindle s m).state.code = 7 then { state := .flashing, hold := none }
      else if ∃ m ∈ spindlesOfSector k, (spindle s m).state.code ∈ [4, 5, 6] then { state := .steady, hold := none }
      else if hadCause = true then
        if s.settings.working.lampHold = 0 then { state := .off, hold := none }
        else { state := .steady, hold := some (s.delivery.now + s.settings.working.lampHold) }
      else if (lampOf s k).hold = none then { state := .off, hold := none }
      else { state := .steady, hold := (lampOf s k).hold } := by
  simp only [newLamp, sectorStates_any, causesFlashing_iff, causesSteady_iff]
  cases (lampOf s k).hold <;> simp

theorem lamps_changeState {n : Nat} {s : State} (hn : hasSpindle s n = true) (st : SpindleState) :
    (changeState n st s).lamps =
      modifyNth s.lamps (sectorOf n) fun _ =>
        newLamp { changeState n st s with lamps := s.lamps } (sectorOf n) (hasLampCause s (sectorOf n)) := by
  simp only [changeState, hn, if_true]; rfl

theorem lampOf_changeState_same {n : Nat} {s : State} (hn : hasSpindle s n = true) (st : SpindleState)
    (hk : sectorOf n ≤ s.lamps.length) :
    lampOf (changeState n st s) (sectorOf n) =
      newLamp { changeState n st s with lamps := s.lamps } (sectorOf n) (hasLampCause s (sectorOf n)) := by
  rw [lampOf, lamps_changeState hn]
  exact nth_modifyNth_same _ _ _ _ (Nat.le_add_left _ _) hk

theorem lampOf_changeState_other {n k : Nat} (st : SpindleState) (s : State) (h : k ≠ sectorOf n) :
    lampOf (changeState n st s) k = lampOf s k := by
  cases hn : hasSpindle s n
  · rw [changeState_none n st s hn]
  · rw [lampOf, lamps_changeState hn]; exact nth_modifyNth_other _ _ _ _ _ h

/-! ## The two timers (R28, R46) -/

theorem DoffPhase.inDoff_eq (ph : DoffPhase) : ph.inDoff = ph.callInfo.isSome := by cases ph <;> rfl

theorem sideConfigured_b (s : State) : sideConfigured s .b = true ↔ s.delivery.sides = 2 := beq_iff_eq

theorem takeDrowse_eq (s : State) :
    takeDrowse s =
      { s with
        drowse := { timer := none, deferred := false, drowsing := true }
        railA := if s.railA.awake then { s.railA with sleepRound := true, position := 1 } else s.railA
        railB :=
          if s.delivery.sides = 2 ∧ s.railB.awake = true then { s.railB with sleepRound := true, position := 1 }
          else s.railB } := by
  simp only [takeDrowse, Rail.beginSleep, sideConfigured_b, ite_and]

/-- Settles O22: the lamp by `newLamp_eq` over the sector as the change leaves it, the timers by their definitions. -/
theorem sensingTimersExpire : Obligations.SensingTimersExpire := by
  refine ⟨fun s n st h1 hn hk => ⟨fun j hj => lampOf_changeState_other st s hj, ?_⟩, fun s k hs => ?_, fun s hs => ?_⟩
  · have hr : hasSpindle s n = true := (hasSpindle_iff s n).2 ⟨h1, hn⟩
    obtain ⟨hd, hset⟩ : (changeState n st s).delivery = s.delivery ∧ (changeState n st s).settings = s.settings := by
      simp only [changeState, hr, if_true]; exact ⟨rfl, rfl⟩
    rw [lampOf_changeState_same hr st hk, newLamp_eq]
    simp only [hasLampCause_iff, hd, hset]
    rfl
  · exact live_powered _ s hs
  · refine (live_powered _ s hs).trans (congrArg _ ?_)
    rw [drowseExpiry, DoffPhase.inDoff_eq, takeDrowse_eq]
    cases s.doff.phase.callInfo <;> rfl

end Sys2Proof.Machine

/-! # The polls of the heads (R22, R28) -/

namespace Sys2Proof.Machine

open Sys2Proof

/-- A change of a rail is what it makes of that rail. -/
theorem updRail_congr {side : Side} {f g : Rail → Rail} {s : State} (h : f (railOf s side) = g (railOf s side)) :
    updRail side f s = updRail side g s := by
  cases side
  · exact congrArg (fun r => { s with railA := r }) h
  · exact congrArg (fun r => { s with railB := r }) h

theorem sleepPolled_eq {r : Rail} (ha : r.awake = true) (hr : r.sleepRound = true) :
    r.sleepPolled =
      { r with
        heads := modifyNth r.heads r.position fun h => { h with state := .asleep }
        awake := decide (r.position < r.heads.length), sleepRound := decide (r.position < r.heads.length)
        position := if r.heads.length ≤ r.position then 1 else r.position + 1 } := by
  rw [Rail.sleepPolled]
  by_cases hp : r.heads.length ≤ r.position
  · simp [hp]
  · simp [hp, ha, hr, Nat.lt_of_not_le hp]

theorem pollHead_eq (side : Side) (s : State) :
    pollHead side s =
      if sideConfigured s side = true ∧ (railOf s side).awake = true ∧ (railOf s side).sleepRound = false ∧
          (railOf s side).inFlight = none ∧ (railOf s side).due.state ≠ .asleep then
        updRail side (fun x => { x with inFlight := some x.position, position := nextHead x.heads.length x.position })
          (emit (.poll side (railOf s side).position (stopsOf s (sectorOfHead s side (railOf s side).position))
            (lampOf s (sectorOfHead s side (railOf s side).position)).state false) s)
      else s := by
  simp only [pollHead, Bool.and_eq_true, Bool.not_eq_true', Option.isNone_iff_eq_none, bne_iff_ne, and_assoc]

theorem sleepPoll_eq (side : Side) (s : State) :
    sleepPoll side s =
      if sideConfigured s side = true ∧ (railOf s side).awake = true ∧ (railOf s side).sleepRound = true ∧
          (railOf s side).inFlight = none then
        updRail side Rail.sleepPolled
          (emit (.poll side (railOf s side).position (stopsOf s (sectorOfHead s side (railOf s side).position)) .off true) s)
      else s := by
  simp only [sleepPoll, Bool.and_eq_true, Option.isNone_iff_eq_none, and_assoc]

@[simp] theorem railOf_emit (o : Output) (s : State) (side : Side) : railOf (emit o s) side = railOf s side := by
  cases side <;> rfl

/-- Settles O18: `pollHead_eq` and `sleepPoll_eq`, with the rail after a sleep poll by `sleepPolled_eq`. -/
theorem pollsCarryTheSector : Obligations.PollsCarryTheSector := by
  refine ⟨fun s side hs => (live_powered _ s hs).trans (congrArg _ ?_),
    fun s side hs => (live_powered _ s hs).trans (congrArg _ ?_)⟩
  · cases side <;> exact pollHead_eq _ _
  · rw [sleepPoll_eq]
    have hrail : railOf { s with emitted := [] } side = railOf s side := by cases side <;> rfl
    have hc : sideConfigured { s with emitted := [] } side = sideConfigured s side := by cases side <;> rfl
    rw [hrail, hc]
    by_cases hd : sideConfigured s side = true ∧ (railOf s side).awake = true ∧ (railOf s side).sleepRound = true ∧
        (railOf s side).inFlight = none
    · have ⟨_, ha, hr, _⟩ := hd
      refine (if_pos hd).trans ((updRail_congr ?_).trans (if_pos hd).symm)
      rw [railOf_emit, hrail, sleepPolled_eq ha hr]
    · exact (if_neg hd).trans (if_neg hd).symm

end Sys2Proof.Machine

/-! # Misses and answers of the heads (R23, R25, R26) -/

namespace Sys2Proof.Machine

open Sys2Proof

/-! ## One head of a rail changed -/

theorem modifyNth_modifyNth {α : Type} (l : List α) (n : Nat) (f g : α → α) :
    modifyNth (modifyNth l n f) n g = modifyNth l n fun x => g (f x) := by
  cases n with
  | zero => rfl
  | succ k => exact List.modify_modify_eq f g k l

/-- An item of the table changed is that item replaced by what it becomes. -/
theorem modifyNth_eq_const {α : Type} {l : List α} {n : Nat} (f : α → α) (d : α) (h1 : 1 ≤ n) (hl : n ≤ l.length) :
    modifyNth l n f = modifyNth l n fun _ => f (nth l n d) := by
  obtain ⟨k, rfl⟩ : ∃ k, n = k + 1 := ⟨n - 1, by omega⟩
  have hk : k < l.length := hl
  simp only [modifyNth, List.modify_eq_set_getElem?, nth_succ, List.getD_eq_getElem?_getD, List.getElem?_eq_getElem hk]
  rfl

theorem updRail_updRail (side : Side) (f g : Rail → Rail) (s : State) :
    updRail side g (updRail side f s) = updRail side (fun r => g (f r)) s := by cases side <;> rfl

theorem sectorOfHead_updRail (x side : Side) (f : Rail → Rail) (s : State) (h : Nat) :
    sectorOfHead (updRail x f s) side h = sectorOfHead s side h := by cases x <;> cases side <;> rfl

/-! ## A miss (R23, R25) -/

/-- R23: the rail whose poll of head `h` was a miss, with the head as the miss left it. -/
def Rail.afterMiss (r : Rail) (h : Nat) (x : Head) : Rail :=
  { r with inFlight := none, discarded := min 65535 (r.discarded + 1), heads := modifyNth r.heads h fun _ => x }

theorem missPoll_eq {s : State} {side : Side} {h : Nat} (h1 : 1 ≤ h) (hl : h ≤ (railOf s side).heads.length) :
    missPoll side h (updRail side (fun r => { r with inFlight := none }) s) =
      if 3 ≤ (headAt s side h).missed.misses ∧ (headAt s side h).state.canFallSilent = true then
        raiseFault .headSilent (.sector (sectorOfHead s side h)) .none
          (updRail side (fun r => r.afterMiss h (headAt s side h).missed.silenced) s)
      else updRail side (fun r => r.afterMiss h (headAt s side h).missed) s := by
  have hmissed : updHead side h Head.missed (countMiss side (updRail side (fun r => { r with inFlight := none }) s)) =
      updRail side (fun r => r.afterMiss h (headAt s side h).missed) s := by
    rw [updHead, countMiss, updRail_updRail, updRail_updRail]
    exact updRail_congr (by simp only [Rail.afterMiss, headAt, ← modifyNth_eq_const Head.missed freshHead h1 hl]; rfl)
  have hsilenced : updHead side h Head.silenced (updRail side (fun r => r.afterMiss h (headAt s side h).missed) s) =
      updRail side (fun r => r.afterMiss h (headAt s side h).missed.silenced) s := by
    rw [updHead, updRail_updRail]
    simp only [Rail.afterMiss, modifyNth_modifyNth]
  have hhead : headAt (updRail side (fun r => r.afterMiss h (headAt s side h).missed) s) side h = (headAt s side h).missed := by
    rw [headAt, updRail_same]
    exact nth_modifyNth_same _ _ _ _ h1 hl
  simp only [missPoll, hmissed, hsilenced, hhead, sectorOfHead_updRail, Bool.and_eq_true, decide_eq_true_eq, and_comm]
  rfl

theorem finishPoll_none {side : Side} {s : State} (act : Nat → State → State) (hf : (railOf s side).inFlight = none) :
    finishPoll side act s = s := by simp only [finishPoll, hf]

theorem finishPoll_some {side : Side} {s : State} {h : Nat} (act : Nat → State → State) (hf : (railOf s side).inFlight = some h) :
    finishPoll side act s = act h (updRail side (fun r => { r with inFlight := none }) s) := by simp only [finishPoll, hf]

/-! ## A valid answer outside ACTIVE (R23, R26) -/

/-- R23: the rail whose poll of head `h` was answered, with the head as the answer left it. -/
def Rail.afterAnswer (r : Rail) (h : Nat) (x : Head) : Rail :=
  { r with inFlight := none, heads := modifyNth r.heads h fun _ => x }

theorem railOf_answered {side : Side} {h : Nat} {s : State} (h1 : 1 ≤ h) (hl : h ≤ (railOf s side).heads.length) :
    railOf (answered side h s) side = (railOf s side).afterAnswer h { headAt s side h with misses := 0 } := by
  have hr : railOf (answered side h s) side =
      { railOf s side with inFlight := none, heads := modifyNth (railOf s side).heads h fun x => { x with misses := 0 } } := by
    cases side <;> rfl
  rw [hr, modifyNth_eq_const _ freshHead h1 hl]; rfl

theorem railOf_updHead {side : Side} {h : Nat} {r : Rail} {x : Head} {s : State} (f : Head → Head)
    (hr : railOf s side = r.afterAnswer h x) : railOf (updHead side h f s) side = r.afterAnswer h (f x) := by
  rw [updHead, updRail_same, hr]
  simp only [Rail.afterAnswer, modifyNth_modifyNth]

/-- What the rail after an answer says of the poll, of the rail's count and of each head. -/
theorem answer_of_rail {side : Side} {h : Nat} {x : Head} {s t : State} (h1 : 1 ≤ h) (hl : h ≤ (railOf s side).heads.length)
    (hr : railOf t side = (railOf s side).afterAnswer h x) :
    (railOf t side).inFlight = none ∧ (railOf t side).discarded = (railOf s side).discarded ∧
      (∀ k, k ≠ h → headAt t side k = headAt s side k) ∧ headAt t side h = x := by
  refine ⟨by rw [hr]; rfl, by rw [hr]; rfl, fun k hk => ?_, ?_⟩ <;> rw [headAt, hr]
  · exact nth_modifyNth_other _ _ _ _ _ hk
  · exact nth_modifyNth_same _ _ _ _ h1 hl

/-! ## A head that enters ACTIVE (R26) -/

theorem sensed_sensed (sp : Spindle) (now : Nat) : (sp.sensed now).sensed now = sp.sensed now := by
  obtain ⟨st⟩ := sp
  cases st <;> rfl

theorem updEach_eq (f : Spindle → Spindle) : ∀ (ns : List Nat) (s : State),
    ns.foldl (fun acc n => updSpindle n f acc) s = { s with spindles := (ns.foldl (fun acc n => updSpindle n f acc) s).spindles }
  | [], _ => rfl
  | n :: ns, s => (updEach_eq f ns (updSpindle n f s)).trans rfl

/-- R26: head `h` and its sector as it enters ACTIVE, before the notice. -/
def headEntered (side : Side) (h : Nat) (s : State) : State :=
  (spindlesOfSector (sectorOfHead s side h)).foldl (fun acc n => updSpindle n (fun sp => sp.sensed s.delivery.now) acc)
    (updHead side h (fun x => { x with state := .active, returnMark := false }) s)

theorem activateHead_eq (side : Side) (h : Nat) (s : State) :
    activateHead side h s =
      if (headAt s side h).returnMark = true then
        raiseNotice .headBack .info (.sector (sectorOfHead s side h)) .none (headEntered side h s)
      else headEntered side h s := rfl

theorem headEntered_spindles (side : Side) (h : Nat) (s : State) :
    ∃ l, headEntered side h s =
      { updHead side h (fun x => { x with state := .active, returnMark := false }) s with spindles := l } :=
  ⟨_, updEach_eq _ _ _⟩

theorem spindle_headEntered {side : Side} {h : Nat} {s : State} (h1 : 1 ≤ h)
    (hl : sectorOfHead s side h * 24 ≤ s.spindles.length) {n : Nat} (hn : 1 ≤ n) :
    spindle (headEntered side h s) n =
      if sectorOf n = sectorOfHead s side h then (spindle s n).sensed s.delivery.now else spindle s n := by
  have hk := one_le_sectorOfHead s side h1
  have hs (m : Nat) : spindle (updHead side h (fun x => { x with state := .active, returnMark := false }) s) m = spindle s m := by
    cases side <;> rfl
  have hr (m : Nat) : hasSpindle (updHead side h (fun x => { x with state := .active, returnMark := false }) s) m = hasSpindle s m := by
    cases side <;> rfl
  rw [headEntered, spindle_updEach _ (fun sp => sensed_sensed sp _), hs, hr]
  generalize sectorOfHead s side h = k at *
  refine if_congr ?_ rfl rfl
  rw [hasSpindle_iff, mem_spindlesOfSector]
  simp only [sectorOf, Config.sectorSpindles]
  omega

theorem raiseNotice_notices (kind : NoticeKind) (level : NoticeLevel) (x : Subject) (d : Detail) {s t : State}
    (hd : t.delivery = s.delivery) (hw : t.settings = s.settings) (hn : t.notices = s.notices) :
    (raiseNotice kind level x d t).notices = (raiseNotice kind level x d s).notices := by
  simp only [raiseNotice, hd, hw, hn]

/-- R26: an answer makes the head ACTIVE: its rail, the spindles of its sector, and HEAD_BACK where it had been SILENT. -/
theorem activateHead_outcome {side : Side} {h : Nat} {s : State} (h1 : 1 ≤ h)
    (hl : sectorOfHead s side h * 24 ≤ s.spindles.length) :
    railOf (activateHead side h s) side =
        railOf (updHead side h (fun x => { x with state := .active, returnMark := false }) s) side ∧
      (∀ n, 1 ≤ n →
        spindle (activateHead side h s) n =
          if sectorOf n = sectorOfHead s side h then (spindle s n).sensed s.delivery.now else spindle s n) ∧
      (activateHead side h s).faults = s.faults ∧
      if (headAt s side h).returnMark = true then
        (activateHead side h s).notices = (raiseNotice .headBack .info (.sector (sectorOfHead s side h)) .none s).notices
      else (activateHead side h s).notices = s.notices := by
  have hsp (n : Nat) (hn : 1 ≤ n) := spindle_headEntered h1 hl hn
  obtain ⟨l, hq⟩ := headEntered_spindles side h s
  have hr : railOf (headEntered side h s) side =
      railOf (updHead side h (fun x => { x with state := .active, returnMark := false }) s) side := by
    rw [hq]; cases side <;> rfl
  obtain ⟨hd, hw, hf, hn⟩ : (headEntered side h s).delivery = s.delivery ∧ (headEntered side h s).settings = s.settings ∧
      (headEntered side h s).faults = s.faults ∧ (headEntered side h s).notices = s.notices := by
    rw [hq]; cases side <;> exact ⟨rfl, rfl, rfl, rfl⟩
  rw [activateHead_eq]
  generalize headEntered side h s = t at *
  by_cases hm : (headAt s side h).returnMark = true
  · rw [if_pos hm, if_pos hm]
    exact ⟨.trans (by cases side <;> rfl) hr, hsp, hf, raiseNotice_notices _ _ _ _ hd hw hn⟩
  · rw [if_neg hm, if_neg hm]
    exact ⟨hr, hsp, hf, hn⟩

/-! ## The answer as a whole -/

theorem exec_pollAnswer_valid {s : State} {side : Side} {h : Nat} (present : PresenceFlags) (hp : s.powered = true)
    (hf : (railOf s side).inFlight = some h) :
    exec (.pollAnswer side true true present) s =
      .next (match (headAt s side h).state with
        | .active => acceptReport (sectorOfHead s side h) present (answered side h s)
        | .settlingHead k => discardReport side h k (answered side h s)
        | .silent => updHead side h (fun x => { x with state := .settlingHead 1 }) (answered side h s)
        | .asleep => updRail side (fun r => { r with inFlight := none }) { s with emitted := [] }) := by
  have hf' : (railOf { s with emitted := [] } side).inFlight = some h := by cases side <;> exact hf
  refine (live_powered _ s hp).trans (congrArg _ ((finishPoll_some _ hf').trans ?_))
  cases side <;> rfl

/-- Settles O19: the miss by `missPoll_eq`, the answer by the head state it finds. -/
theorem headsFallSilentAndReturn : Obligations.HeadsFallSilentAndReturn := by
  refine ⟨⟨fun s side checkOk headOk present hbad => ?_, fun s side hp hf => ?_, fun s side h hp hf h1 hl => ?_⟩,
    fun s side h present hp hf h1 hl hk => ?_⟩
  · show live (finishPoll side fun h => if checkOk && headOk then validAnswer side h present else missPoll side h) s = _
    rw [hbad]; rfl
  · refine (live_powered _ s hp).trans (congrArg _ (finishPoll_none _ ?_))
    cases side <;> exact hf
  · have hrail : railOf { s with emitted := [] } side = railOf s side := by cases side <;> rfl
    have hhead : headAt { s with emitted := [] } side h = headAt s side h := by rw [headAt, headAt, hrail]
    refine (live_powered _ s hp).trans (congrArg _ ((finishPoll_some _ (by rw [hrail]; exact hf)).trans ?_))
    refine (missPoll_eq h1 (by rw [hrail]; exact hl)).trans ?_
    rw [hhead]
    cases side <;> rfl
  · have hans := railOf_answered h1 hl
    have hsame : (answered side h s).spindles = s.spindles ∧ keepsReports s (answered side h s) := by
      cases side <;> exact ⟨rfl, rfl, rfl⟩
    refine ⟨_, exec_pollAnswer_valid present hp hf, ?_⟩
    cases hst : (headAt s side h).state with
    | active =>
      dsimp only
      obtain ⟨u, hu⟩ := acceptReport_onlyFrame (sectorOfHead s side h) present (answered side h s)
      have hr : railOf (acceptReport (sectorOfHead s side h) present (answered side h s)) side = railOf (answered side h s) side := by
        rw [hu]; cases side <;> rfl
      obtain ⟨h3, h4, h5, -⟩ := answer_of_rail h1 hl (hr.trans hans)
      exact ⟨h3, h4, h5, trivial⟩
    | asleep =>
      dsimp only
      refine ⟨?_, ?_, ?_, trivial⟩
      · rw [updRail_same]
      · rw [updRail_same]; cases side <;> rfl
      · intro k _; rw [headAt, updRail_same, headAt]; cases side <;> rfl
    | silent =>
      dsimp only
      obtain ⟨h3, h4, h5, h6⟩ := answer_of_rail h1 hl (railOf_updHead (fun x => { x with state := .settlingHead 1 }) hans)
      refine ⟨h3, h4, h5, h6, ?_⟩
      cases side <;> exact hsame
    | settlingHead k =>
      dsimp only
      rw [discardReport]
      by_cases hk2 : 2 ≤ k
      · rw [if_neg (by omega : ¬ k ≤ 1), if_pos hk2]
        obtain ⟨h3, h4, h5, h6⟩ := answer_of_rail h1 hl (railOf_updHead (fun x => { x with state := .settlingHead (k - 1) }) hans)
        refine ⟨h3, h4, h5, h6, ?_⟩
        cases side <;> exact hsame
      · rw [if_pos (by omega : k ≤ 1), if_neg hk2]
        have hsec : sectorOfHead (answered side h s) side h = sectorOfHead s side h := by cases side <;> rfl
        obtain ⟨hr, hsp, hfa, hno⟩ := activateHead_outcome (s := answered side h s) (side := side) h1 (by rw [hsec, hsame.1]; exact hk)
        obtain ⟨h3, h4, h5, h6⟩ := answer_of_rail h1 hl
          (hr.trans (railOf_updHead (fun x => { x with state := .active, returnMark := false }) hans))
        obtain ⟨-, -, -, hhead⟩ := answer_of_rail h1 hl hans
        rw [hhead] at hno
        refine ⟨h3, h4, h5, h6, ?_, ?_, ?_⟩
        · intro n hn
          rw [hsp n hn]
          cases side <;> rfl
        · rw [hfa]; exact hsame.2.1
        · cases side <;> exact hno

end Sys2Proof.Machine

/-! # A lit lamp, the piecing sums and the carriages under the dispatcher's work (R45, R54, R55, R83) -/

namespace Sys2Proof.Machine

open Sys2Proof

/-! ## A lamp with a cause (R45) -/

/-- R45: the sector has a cause, and its lamp shows it: FLASHING for a LOCKED spindle, STEADY otherwise, with no hold timer. -/
structure LampLit (k : Nat) (s : State) : Prop where
  fits : k ≤ s.lamps.length
  cause : hasLampCause s k = true
  shows : lampOf s k =
    { state := if ∃ m ∈ spindlesOfSector k, (spindle s m).state.code = 7 then .flashing else .steady, hold := none }

theorem LampLit.not_off {k : Nat} {s : State} (h : LampLit k s) : (lampOf s k).state ≠ .off ∧ (lampOf s k).hold = none := by
  rw [h.shows]
  refine ⟨?_, rfl⟩
  dsimp only; split <;> exact fun e => nomatch e

/-- The lamp depends on the lamps and on the states of the spindles alone. -/
theorem LampLit.of_same {k : Nat} {s t : State} (h : LampLit k s) (hl : t.lamps = s.lamps)
    (hs : ∀ m, (spindle t m).state = (spindle s m).state) : LampLit k t := by
  refine ⟨by rw [hl]; exact h.fits, ?_, ?_⟩
  · simpa only [hasLampCause_iff, hs] using (hasLampCause_iff s k).1 h.cause
  · simpa only [lampOf, hl, hs] using h.shows

theorem newLamp_of_cause {s : State} {k : Nat} (hadCause : Bool) (h : hasLampCause s k = true) :
    newLamp s k hadCause =
      { state := if ∃ m ∈ spindlesOfSector k, (spindle s m).state.code = 7 then .flashing else .steady, hold := none } := by
  rw [newLamp_eq]
  split
  · rfl
  · rename_i h7
    obtain ⟨m, hm, hc⟩ := (hasLampCause_iff s k).1 h
    have h4 : (spindle s m).state.code ∈ [4, 5, 6] := by
      have hne : (spindle s m).state.code ≠ 7 := fun he => h7 ⟨m, hm, he⟩
      simp only [List.mem_cons, List.not_mem_nil, or_false] at hc ⊢
      omega
    exact if_pos ⟨m, hm, h4⟩

theorem mem_spindlesOfSector_sectorOf {n : Nat} (h : 1 ≤ n) : n ∈ spindlesOfSector (sectorOf n) := by
  rw [mem_spindlesOfSector]
  simp only [sectorOf, Config.sectorSpindles]
  omega

/-- R45: a change of state that leaves its sector a cause lights the lamp. -/
theorem lampLit_changeState {n : Nat} {s : State} (st : SpindleState) (hn : hasSpindle s n = true)
    (hk : sectorOf n ≤ s.lamps.length) (hc : hasLampCause (changeState n st s) (sectorOf n) = true) :
    LampLit (sectorOf n) (changeState n st s) := by
  refine ⟨?_, hc, ?_⟩
  · rw [lamps_changeState hn, length_modifyNth]; exact hk
  · exact (lampOf_changeState_same hn st hk).trans (newLamp_of_cause (s := { changeState n st s with lamps := s.lamps }) _ hc)

/-- R45: so does the entry to a state that is itself a cause. -/
theorem lampLit_entered {n : Nat} {s : State} {st : SpindleState} (hn : hasSpindle s n = true)
    (hk : sectorOf n ≤ s.lamps.length) (hc : st.code ∈ [4, 5, 6, 7]) : LampLit (sectorOf n) (changeState n st s) := by
  refine lampLit_changeState st hn hk ((hasLampCause_iff _ _).2 ⟨n, mem_spindlesOfSector_sectorOf ((hasSpindle_iff s n).1 hn).1, ?_⟩)
  rw [spindle_changeState_same n st s hn, changed_state]; exact hc

/-- R45: a lit lamp stays lit under a change of state that takes no cause away. -/
theorem LampLit.changeState {k n : Nat} {s : State} (st : SpindleState) (hk : 1 ≤ k) (h : LampLit k s)
    (hc : (spindle s n).state.code ∈ [4, 5, 6, 7] → st.code ∈ [4, 5, 6, 7]) : LampLit k (changeState n st s) := by
  cases hn : hasSpindle s n
  · rw [changeState_none n st s hn]; exact h
  have hcause : hasLampCause (Machine.changeState n st s) k = true := by
    obtain ⟨m, hm, hcm⟩ := (hasLampCause_iff s k).1 h.cause
    refine (hasLampCause_iff _ _).2 ⟨m, hm, ?_⟩
    rw [spindle_changeState]; split
    · rename_i he; rw [changed_state]; exact hc (he.1 ▸ hcm)
    · exact hcm
  by_cases hkn : k = sectorOf n
  · subst hkn; exact lampLit_changeState st hn h.fits hcause
  · refine ⟨by rw [lamps_changeState hn, length_modifyNth]; exact h.fits, hcause, ?_⟩
    rw [lampOf_changeState_other st s hkn, h.shows]
    have hs (m : Nat) (hm : m ∈ spindlesOfSector k) : spindle (Machine.changeState n st s) m = spindle s m :=
      spindle_changeState_other n m st s fun he => hkn (by rw [← he, sectorOf_of_mem hk hm])
    have he : (∃ m ∈ spindlesOfSector k, (spindle (Machine.changeState n st s) m).state.code = 7) ↔
        ∃ m ∈ spindlesOfSector k, (spindle s m).state.code = 7 :=
      ⟨fun ⟨m, hm, h7⟩ => ⟨m, hm, by rw [← hs m hm]; exact h7⟩, fun ⟨m, hm, h7⟩ => ⟨m, hm, by rw [hs m hm]; exact h7⟩⟩
    simp only [he]

/-! ## Work on the lists and the orders -/

/-- What work on the lists and the orders is composed of: what is no record, lamp or figure of the shift may change; an unlisted flag is
moved; an order puts a BROKEN spindle in PIECING, and is counted as issued (R54, R55, R83). -/
inductive ListWork (s : State) : State → Prop where
  | refl : ListWork s s
  | beside {t u : State} : ListWork s t → u.spindles = t.spindles → u.lamps = t.lamps → u.shift = t.shift → ListWork s u
  | mark {t : State} (n : Nat) (b : Bool) : ListWork s t → ListWork s (updSpindle n (fun x => { x with unlisted := b }) t)
  | order {t : State} (n : Nat) : ListWork s t → ListWork s (changeState n (spindle t n).state.toPiecing t)
  | issued {t : State} : ListWork s t → ListWork s (countIssued t)

theorem code_toPiecing (st : SpindleState) : st.code ∈ [4, 5, 6, 7] → st.toPiecing.code ∈ [4, 5, 6, 7] := by
  cases st <;> simp [SpindleState.code, SpindleState.toPiecing]

theorem state_updSpindle {n m : Nat} {f : Spindle → Spindle} {s : State} (hf : ∀ x : Spindle, (f x).state = x.state) :
    (spindle (updSpindle n f s) m).state = (spindle s m).state := by
  rw [spindle_updSpindle]; split
  · exact hf _
  · rfl

theorem piecing_changeState (n : Nat) (st : SpindleState) (s : State) :
    (changeState n st s).shift.piecing = s.shift.piecing := by
  unfold changeState; dsimp only; split <;> rfl

namespace ListWork

variable {s t u : State}

theorem after (k : ListWork t u) (h : ListWork s t) : ListWork s u := by
  induction k with
  | refl => exact h
  | beside _ a b c ih => exact ih.beside a b c
  | mark n b _ ih => exact ih.mark n b
  | order n _ ih => exact ih.order n
  | issued _ ih => exact ih.issued

/-- R45: a lit lamp stays lit. -/
theorem lit {k : Nat} (hk : 1 ≤ k) (w : ListWork s t) (h : LampLit k s) : LampLit k t := by
  induction w with
  | refl => exact h
  | beside _ a b _ ih => exact ih.of_same b fun m => by rw [spindle, a]; rfl
  | mark n b _ ih => exact ih.of_same rfl fun m => state_updSpindle fun _ => rfl
  | order n _ ih => exact ih.changeState _ hk (code_toPiecing _)
  | issued _ ih => exact ih.of_same rfl fun _ => rfl

/-- R160: of the piecing sums, the orders issued alone are counted. -/
theorem piecing (w : ListWork s t) : ∃ k, t.shift.piecing = { s.shift.piecing with issued := k } := by
  induction w with
  | refl => exact ⟨_, rfl⟩
  | beside _ _ _ c ih => rw [c]; exact ih
  | mark _ _ _ ih => exact ih
  | order n _ ih => rw [piecing_changeState]; exact ih
  | @issued t _ ih =>
    obtain ⟨k, hk⟩ := ih
    exact ⟨satAdd Config.top32 t.shift.piecing.issued 1, by rw [countIssued]; dsimp only; rw [hk]⟩

end ListWork

theorem onlyPlanner.listWork {s t : State} (h : onlyPlanner s t) : ListWork s t := by
  obtain ⟨_, rfl⟩ := h; exact ListWork.refl.beside rfl rfl rfl

theorem setPieceList_listWork (side : Side) (l : List Entry) (s : State) : ListWork s (setPieceList side l s) :=
  ListWork.refl.beside (setPieceList_spindles _ _ _) (setPieceList_lamps _ _ _) (setPieceList_shift _ _ _)

theorem updLock_listWork (k : Nat) (f : Lock → Lock) (s : State) : ListWork s (updLock k f s) := ListWork.refl.beside rfl rfl rfl

theorem updCarriage_listWork (r : RecordNo) (f : Carriage → Carriage) (s : State) : ListWork s (updCarriage r f s) :=
  ListWork.refl.beside (updCarriage_spindles _ _ _) (updCarriage_lamps _ _ _) (updCarriage_shift _ _ _)

theorem raiseFault_listWork (c : FaultClass) (x : Subject) (d : Detail) (s : State) : ListWork s (raiseFault c x d s) := by
  rw [raiseFault_eq]; exact ListWork.refl.beside rfl rfl rfl

theorem makeEntry_listWork (n : Nat) (urgent : Bool) (s : State) : ListWork s (makeEntry n urgent s) := by
  unfold makeEntry; split
  · exact (setPieceList_listWork _ _ _).after (ListWork.refl.mark n false)
  · exact .refl

theorem dropFromList_listWork (n : Nat) (s : State) : ListWork s (dropFromList n s) :=
  (setPieceList_listWork _ _ _).after (ListWork.refl.mark n false)

theorem refillUpTo_listWork : ∀ (fuel : Nat) (side : Side) (s : State), ListWork s (refillUpTo fuel side s)
  | 0, _, _ => .refl
  | k + 1, side, s => by
    unfold refillUpTo; split
    · exact .refl
    · split
      · exact (refillUpTo_listWork k side _).after (makeEntry_listWork _ _ _)
      · exact .refl

theorem refill_listWork (side : Side) (s : State) : ListWork s (refill side s) := refillUpTo_listWork _ _ _

theorem listSpindle_listWork (n : Nat) (s : State) : ListWork s (listSpindle n s) := by
  unfold listSpindle; dsimp only; split
  · exact makeEntry_listWork n false s
  · split
    · exact (raiseFault_listWork _ _ _ _).after (ListWork.refl.mark n true)
    · exact ListWork.refl.mark n true

theorem issueOrder_listWork (r : RecordNo) (e : Entry) (carried : Bool) (s : State) : ListWork s (issueOrder r e carried s) := by
  unfold issueOrder; dsimp only
  refine .issued ((updCarriage_listWork _ _ _).after ((tellPlanner_onlyPlanner _ _).listWork.after (.order _ ?_)))
  exact (refill_listWork _ _).after ((dropFromList_listWork _ _).after
    ((emit_onlyPlanner _ _).listWork.after (updLock_listWork _ _ _)))

theorem dispatchAmong_listWork (allowed : Entry → Bool) (carried : Bool) (r : RecordNo) (s : State) :
    ListWork s (dispatchAmong allowed carried r s) := by
  unfold dispatchAmong; split
  · split
    · split
      · exact issueOrder_listWork _ _ _ _
      · exact .refl
    · exact .refl
  · exact .refl

theorem attemptSide_listWork (side : Side) (s : State) : ListWork s (attemptSide side s) := by
  unfold attemptSide; split
  · exact .refl
  · exact dispatchAmong_listWork _ _ _ _

theorem attemptIfListed_listWork (n : Nat) (s : State) : ListWork s (attemptIfListed n s) := by
  unfold attemptIfListed; split
  · exact attemptSide_listWork _ _
  · exact .refl

theorem refillAndAttempt_listWork (side : Side) (s : State) : ListWork s (refillAndAttempt side s) := by
  unfold refillAndAttempt; dsimp only; split
  · exact (attemptSide_listWork _ _).after (refill_listWork _ _)
  · exact refill_listWork _ _

end Sys2Proof.Machine

/-! # A spindle taken in, and a break at the settle limit (R40, R42, R45, R52, R63) -/

namespace Sys2Proof.Machine

open Sys2Proof

/-! ## A spindle taken in (R52, R63, R64) -/

/-- R63, R64: a lock check locks the spindle. -/
theorem enlist_of_lock {n : Nat} {check : LockCheck} {s : State} {reason : LockReason} {count : Nat}
    (h : lockVerdict s.settings.working (spindle s n) (breakTimeOf s n) check = some (reason, count)) :
    enlist n check s =
      tellPlanner (groupOf n)
        (raiseNotice .spindleLocked .warning (.spindle n) (.lock reason count) (changeState n (.locked reason) s)) := by
  simp only [enlist, h]

/-- R52: a spindle its lock check leaves is listed or left unlisted. -/
theorem enlist_of_pass {n : Nat} {check : LockCheck} {s : State}
    (h : lockVerdict s.settings.working (spindle s n) (breakTimeOf s n) check = none) :
    enlist n check s = tellPlanner (groupOf n) (listSpindle n s) := by
  simp only [enlist, h]

theorem tellPlanner_listWork (g : Nat) (s : State) : ListWork s (tellPlanner g s) := (tellPlanner_onlyPlanner g s).listWork

/-- R45: enlisting a spindle leaves a lit lamp lit. -/
theorem enlist_lit {k : Nat} (hk : 1 ≤ k) (n : Nat) (check : LockCheck) {s : State} (h : LampLit k s) :
    LampLit k (enlist n check s) := by
  cases hv : lockVerdict s.settings.working (spindle s n) (breakTimeOf s n) check with
  | none => rw [enlist_of_pass hv]; exact ((tellPlanner_listWork _ _).after (listSpindle_listWork n s)).lit hk h
  | some v =>
    rw [enlist_of_lock (reason := v.1) (count := v.2) hv]
    refine (tellPlanner_listWork _ _).lit hk (LampLit.of_same (s := changeState n (.locked v.1) s) ?_ rfl fun _ => rfl)
    exact h.changeState _ hk fun _ => by simp [SpindleState.code]

theorem takeIn_lit {k : Nat} (hk : 1 ≤ k) (n : Nat) (check : LockCheck) {s : State} (h : LampLit k s) :
    LampLit k (takeIn n check s) := (attemptIfListed_listWork n _).lit hk (enlist_lit hk n check h)

/-- R160: enlisting counts nothing in the open shift, but for what it accrues. -/
theorem enlist_accrued (n : Nat) (check : LockCheck) (s : State) : s.shift.onlyAccrued (enlist n check s).shift := by
  cases hv : lockVerdict s.settings.working (spindle s n) (breakTimeOf s n) check with
  | none => rw [enlist_of_pass hv, (tellPlanner_onlyPlanner _ _).shift, listSpindle_shift]; exact .refl _
  | some v =>
    rw [enlist_of_lock (reason := v.1) (count := v.2) hv, (tellPlanner_onlyPlanner _ _).shift]
    exact changeState_accrued n _ s

theorem takeIn_onlyAccrued (n : Nat) (check : LockCheck) (s : State) : s.shift.onlyAccrued (takeIn n check s).shift :=
  (attemptIfListed_any n _).accrued.after (enlist_accrued n check s)

theorem halted_locked (reason : LockReason) : (SpindleState.locked reason).halted := ⟨rfl, rfl, fun e => nomatch e⟩

theorem halted_broken (c : BreakCause) (t : Nat) : (SpindleState.broken c t).halted := ⟨rfl, rfl, fun e => nomatch e⟩

/-- What taking in makes of a BROKEN spindle: what its halt left of it, its ring and its end breaks stand; it is LOCKED where the check
says so, and otherwise BROKEN or already ordered. -/
structure Spindle.TakenIn (phi : Nat) (verdict : Option (LockReason × Nat)) (c : BreakCause) (time : Nat) (sp x y : Spindle) : Prop where
  halted : sp.Halted phi y
  ring : y.breakRing = x.breakRing
  endBreaks : y.shiftEndBreaks = x.shiftEndBreaks
  locked : ∀ v, verdict = some v → y.state = .locked v.1
  waits : verdict = none → y.state = .broken c time ∨ y.state = .piecing c time

theorem enlist_takenIn {n time : Nat} {c : BreakCause} {s : State} {sp : Spindle} (check : LockCheck) (hn : hasSpindle s n = true)
    (hs : (spindle s n).state = .broken c time) (h : sp.Halted s.delivery.phi (spindle s n)) :
    sp.TakenIn s.delivery.phi (lockVerdict s.settings.working (spindle s n) time check) c time (spindle s n)
      (spindle (enlist n check s) n) := by
  have ht : breakTimeOf s n = time := by rw [breakTimeOf, hs]; rfl
  cases hv : lockVerdict s.settings.working (spindle s n) time check with
  | none =>
    rw [enlist_of_pass (by rw [ht]; exact hv), (tellPlanner_onlyPlanner _ _).spindle n]
    obtain ⟨b, hb⟩ := spindle_listSpindle n s
    rw [hb]
    exact ⟨{ h with }, rfl, rfl, fun _ hx => (nomatch hx), fun _ => .inl hs⟩
  | some v =>
    rw [enlist_of_lock (reason := v.1) (count := v.2) (by rw [ht]; exact hv), (tellPlanner_onlyPlanner _ _).spindle n]
    have hy := spindle_changeState_same n (.locked v.1) s hn
    show sp.TakenIn _ _ c time _ (spindle (changeState n (.locked v.1) s) n)
    rw [hy]
    have hl := halted_locked v.1
    refine ⟨h.changed _ _ hl, (changed_tries _ _ _ _ hl).2.2, changed_shiftEndBreaks _ _ _ _ _, fun w hw => ?_, fun hx => (nomatch hx)⟩
    cases hw; exact changed_state _ _ _ _ _

theorem enlist_delivery (n : Nat) (check : LockCheck) (s : State) : (enlist n check s).delivery = s.delivery :=
  (enlist_turn n check s).delivery

theorem takeIn_takenIn {n time : Nat} {c : BreakCause} {s : State} {sp : Spindle} (check : LockCheck) (hn : hasSpindle s n = true)
    (hs : (spindle s n).state = .broken c time) (h : sp.Halted s.delivery.phi (spindle s n)) :
    sp.TakenIn s.delivery.phi (lockVerdict s.settings.working (spindle s n) time check) c time (spindle s n)
      (spindle (takeIn n check s) n) := by
  have k := enlist_takenIn check hn hs h
  have hp := (attemptIfListed_any n (enlist n check s)).passes n
  obtain ⟨hh, hr, he⟩ := hp.halted (by rw [enlist_delivery]; exact k.halted)
  rw [enlist_delivery] at hh
  refine ⟨hh, hr.trans k.ring, he.trans k.endBreaks, fun v hv => ?_, fun hv => ?_⟩
  · rcases hp.state with h | ⟨c', t', h, -⟩
    · exact h.trans (k.locked v hv)
    · rw [k.locked v hv] at h; cases h
  · rcases hp.state with h' | ⟨c', t', h', hy⟩
    · rcases k.waits hv with hw | hw <;> rw [hw] at h'
      · exact .inl h'
      · exact .inr h'
    · rcases k.waits hv with hw | hw <;> rw [hw] at h' <;> cases h'
      exact .inr hy

/-! ## A confirmed break (R40, R42) -/

theorem confirmBreak_broken {n : Nat} {c : BreakCause} (hc : c ≠ .rovingOut) (s : State) :
    confirmBreak n c s = takeIn n (if c.isEndBreak then .rogue else .none) (struck n c s) := by
  cases c
  case rovingOut => exact absurd rfl hc
  all_goals rfl

/-- What a break at spindle `n` with cause `c` makes of its record but for its state. -/
structure Spindle.BrokenBy (phi : Nat) (c : BreakCause) (sp y : Spindle) : Prop where
  halted : sp.Halted phi y
  endBreaks : y.shiftEndBreaks = if c.isEndBreak = true then min 4294967295 (sp.shiftEndBreaks + 1) else sp.shiftEndBreaks

theorem spindle_struck {n : Nat} {c : BreakCause} {s : State} (hn : hasSpindle s n = true) :
    (spindle (struck n c s) n).state = .broken c s.delivery.now ∧ (spindle s n).BrokenBy s.delivery.phi c (spindle (struck n c s) n) := by
  have hk : hasSpindle (changeState n (.broken c s.delivery.now) s) n = true := by rw [(changeState_turn n _ _).has]; exact hn
  have h := Spindle.Halted.of_changed (spindle s n) s.delivery.driving s.delivery.now s.delivery.phi (halted_broken c s.delivery.now)
  have hb := changed_shiftEndBreaks (spindle s n) s.delivery.driving s.delivery.now s.delivery.phi (.broken c s.delivery.now)
  have hst := changed_state (spindle s n) s.delivery.driving s.delivery.now s.delivery.phi (.broken c s.delivery.now)
  rw [struck, spindle_countBreak c hk, spindle_changeState_same n _ s hn]
  split
  · rename_i hc; exact ⟨hst, { h with }, by rw [if_pos hc]; dsimp only; rw [hb]; rfl⟩
  · rename_i hc; exact ⟨hst, h, by rw [if_neg hc]; exact hb⟩

theorem countBreak_breaks (n : Nat) (c : BreakCause) (s : State) : (countBreak n c s).shift.breaks = s.shift.breaks.bump c := by
  unfold countBreak; dsimp only; split <;> rfl

theorem countBreak_lamps (n : Nat) (c : BreakCause) (s : State) : (countBreak n c s).lamps = s.lamps := by
  unfold countBreak; dsimp only; split <;> rfl

theorem countBreak_state (n m : Nat) (c : BreakCause) (s : State) : (spindle (countBreak n c s) m).state = (spindle s m).state := by
  unfold countBreak; dsimp only; split
  · exact state_updSpindle fun _ => rfl
  · rfl

theorem struck_turn (n : Nat) (c : BreakCause) (s : State) : TurnOf n s (struck n c s) :=
  (countBreak_turn n c _).after (changeState_turn n _ s)

theorem struck_breaks (n : Nat) (c : BreakCause) (s : State) : (struck n c s).shift.breaks = s.shift.breaks.bump c := by
  rw [struck, countBreak_breaks, (changeState_accrued _ _ _).breaks]

theorem struck_lit {n : Nat} (c : BreakCause) {s : State} (hn : hasSpindle s n = true) (hk : sectorOf n ≤ s.lamps.length) :
    LampLit (sectorOf n) (struck n c s) :=
  (lampLit_entered hn hk (st := .broken c s.delivery.now) (by simp [SpindleState.code])).of_same (countBreak_lamps _ _ _)
    fun m => countBreak_state n m c _

/-- What a confirmed break does: it is counted under its cause, books the spindle's pulses and lights the sector's lamp. -/
structure Breaks (n : Nat) (c : BreakCause) (s t : State) : Prop where
  breaks : t.shift.breaks = s.shift.breaks.bump c
  record : (spindle s n).BrokenBy s.delivery.phi c (spindle t n)
  lit : sectorOf n ≤ s.lamps.length → LampLit (sectorOf n) t

theorem lockVerdict_rogue {w : Working} {sp : Spindle} {t : Nat} {v : LockReason × Nat} (h : lockVerdict w sp t .rogue = some v) :
    v.1 = .rogue := by
  unfold lockVerdict at h
  dsimp only at h
  split at h
  · cases h
  · split at h <;> cases h
    rfl

/-- R42, R52, R63: the spindle is BROKEN, already ordered, or LOCKED as a rogue by an end break. -/
theorem confirmBreak_struck {n : Nat} {c : BreakCause} {s : State} (hc : c ≠ .rovingOut) (hn : hasSpindle s n = true) :
    Breaks n c s (confirmBreak n c s) ∧
      ((spindle (confirmBreak n c s) n).state = .broken c s.delivery.now ∨
        (spindle (confirmBreak n c s) n).state = .piecing c s.delivery.now ∨
        c.isEndBreak = true ∧ (spindle (confirmBreak n c s) n).state = .locked .rogue) := by
  rw [confirmBreak_broken hc]
  generalize hcheck : (if c.isEndBreak then LockCheck.rogue else .none) = check
  obtain ⟨hst, hb⟩ := spindle_struck (c := c) hn
  have hd : (struck n c s).delivery = s.delivery := (struck_turn n c s).delivery
  have k := takeIn_takenIn check (by rw [(struck_turn n c s).has]; exact hn) hst (by rw [hd]; exact hb.halted)
  rw [hd] at k
  refine ⟨⟨?_, ⟨k.halted, k.endBreaks.trans hb.endBreaks⟩, fun hk => ?_⟩, ?_⟩
  · rw [(takeIn_onlyAccrued _ _ _).breaks, struck_breaks]
  · exact takeIn_lit (Nat.le_add_left 1 _) n check (struck_lit c hn hk)
  · cases hv : lockVerdict (struck n c s).settings.working (spindle (struck n c s) n) s.delivery.now check with
    | none => exact (k.waits hv).imp_right .inl
    | some v =>
      by_cases he : c.isEndBreak = true
      · rw [if_pos he] at hcheck
        have hr := hv
        rw [← hcheck] at hr
        exact .inr (.inr ⟨he, (k.locked v hv).trans (congrArg _ (lockVerdict_rogue hr))⟩)
      · rw [if_neg he] at hcheck
        rw [← hcheck] at hv; cases hv

/-- R40, R41: with the roving out the spindle waits for roving. -/
theorem confirmBreak_out {n : Nat} {s : State} (hn : hasSpindle s n = true) :
    Breaks n .rovingOut s (confirmBreak n .rovingOut s) ∧
      (spindle (confirmBreak n .rovingOut s) n).state = .waitRoving s.delivery.now := by
  have hst : (SpindleState.waitRoving s.delivery.now).halted := ⟨rfl, rfl, fun e => nomatch e⟩
  have hp : onlyPlanner (countBreak n .rovingOut (enterState n (.waitRoving s.delivery.now) s)) (breakSpindle n .rovingOut s) :=
    expedite_onlyPlanner _ _
  have hx : spindle (breakSpindle n .rovingOut s) n =
      (spindle s n).changed s.delivery.driving s.delivery.now s.delivery.phi (.waitRoving s.delivery.now) := by
    rw [hp.spindle n, spindle_countBreak _ (by rw [(enterState_turn n _ _).has]; exact hn), if_neg (fun e => nomatch e),
      spindle_enterState, spindle_changeState_same n _ s hn]
  have hd : (breakSpindle n .rovingOut s).delivery = s.delivery := (breakSpindle_turn n _ s).delivery
  have hw := (attemptIfListed_any n (breakSpindle n .rovingOut s)).passes n
  rw [hx, hd] at hw
  obtain ⟨hh, -, he⟩ := hw.halted (Spindle.Halted.of_changed (spindle s n) _ _ _ hst)
  refine ⟨⟨?_, ⟨hh, he.trans (changed_shiftEndBreaks _ _ _ _ _)⟩, fun hk => ?_⟩, ?_⟩
  · rw [confirmBreak, (attemptIfListed_any _ _).accrued.breaks, hp.shift, countBreak_breaks, (enterState_accrued _ _ _).breaks]
  · refine (attemptIfListed_listWork n _).lit (Nat.le_add_left 1 _) (hp.listWork.lit (Nat.le_add_left 1 _) ?_)
    refine LampLit.of_same ?_ (countBreak_lamps _ _ _) fun m => countBreak_state n m _ _
    exact (tellPlanner_listWork _ _).lit (Nat.le_add_left 1 _) (lampLit_entered hn hk (by simp [SpindleState.code]))
  · rcases hw.state with h | ⟨c, t, h, -⟩
    · rw [confirmBreak, h, changed_state]
    · rw [changed_state] at h; cases h

/-! ## The settle limit (R40) -/

theorem settleLimit_due {n start : Nat} {origin : SettleOrigin} {s : State} (hi : isSpindle s n = true)
    (hs : (spindle s n).state = .settling origin start) (hu : unsensed s n = false)
    (hd : start + s.settings.working.settleLimit ≤ s.delivery.now) :
    settleLimit n s = confirmBreak n (settleCause s n origin) s := by
  simp only [settleLimit, hs, hi, hu, Bool.not_false, Bool.and_self, decide_eq_true hd, if_true]

theorem settleLimit_not_due {n : Nat} {s : State}
    (h : unsensed s n = true ∨ isSpindle s n = false ∨
      ∀ o x, (spindle s n).state = .settling o x → s.delivery.now < x + s.settings.working.settleLimit) : settleLimit n s = s := by
  unfold settleLimit
  split
  · rename_i o x hs
    rw [if_neg]
    simp only [Bool.and_eq_true, Bool.not_eq_true', decide_eq_true_eq]
    rintro ⟨⟨hi, hu⟩, hd⟩
    rcases h with h | h | h
    · rw [h] at hu; cases hu
    · rw [h] at hi; cases hi
    · exact absurd hd (Nat.not_le.2 (h o x hs))
  · rfl

theorem Spindle.Halted.copRead {s t : State} {x : Spindle} {sp : Spindle} (h : sp.Halted s.delivery.phi x) :
    copRead t x = copRead s sp := by
  have h0 : owedPulses t.delivery.phi x = 0 := by rw [owedPulses, h.state.1]; rfl
  rw [Machine.copRead, h0, h.cop, Machine.copRead, satAdd, satAdd, Config.top32]
  omega

/-- Settles O21: the cause is the spindle's own reading, and the break is confirmed under it. -/
theorem settleLimitBreaksASpindle : Obligations.SettleLimitBreaksASpindle := by
  refine ⟨fun s n start origin hp hi hl hs hu hd => ?_, fun s n hp h => ?_⟩
  · have hn : hasSpindle s n = true := by
      simp only [isSpindle, Bool.and_eq_true, decide_eq_true_eq] at hi
      exact (hasSpindle_iff s n).2 ⟨hi.1, hl⟩
    refine ⟨_, (live_powered _ s hp).trans (congrArg _ (settleLimit_due (s := { s with emitted := [] }) hi hs hu hd)), ?_, ?_⟩
    · exact (confirmBreak_onlyFrame n _ _).keepsOuter
    · have hcause : settleCause { s with emitted := [] } n origin =
          if rovingOut s n then .rovingOut else if origin = .pieced then .notHeld else .noStart := rfl
      dsimp only
      rw [← hcause]
      generalize hc : settleCause { s with emitted := [] } n origin = c
      have hk : c = .rovingOut ∨ c = .notHeld ∨ c = .noStart := by
        rw [← hc, hcause]; split
        · exact .inl rfl
        · split
          · exact .inr (.inl rfl)
          · exact .inr (.inr rfl)
      have hn0 : hasSpindle { s with emitted := [] } n = true := hn
      have B : Breaks n c { s with emitted := [] } (confirmBreak n c { s with emitted := [] }) := by
        by_cases hr : c = .rovingOut
        · subst hr; exact (confirmBreak_out hn0).1
        · exact (confirmBreak_struck hr hn0).1
      refine ⟨B.breaks, B.record.halted.streak, B.record.halted.engaged, B.record.halted.copRead (s := s), fun hl => (B.lit hl).not_off,
        B.record.endBreaks.trans (if_congr (by rcases hk with rfl | rfl | rfl <;> decide) rfl rfl), ?_⟩
      rcases hk with rfl | rfl | rfl
      · exact (confirmBreak_out hn0).2
      · rcases (confirmBreak_struck (c := .notHeld) (by decide) hn0).2 with h | h | ⟨-, h⟩
        exacts [.inl h, .inr (.inl h), .inr (.inr h)]
      · rcases (confirmBreak_struck (c := .noStart) (by decide) hn0).2 with h | h | ⟨h, -⟩
        exacts [.inl h, .inr h, nomatch h]
  · exact (live_powered _ s hp).trans (congrArg _ (settleLimit_not_due (s := { s with emitted := [] }) h))

end Sys2Proof.Machine

/-! # Lock Spindle and Release Spindle (R44, R45, R52, R54, R66, R67) -/

namespace Sys2Proof.Machine

open Sys2Proof

/-! ## Lock Spindle (R66) -/

theorem refillAndAttempt_apart {side : Side} {n : Nat} {s : State} (h : Apart side n s) :
    Apart side n (refillAndAttempt side s) ∧ spindle (refillAndAttempt side s) n = spindle s n := by
  obtain ⟨h1, e1⟩ := refill_apart side h
  unfold refillAndAttempt; dsimp only; split
  · obtain ⟨h2, e2⟩ := attemptSide_apart h1
    exact ⟨h2, e2.trans e1⟩
  · exact ⟨h1, e1⟩

theorem sideOf_of_tables {s t : State} (h : onlyTables s t) (n : Nat) : sideOf t n = sideOf s n := by
  obtain ⟨_, rfl⟩ := h; rfl

/-- R54: a spindle that leaves its list for another state stands apart from the list, its state changed and its flag cleared. -/
theorem leaveBroken_leaves {n : Nat} {s : State} (st : SpindleState) (hn : hasSpindle s n = true) :
    Apart (sideOf s n) n (leaveBroken n st s) ∧
      spindle (leaveBroken n st s) n =
        { spindle s n with unlisted := false }.changed s.delivery.driving s.delivery.now s.delivery.phi st := by
  refine ⟨enterState_apart st (dropFromList_apart hn), ?_⟩
  have hd : (dropFromList n s).delivery = s.delivery := (dropFromList_turn n s).delivery
  rw [leaveBroken, spindle_enterState, spindle_changeState_same n st _ (by rw [(dropFromList_turn n s).has]; exact hn),
    spindle_dropFromList hn, hd]

/-- R54, R55, R66: and so it stays through the refill and the dispatch that follow. -/
theorem leaveList_leaves {n : Nat} {s : State} (st : SpindleState) (hn : hasSpindle s n = true) :
    listed (leaveList n st s) n = false ∧
      spindle (leaveList n st s) n =
        { spindle s n with unlisted := false }.changed s.delivery.driving s.delivery.now s.delivery.phi st := by
  obtain ⟨ha, he⟩ := leaveBroken_leaves st hn
  obtain ⟨ha', he'⟩ := refillAndAttempt_apart ha
  refine ⟨Apart.listed ?_, he'.trans he⟩
  rw [sideOf_of_tables (leaveList_onlyTables n st s)]; exact ha'

theorem leaveList_breaks (n : Nat) (st : SpindleState) (s : State) : (leaveList n st s).shift.breaks = s.shift.breaks := by
  rw [leaveList, (refillAndAttempt_any _ _).accrued.breaks, leaveBroken, (enterState_accrued _ _ _).breaks,
    (dropFromList_dispatches (W := fun _ => True) n s).accrued.breaks]

/-- R45: the lamp of a sector with a LOCKED spindle flashes. -/
theorem LampLit.flashing {k n : Nat} {s : State} (h : LampLit k s) (hn : n ∈ spindlesOfSector k) (h7 : (spindle s n).state.code = 7) :
    lampOf s k = { state := .flashing, hold := none } := by
  rw [h.shows, if_pos ⟨n, hn, h7⟩]

theorem leaveList_locked_lamp {n : Nat} {s : State} (reason : LockReason) (hn : hasSpindle s n = true)
    (hk : sectorOf n ≤ s.lamps.length) :
    lampOf (leaveList n (.locked reason) s) (sectorOf n) = { state := .flashing, hold := none } := by
  have h1 : 1 ≤ sectorOf n := Nat.le_add_left 1 _
  have hl : LampLit (sectorOf n) (changeState n (.locked reason) (dropFromList n s)) := by
    refine lampLit_entered ?_ ?_ (by simp [SpindleState.code])
    · rw [(dropFromList_turn n s).has]; exact hn
    · rw [dropFromList, setPieceList_lamps]; exact hk
  have hlit := (refillAndAttempt_listWork (sideOf s n) _).lit h1 ((tellPlanner_listWork (groupOf n) _).lit h1 hl)
  refine LampLit.flashing hlit (mem_spindlesOfSector_sectorOf ((hasSpindle_iff s n).1 hn).1) ?_
  show (spindle (leaveList n (.locked reason) s) n).state.code = 7
  rw [(leaveList_leaves _ hn).2, changed_state]; rfl

theorem exec_lockSpindle {s : State} (hi lo : Byte) (h : lineReady s) :
    exec (.lockSpindle [hi, lo]) s = .next (hold 0x14 (answerLock (hi.toNat * 256 + lo.toNat) { s with emitted := [] })) := by
  refine (takeRequest_ready 0x14 _ _ s h).trans ?_
  rw [show bodyNumber [hi, lo] 0 2 = hi.toNat * 256 + lo.toNat from numberOf_two hi lo]
  rfl

theorem hasSpindle_of_isSpindle {s : State} {n : Nat} (hi : isSpindle s n = true) (hl : n ≤ s.spindles.length) :
    hasSpindle s n = true := by
  simp only [isSpindle, Bool.and_eq_true, decide_eq_true_eq] at hi
  exact (hasSpindle_iff s n).2 ⟨hi.1, hl⟩

/-- R66: the spindle locked by request, and the frame around it. -/
theorem lockedByRequest {s : State} {n : Nat} (hn : hasSpindle s n = true) :
    let t := hold 0x14 (taken (leaveList n (.locked .byRequest) { s with emitted := [] }))
    keepsOuter (withReply 0x14 okBody .none s) t ∧ keepsReports s t ∧
      (spindle t n).state = .locked .byRequest ∧ (spindle t n).stopEngaged = true ∧ (spindle t n).unlisted = false ∧
      (spindle t n).copPulses = copRead s (spindle s n) ∧ (spindle t n).breakRing = (spindle s n).breakRing ∧
      (spindle t n).attempts = (spindle s n).attempts ∧ (spindle t n).failures = (spindle s n).failures ∧
      listed t n = false ∧ t.shift.breaks = s.shift.breaks ∧
      (sectorOf n ≤ s.lamps.length → lampOf t (sectorOf n) = { state := .flashing, hold := none }) := by
  have hn0 : hasSpindle { s with emitted := [] } n = true := hn
  obtain ⟨hlist, hsp⟩ := leaveList_leaves (.locked .byRequest) hn0
  have hb := leaveList_breaks n (.locked .byRequest) { s with emitted := [] }
  have hlamp := leaveList_locked_lamp .byRequest hn0
  obtain ⟨u, hu⟩ := leaveList_onlyTables n (.locked .byRequest) { s with emitted := [] }
  have H := Spindle.Halted.of_changed { spindle s n with unlisted := false } s.delivery.driving s.delivery.now s.delivery.phi
    (halted_locked .byRequest)
  obtain ⟨ha, hf, hr⟩ := changed_tries { spindle s n with unlisted := false } s.delivery.driving s.delivery.now s.delivery.phi
    (halted_locked .byRequest)
  generalize leaveList n (.locked .byRequest) { s with emitted := [] } = t at *
  have hs (x : Spindle → Prop)
      (hx : x ({ spindle s n with unlisted := false }.changed s.delivery.driving s.delivery.now s.delivery.phi (.locked .byRequest))) :
      x (spindle (hold 0x14 (taken t)) n) := by
    have he : spindle (hold 0x14 (taken t)) n = spindle t n := rfl
    rw [he, hsp]; exact hx
  refine ⟨?_, ?_, hs (·.state = _) (changed_state _ _ _ _ _), hs (·.stopEngaged = true) H.engaged,
    hs (·.unlisted = false) (changed_unlisted _ _ _ _ _), hs (·.copPulses = _) H.cop, hs (·.breakRing = _) hr, hs (·.attempts = _) ha,
    hs (·.failures = _) hf, hlist, hb, hlamp⟩
  · rw [hu]; exact ⟨⟨rfl, rfl, rfl, rfl, rfl, rfl, rfl, rfl, rfl, rfl, rfl⟩, rfl, rfl⟩
  · rw [hu]; exact ⟨rfl, rfl⟩

theorem answerLock_of_state {s : State} {n : Nat} {st : SpindleState} (hi : isSpindle s n = true) :
    (spindle s n).state = st → answerLock n s =
      match st with
      | .withheld => refuse .withheld s
      | .piecing _ _ => refuse .wrongState s
      | .locked _ => taken (updSpindle n (fun x => { x with state := .locked .byRequest }) s)
      | _ => taken (leaveList n (.locked .byRequest) s) := by
  rintro rfl
  refine (if_pos hi).trans ?_
  cases (spindle s n).state <;> rfl

/-! ## Release Spindle (R67) -/

theorem exec_releaseSpindle {s : State} (hi lo : Byte) (h : lineReady s) :
    exec (.releaseSpindle [hi, lo]) s = .next (hold 0x15 (answerRelease (hi.toNat * 256 + lo.toNat) { s with emitted := [] })) := by
  refine (takeRequest_ready 0x15 _ _ s h).trans ?_
  rw [show bodyNumber [hi, lo] 0 2 = hi.toNat * 256 + lo.toNat from numberOf_two hi lo]
  rfl

theorem answerRelease_of_state {s : State} {n : Nat} {st : SpindleState} (hi : isSpindle s n = true) :
    (spindle s n).state = st → answerRelease n s =
      match st with
      | .withheld => refuse .withheld s
      | .locked _ => taken (releaseLocked n s)
      | _ => refuse .wrongState s := by
  rintro rfl
  refine (if_pos hi).trans ?_
  cases (spindle s n).state <;> rfl

/-- R67: the state in which a released spindle is taken in. -/
def unlocked (n : Nat) (s : State) : State := changeState n (.broken .yarn s.delivery.now) (updSpindle n Spindle.pardoned s)

theorem unlocked_turn (n : Nat) (s : State) : TurnOf n s (unlocked n s) :=
  (changeState_turn n _ _).after (updSpindle_turn n _ s)

theorem spindle_unlocked {n : Nat} {s : State} (hn : hasSpindle s n = true) :
    spindle (unlocked n s) n =
      (spindle s n).pardoned.changed s.delivery.driving s.delivery.now s.delivery.phi (.broken .yarn s.delivery.now) := by
  have hk : hasSpindle (updSpindle n Spindle.pardoned s) n = true := by rw [(updSpindle_turn n _ s).has]; exact hn
  rw [unlocked, spindle_changeState_same n _ _ hk, spindle_updSpindle, if_pos ⟨rfl, hn⟩]
  rfl

theorem releaseLocked_breaks (n : Nat) (s : State) : (releaseLocked n s).shift.breaks = s.shift.breaks := by
  rw [releaseLocked, (takeIn_accrued n _).breaks, (changeState_accrued n _ _).breaks]; rfl

/-- R52, R67: the spindle is BROKEN with a clean record, and may be ordered at once. -/
theorem releaseLocked_record {n : Nat} {s : State} (hn : hasSpindle s n = true) :
    (spindle s n).pardoned.TakenIn s.delivery.phi none .yarn s.delivery.now (spindle (unlocked n s) n) (spindle (releaseLocked n s) n) := by
  have hd : (unlocked n s).delivery = s.delivery := (unlocked_turn n s).delivery
  have hsp := spindle_unlocked hn
  have k := takeIn_takenIn (n := n) (s := unlocked n s) (sp := (spindle s n).pardoned) (c := .yarn) (time := s.delivery.now) .none
    (by rw [(unlocked_turn n s).has]; exact hn) (by rw [hsp]; exact changed_state _ _ _ _ _)
    (by rw [hsp, hd]; exact Spindle.Halted.of_changed _ _ _ _ (halted_broken _ _))
  rw [hd] at k
  exact k

/-- R83: taking a spindle in locks no other spindle, and unlocks none. -/
theorem takeIn_locked_iff (n m : Nat) (s : State) :
    (spindle (takeIn n .none s) m).state.code = 7 ↔ (spindle s m).state.code = 7 := by
  rcases (takeIn_handled n m s).state with h | ⟨c, t, h, h'⟩
  · rw [h]
  · rw [h, h']; simp [SpindleState.code]

/-- R45: the lamp goes on flashing for another LOCKED spindle of the sector alone. -/
theorem releaseLocked_lamp {n : Nat} {s : State} (hn : hasSpindle s n = true) (hk : sectorOf n ≤ s.lamps.length) :
    lampOf (releaseLocked n s) (sectorOf n) =
      { state := if ∃ m ∈ spindlesOfSector (sectorOf n), m ≠ n ∧ (spindle s m).state.code = 7 then .flashing else .steady
        hold := none } := by
  have hl : LampLit (sectorOf n) (unlocked n s) :=
    lampLit_entered (by rw [(updSpindle_turn n _ s).has]; exact hn) hk (by simp [SpindleState.code])
  have hlit : LampLit (sectorOf n) (releaseLocked n s) := takeIn_lit (Nat.le_add_left 1 _) n .none hl
  have hself : (spindle (releaseLocked n s) n).state.code ≠ 7 := by
    rcases (releaseLocked_record hn).waits rfl with h | h <;> rw [h] <;> simp [SpindleState.code]
  have hother (m : Nat) (hm : m ≠ n) : (spindle (releaseLocked n s) m).state.code = 7 ↔ (spindle s m).state.code = 7 := by
    refine (takeIn_locked_iff n m (unlocked n s)).trans ?_
    rw [(unlocked_turn n s).others m hm]
  have he : (∃ m ∈ spindlesOfSector (sectorOf n), (spindle (releaseLocked n s) m).state.code = 7) ↔
      ∃ m ∈ spindlesOfSector (sectorOf n), m ≠ n ∧ (spindle s m).state.code = 7 := by
    refine exists_congr fun m => and_congr_right fun _ => ?_
    by_cases hm : m = n
    · subst hm; exact ⟨fun h => absurd h hself, fun h => absurd rfl h.1⟩
    · exact (hother m hm).trans ⟨fun h => ⟨hm, h⟩, fun h => h.2⟩
  rw [hlit.shows]
  simp only [he]

theorem keepsOuter_hold_taken {kind : Nat} {s u : State} (h : onlyFrame { s with emitted := [] } u) :
    keepsOuter (withReply kind okBody .none s) (hold kind (taken u)) := by
  obtain ⟨v, rfl⟩ := h
  exact ⟨⟨rfl, rfl, rfl, rfl, rfl, rfl, rfl, rfl, rfl, rfl, rfl⟩, rfl, rfl⟩

theorem releaseLocked_onlyFrame (n : Nat) (s : State) : onlyFrame s (releaseLocked n s) :=
  (takeIn_onlyFrame n .none _).after ((changeState_onlyTables n _ _).toFrame.after (updSpindle_onlyTables n _ s).toFrame)

/-- R67: the spindle released, and the frame around it. -/
theorem releasedByRequest {s : State} {n : Nat} (hn : hasSpindle s n = true) :
    let t := hold 0x15 (taken (releaseLocked n { s with emitted := [] }))
    keepsOuter (withReply 0x15 okBody .none s) t ∧
      ((spindle t n).state = .broken .yarn s.delivery.now ∨ (spindle t n).state = .piecing .yarn s.delivery.now) ∧
      (spindle t n).breakRing = [] ∧ (spindle t n).attempts = 0 ∧ (spindle t n).failures = 0 ∧
      (spindle t n).shiftEndBreaks = (spindle s n).shiftEndBreaks ∧
      copRead t (spindle t n) = copRead s (spindle s n) ∧ t.shift.breaks = s.shift.breaks ∧
      (sectorOf n ≤ s.lamps.length →
        lampOf t (sectorOf n) =
          { state := if ∃ m ∈ spindlesOfSector (sectorOf n), m ≠ n ∧ (spindle s m).state.code = 7 then .flashing else .steady
            hold := none }) := by
  have hn0 : hasSpindle { s with emitted := [] } n = true := hn
  have k := releaseLocked_record hn0
  have hsp := spindle_unlocked hn0
  have hb := releaseLocked_breaks n { s with emitted := [] }
  have hl := releaseLocked_lamp hn0
  have ho := keepsOuter_hold_taken (kind := 0x15) (releaseLocked_onlyFrame n { s with emitted := [] })
  have hst := halted_broken .yarn s.delivery.now
  have hr := k.ring.trans ((congrArg Spindle.breakRing hsp).trans (changed_tries _ _ _ _ hst).2.2)
  have he := k.endBreaks.trans ((congrArg Spindle.shiftEndBreaks hsp).trans (changed_shiftEndBreaks _ _ _ _ _))
  generalize releaseLocked n { s with emitted := [] } = u at *
  have hc := k.halted.copRead (s := s) (t := hold 0x15 (taken u))
  exact ⟨ho, k.waits rfl, hr, k.halted.attempts, k.halted.failures, he, hc, hb, hl⟩

/-- Settles O24: both requests by the state of the spindle; the lamp by what its sector holds afterwards. -/
theorem lockAndReleaseSpindle : Obligations.LockAndReleaseSpindle := by
  refine ⟨fun s hi lo h hl => ?_, fun s hi lo h hl => ?_⟩
  · rw [exec_lockSpindle hi lo h]
    generalize hi.toNat * 256 + lo.toNat = n at *
    dsimp only
    split
    · rename_i hi0
      rw [answerLock, if_neg (by rw [Bool.not_eq_true]; exact hi0)]
      rfl
    · rename_i hi0
      rw [Bool.not_eq_false] at hi0
      have hn := hasSpindle_of_isSpindle hi0 hl
      cases hs : (spindle s n).state <;> rw [answerLock_of_state (s := { s with emitted := [] }) hi0 hs] <;> dsimp only
      case withheld => rfl
      case piecing => rfl
      case locked => rfl
      all_goals exact ⟨_, rfl, lockedByRequest hn⟩
  · rw [exec_releaseSpindle hi lo h]
    generalize hi.toNat * 256 + lo.toNat = n at *
    dsimp only
    split
    · rename_i hi0
      rw [answerRelease, if_neg (by rw [Bool.not_eq_true]; exact hi0)]
      rfl
    · rename_i hi0
      rw [Bool.not_eq_false] at hi0
      have hn := hasSpindle_of_isSpindle hi0 hl
      cases hs : (spindle s n).state <;> rw [answerRelease_of_state (s := { s with emitted := [] }) hi0 hs] <;> dsimp only
      case withheld => rfl
      case locked => exact ⟨_, rfl, releasedByRequest hn⟩
      all_goals rfl

end Sys2Proof.Machine

/-! # The carriages under the dispatcher's work, and the end of an order (R76, R83, R87) -/

namespace Sys2Proof.Machine

open Sys2Proof

/-! ## A carriage that is given an order (R83) -/

/-- R83: a record stands, or from READY has taken one order: BUSY in its place, its tag the next, its orders counted. -/
inductive Carriage.Ordered (c : Carriage) : Carriage → Prop where
  | stands : Ordered c c
  | given {st : Station} {side : Side} {pos : Nat} {dir : Direction} (o : Order) (k : Nat) :
      c.link = .enrolled st side pos dir .ready → o.tag = (c.tag + 1) % 16 →
        Ordered c { c with link := .enrolled st side pos dir (.busy o), tag := (c.tag + 1) % 16, counters := { c.counters with orders := k } }

namespace Carriage.Ordered

variable {c d e : Carriage}

theorem trans (h : c.Ordered d) (k : d.Ordered e) : c.Ordered e := by
  cases h with
  | stands => exact k
  | given o x hl ht =>
    cases k with
    | stands => exact .given o x hl ht
    | given _ _ hm _ => cases hm

theorem eq_of_not_ready (h : c.Ordered d) (hr : c.link.isReady = false) : d = c := by
  cases h with
  | stands => rfl
  | given _ _ hl _ => rw [hl] at hr; cases hr

/-- R142: a record given an order was not clear of the frame, and is not. -/
theorem isClear (h : c.Ordered d) : d.link.isClear = c.link.isClear := by
  cases h with
  | stands => rfl
  | given _ _ hl _ => rw [hl]; rfl

end Carriage.Ordered

/-- Each record stands or has taken one order. -/
def CarsOrdered (s t : State) : Prop := ∀ q, (carriage s q).Ordered (carriage t q)

theorem CarsOrdered.refl (s : State) : CarsOrdered s s := fun _ => .stands

theorem CarsOrdered.after {s t u : State} (k : CarsOrdered t u) (h : CarsOrdered s t) : CarsOrdered s u :=
  fun q => (h q).trans (k q)

theorem CarsOrdered.of_same {s t : State} (h1 : t.car1 = s.car1) (h2 : t.car2 = s.car2) : CarsOrdered s t := by
  intro q
  cases q
  · rw [carriage, carriage, h1]; exact .stands
  · rw [carriage, carriage, h2]; exact .stands

theorem onlyLists.cars {s t : State} (h : onlyLists s t) : CarsOrdered s t := by
  obtain ⟨_, rfl⟩ := h; exact .of_same rfl rfl

theorem onlyPlanner.cars {s t : State} (h : onlyPlanner s t) : CarsOrdered s t := by
  obtain ⟨_, rfl⟩ := h; exact .of_same rfl rfl

theorem raiseFault_cars (c : FaultClass) (x : Subject) (d : Detail) (s : State) : CarsOrdered s (raiseFault c x d s) := by
  rw [raiseFault_eq]; exact .of_same rfl rfl

/-- R83: an order is given to one READY record. -/
theorem issueOrder_cars {r : RecordNo} {st : Station} {side : Side} {pos : Nat} {dir : Direction} {s : State} (e : Entry) (carried : Bool)
    (hl : (carriage s r).link = .enrolled st side pos dir .ready) : CarsOrdered s (issueOrder r e carried s) := by
  have given (t : State) (ht : onlyLists s t) (o : Order) (ho : o.tag = ((carriage s r).tag + 1) % 16) :
      CarsOrdered s (countIssued (updCarriage r (fun c =>
        { c with
          link := c.link.withWork (.busy o)
          tag := ((carriage s r).tag + 1) % 16
          counters := { c.counters with orders := satAdd Config.top32 c.counters.orders 1 } }) t)) := by
    obtain ⟨u, rfl⟩ := ht
    intro q
    by_cases hq : q = r
    · subst hq
      have h := Carriage.Ordered.given o (satAdd Config.top32 (carriage s q).counters.orders 1) hl ho
      cases q
      · rw [carriage] at h hl ⊢; simp only [countIssued, updCarriage, hl, CarriageLink.withWork]; exact h
      · rw [carriage] at h hl ⊢; simp only [countIssued, updCarriage, hl, CarriageLink.withWork]; exact h
    · cases q with
      | one =>
        cases r with
        | one => exact absurd rfl hq
        | two => exact .stands
      | two =>
        cases r with
        | one => exact .stands
        | two => exact absurd rfl hq
  unfold issueOrder; dsimp only
  refine given _ ?_ _ rfl
  exact (enterState_onlyRecords _ _ _).lists.after <| (refillUpTo_onlyLists _ _ _).after <|
    (dropFromList_onlyLists _ _).after <| (emit_onlyPlanner _ _).records.lists.after (updLock_onlyLists _ _ _)

theorem dispatchAmong_cars (allowed : Entry → Bool) (carried : Bool) (r : RecordNo) (s : State) :
    CarsOrdered s (dispatchAmong allowed carried r s) := by
  unfold dispatchAmong; split
  · rename_i hl
    split
    · split
      · exact issueOrder_cars _ _ hl
      · exact .refl s
    · exact .refl s
  · exact .refl s

theorem attemptSide_cars (side : Side) (s : State) : CarsOrdered s (attemptSide side s) := by
  unfold attemptSide; split
  · exact .refl s
  · exact dispatchAmong_cars _ _ _ _

theorem attemptIfListed_cars (n : Nat) (s : State) : CarsOrdered s (attemptIfListed n s) := by
  unfold attemptIfListed; split
  · exact attemptSide_cars _ _
  · exact .refl s

theorem releaseLock_cars (k : Nat) (s : State) : CarsOrdered s (releaseLock k s) := by
  unfold releaseLock; split
  · exact (plannerGranted_onlyPlanner _).cars.after (.of_same rfl rfl)
  · exact (attemptSide_cars _ _).after (.of_same rfl rfl)
  · exact .refl s

theorem listSpindle_cars (n : Nat) (s : State) : CarsOrdered s (listSpindle n s) := by
  unfold listSpindle; dsimp only; split
  · exact (makeEntry_onlyLists n false s).cars
  · split
    · exact (raiseFault_cars _ _ _ _).after (.of_same rfl rfl)
    · exact .of_same rfl rfl

theorem changeState_cars (n : Nat) (st : SpindleState) (s : State) : CarsOrdered s (changeState n st s) :=
  (changeState_onlyRecords n st s).lists.cars

theorem enterState_cars (n : Nat) (st : SpindleState) (s : State) : CarsOrdered s (enterState n st s) :=
  (enterState_onlyRecords n st s).lists.cars

theorem enlist_cars (n : Nat) (check : LockCheck) (s : State) : CarsOrdered s (enlist n check s) := by
  cases hv : lockVerdict s.settings.working (spindle s n) (breakTimeOf s n) check with
  | none => rw [enlist_of_pass hv]; exact (tellPlanner_onlyPlanner _ _).cars.after (listSpindle_cars n s)
  | some v =>
    rw [enlist_of_lock (reason := v.1) (count := v.2) hv]
    exact (tellPlanner_onlyPlanner _ _).cars.after ((CarsOrdered.of_same rfl rfl).after (changeState_cars n (.locked v.1) s))

theorem takeIn_cars (n : Nat) (check : LockCheck) (s : State) : CarsOrdered s (takeIn n check s) :=
  (attemptIfListed_cars n _).after (enlist_cars n check s)

theorem returnToBroken_cars (n : Nat) (check : LockCheck) (s : State) : CarsOrdered s (returnToBroken n check s) := by
  unfold returnToBroken; split
  · split
    · exact enterState_cars _ _ _
    · exact (takeIn_cars _ _ _).after (changeState_cars _ _ _)
  · exact .refl s

theorem pieceDone_cars (n : Nat) (s : State) : CarsOrdered s (pieceDone n s) := by
  unfold pieceDone; split
  · split
    · exact enterState_cars _ _ _
    · exact enterState_cars _ _ _
  · exact .refl s

/-! ## The piecing sums (R160) -/

theorem enterState_piecing (n : Nat) (st : SpindleState) (s : State) : (enterState n st s).shift.piecing = s.shift.piecing := by
  rw [enterState, (tellPlanner_onlyPlanner _ _).shift, piecing_changeState]

theorem enlist_piecing (n : Nat) (check : LockCheck) (s : State) : (enlist n check s).shift.piecing = s.shift.piecing := by
  cases hv : lockVerdict s.settings.working (spindle s n) (breakTimeOf s n) check with
  | none => rw [enlist_of_pass hv, (tellPlanner_onlyPlanner _ _).shift, listSpindle_shift]
  | some v =>
    rw [enlist_of_lock (reason := v.1) (count := v.2) hv, (tellPlanner_onlyPlanner _ _).shift]
    exact piecing_changeState n _ s

/-- R160: of the piecing sums, the orders issued alone may have been counted. -/
def SumsStand (s t : State) : Prop := ∃ k, t.shift.piecing = { s.shift.piecing with issued := k }

theorem SumsStand.of_eq {s t : State} (h : t.shift.piecing = s.shift.piecing) : SumsStand s t := ⟨s.shift.piecing.issued, h⟩

theorem SumsStand.after {s t u : State} (k : SumsStand t u) (h : SumsStand s t) : SumsStand s u := by
  obtain ⟨x, hx⟩ := h
  obtain ⟨y, hy⟩ := k
  exact ⟨y, by rw [hy, hx]⟩

theorem takeIn_sums (n : Nat) (check : LockCheck) (s : State) : SumsStand s (takeIn n check s) :=
  SumsStand.after (attemptIfListed_listWork n _).piecing (.of_eq (enlist_piecing n check s))

theorem returnToBroken_sums (n : Nat) (check : LockCheck) (s : State) : SumsStand s (returnToBroken n check s) := by
  unfold returnToBroken; split
  · split
    · exact .of_eq (enterState_piecing _ _ _)
    · exact (takeIn_sums _ _ _).after (.of_eq (piecing_changeState _ _ _))
  · exact .of_eq rfl

theorem pieceDone_sums (n : Nat) (s : State) : SumsStand s (pieceDone n s) := by
  unfold pieceDone; split
  · split
    · exact .of_eq (enterState_piecing _ _ _)
    · exact .of_eq (enterState_piecing _ _ _)
  · exact .of_eq rfl

theorem releaseLock_sums (k : Nat) (s : State) : SumsStand s (releaseLock k s) := by
  unfold releaseLock; split
  · exact (onlyPlanner.listWork (plannerGranted_onlyPlanner _)).piecing
  · exact (attemptSide_listWork _ _).piecing
  · exact .of_eq rfl

/-! ## The work that follows an order (R87) -/

/-- What the end of an order does once the record has left BUSY: the lock carried over or released, and a dispatch. -/
def afterOrder (r : RecordNo) (k : Nat) (s : State) : State :=
  if carryOverAllowed s r k then dispatchCarried k r s else dispatch r (releaseLock k s)

theorem afterOrder_any (r : RecordNo) (k : Nat) (s : State) : DispatchesAny s (afterOrder r k s) := by
  unfold afterOrder; split
  · exact dispatchCarried_any _ _ _
  · exact (dispatch_any _ _).after (releaseLock_any _ _)

theorem afterOrder_cars (r : RecordNo) (k : Nat) (s : State) : CarsOrdered s (afterOrder r k s) := by
  unfold afterOrder; split
  · exact dispatchAmong_cars _ _ _ _
  · exact (dispatchAmong_cars _ _ _ _).after (releaseLock_cars _ _)

theorem afterOrder_sums (r : RecordNo) (k : Nat) (s : State) : SumsStand s (afterOrder r k s) := by
  unfold afterOrder; split
  · exact (dispatchAmong_listWork _ _ _ _).piecing
  · exact SumsStand.after (dispatchAmong_listWork _ _ _ _).piecing (releaseLock_sums _ _)

theorem completeOrder_eq (r : RecordNo) (o : Order) (s : State) :
    completeOrder r o s =
      testClear (afterOrder r (sectorOf o.spindle)
        (updCarriage r (fun c => { c with link := c.link.withWork (if o.parkPending then .parking else .ready) }) s)) := rfl

theorem frameClear_of {s : State} {r : RecordNo} (h : (carriage s r).link.isClear = false) : frameClear s = false := by
  cases r <;> simp_all [frameClear, carriage]

/-- R142: while a record is not clear, the test finds the frame not clear. -/
theorem testClear_of_not_clear {s : State} {r : RecordNo} (h : (carriage s r).link.isClear = false) : testClear s = s := by
  unfold testClear
  rw [frameClear_of h]
  split <;> rfl

/-- R87: the work a record has left an order for stands in the way of a clear frame. -/
theorem completeOrder_enrolled {r : RecordNo} {o : Order} {s : State} {st : Station} {side : Side} {pos : Nat} {dir : Direction}
    (hl : (carriage s r).link = .enrolled st side pos dir (.busy o)) :
    completeOrder r o s =
      afterOrder r (sectorOf o.spindle)
        (updCarriage r (fun c => { c with link := c.link.withWork (if o.parkPending then .parking else .ready) }) s) := by
  rw [completeOrder_eq]
  refine testClear_of_not_clear (r := r) ?_
  rw [(afterOrder_cars _ _ _ r).isClear, carriage_updCarriage, if_pos rfl, hl]
  cases o.parkPending <;> rfl

end Sys2Proof.Machine

/-! # A RESULT of the current order (R44, R64, R85 to R87) -/

namespace Sys2Proof.Machine

open Sys2Proof

/-! ## A message of a station (R72, R91) -/

theorem fromStation_record {s : State} {station : Nat} {r : RecordNo} (act : RecordNo → State → State)
    (h : recordOfStation s station = some r) : fromStation station act { s with emitted := [] } = act r (heardFrom r s) := by
  have h' : recordOfStation { s with emitted := [] } station = some r := h
  simp only [fromStation, h']
  rfl

theorem carriage_heardFrom (r q : RecordNo) (s : State) :
    carriage (heardFrom r s) q =
      if q = r then { carriage s q with linkTimer := some (s.delivery.now + 5) } else carriage s q := by
  cases r <;> cases q <;> rfl

/-- R91: a sign of life leaves everything but the records of the carriages and the messages sent. -/
theorem heardFrom_eq (r : RecordNo) (s : State) :
    ∃ u : State, heardFrom r s = { s with emitted := [], car1 := u.car1, car2 := u.car2 } :=
  ⟨heardFrom r s, by cases r <;> rfl⟩

theorem keepsBoard_heardFrom {r : RecordNo} {s t : State} (h : keepsBoard (heardFrom r s) t) : keepsBoard s t := by
  cases r <;> exact h

/-! ## The outcome in the three places where it counts (R85, R86, R160) -/

/-- R160: an outcome counted in the open shift. -/
def sumsAfter (x : OrderOutcome) (p : PiecingCounts) : PiecingCounts :=
  match x with
  | .pieced => { p with pieced := satAdd Config.top32 p.pieced 1 }
  | .failed => { p with failed := satAdd Config.top32 p.failed 1 }
  | .notReached => { p with notReached := satAdd Config.top32 p.notReached 1 }
  | .cancelled => { p with cancelled := satAdd Config.top32 p.cancelled 1 }

/-- R85: an outcome counted in the record; a CANCELLED is not. -/
def recordAfter (x : OrderOutcome) (c : CarriageCounters) : CarriageCounters :=
  match x with
  | .pieced => { c with pieced := satAdd Config.top32 c.pieced 1 }
  | .failed => { c with failed := satAdd Config.top32 c.failed 1 }
  | .notReached => { c with notReached := satAdd Config.top32 c.notReached 1 }
  | .cancelled => c

/-- R44, R85: an outcome at the spindle. -/
def outcomeAt (x : OrderOutcome) (n : Nat) (s : State) : State :=
  match x with
  | .pieced => pieceDone n (updSpindle n (fun sp => sp.tried false) s)
  | .failed => returnToBroken n .failure (updSpindle n (fun sp => sp.tried true) s)
  | .notReached => returnToBroken n .none s
  | .cancelled => returnToBroken n .none s

theorem settleOutcome_eq (r : RecordNo) (o : Order) (x : OrderOutcome) (s : State) :
    settleOutcome r o x s = updPiecing (sumsAfter x) (updCounters r (recordAfter x) (outcomeAt x o.spindle s)) := by
  cases x
  case cancelled => cases r <;> rfl
  all_goals rfl

theorem updSpindle_cars (n : Nat) (f : Spindle → Spindle) (s : State) : CarsOrdered s (updSpindle n f s) := .of_same rfl rfl

theorem outcomeAt_cars (x : OrderOutcome) (n : Nat) (s : State) : CarsOrdered s (outcomeAt x n s) := by
  cases x
  · exact (pieceDone_cars _ _).after (updSpindle_cars _ _ _)
  · exact (returnToBroken_cars _ _ _).after (updSpindle_cars _ _ _)
  · exact returnToBroken_cars _ _ _
  · exact returnToBroken_cars _ _ _

theorem outcomeAt_sums (x : OrderOutcome) (n : Nat) (s : State) : SumsStand s (outcomeAt x n s) := by
  cases x
  · exact (pieceDone_sums _ _).after (.of_eq rfl)
  · exact (returnToBroken_sums _ _ _).after (.of_eq rfl)
  · exact returnToBroken_sums _ _ _
  · exact returnToBroken_sums _ _ _

theorem returnToBroken_accrued (n : Nat) (check : LockCheck) (s : State) : s.shift.onlyAccrued (returnToBroken n check s).shift := by
  unfold returnToBroken; split
  · split
    · exact enterState_accrued _ _ _
    · exact (takeIn_onlyAccrued _ _ _).after (changeState_accrued _ _ _)
  · exact .refl _

theorem pieceDone_accrued (n : Nat) (s : State) : s.shift.onlyAccrued (pieceDone n s).shift := by
  unfold pieceDone; split
  · split
    · exact enterState_accrued _ _ _
    · exact enterState_accrued _ _ _
  · exact .refl _

theorem outcomeAt_accrued (x : OrderOutcome) (n : Nat) (s : State) : s.shift.onlyAccrued (outcomeAt x n s).shift := by
  cases x
  · exact pieceDone_accrued n (updSpindle n (fun sp => sp.tried false) s)
  · exact returnToBroken_accrued n .failure (updSpindle n (fun sp => sp.tried true) s)
  · exact returnToBroken_accrued _ _ _
  · exact returnToBroken_accrued _ _ _

theorem outcomeAt_onlyFrame (x : OrderOutcome) (n : Nat) (s : State) : onlyFrame s (outcomeAt x n s) := by
  cases x
  · exact (pieceDone_onlyTables _ _).toFrame.after (updSpindle_onlyTables _ _ _).toFrame
  · exact (returnToBroken_onlyFrame _ _ _).after (updSpindle_onlyTables _ _ _).toFrame
  · exact returnToBroken_onlyFrame _ _ _
  · exact returnToBroken_onlyFrame _ _ _

/-! ## The order ended -/

/-- The record's work once its order has ended (R87, R93). -/
def workAfter (o : Order) : CarriageWork := if o.parkPending then .parking else .ready

/-- The outcome settled and the record out of BUSY, before the lock and the dispatch. -/
def settledOrder (r : RecordNo) (o : Order) (x : OrderOutcome) (s : State) : State :=
  updCarriage r (fun c => { c with link := c.link.withWork (workAfter o) })
    (updPiecing (sumsAfter x) (updCounters r (recordAfter x) (outcomeAt x o.spindle s)))

theorem settledOrder_same (r : RecordNo) (o : Order) (x : OrderOutcome) (s : State) :
    (settledOrder r o x s).spindles = (outcomeAt x o.spindle s).spindles ∧
      (settledOrder r o x s).shift =
        { (outcomeAt x o.spindle s).shift with piecing := sumsAfter x (outcomeAt x o.spindle s).shift.piecing } ∧
      (settledOrder r o x s).delivery = s.delivery ∧ (settledOrder r o x s).doff = s.doff := by
  obtain ⟨u, hu⟩ := outcomeAt_onlyFrame x o.spindle s
  have hd : (outcomeAt x o.spindle s).delivery = s.delivery := by rw [hu]
  have hf : (outcomeAt x o.spindle s).doff = s.doff := by rw [hu]
  rw [← hd, ← hf]
  cases r <;> exact ⟨rfl, rfl, rfl, rfl⟩

section
variable {s : State} {r : RecordNo} {st : Station} {side : Side} {pos : Nat} {dir : Direction} {o : Order}

theorem carriage_settledOrder (x : OrderOutcome) (hl : (carriage s r).link = .enrolled st side pos dir (.busy o)) :
    carriage (settledOrder r o x s) r =
      { carriage s r with
        link := .enrolled st side pos dir (workAfter o), counters := recordAfter x (carriage s r).counters } := by
  have hc : carriage (outcomeAt x o.spindle s) r = carriage s r :=
    (outcomeAt_cars x o.spindle s r).eq_of_not_ready (by rw [hl]; rfl)
  have h : carriage (settledOrder r o x s) r =
      { carriage (outcomeAt x o.spindle s) r with
        link := (carriage (outcomeAt x o.spindle s) r).link.withWork (workAfter o)
        counters := recordAfter x (carriage (outcomeAt x o.spindle s) r).counters } := by cases r <;> rfl
  rw [h, hc, hl]; rfl

theorem handleResult_eq (x : OrderOutcome) (hl : (carriage s r).link = .enrolled st side pos dir (.busy o)) :
    handleResult r o x s = afterOrder r (sectorOf o.spindle) (settledOrder r o x s) := by
  have hc : carriage (settleOutcome r o x s) r = { carriage s r with counters := recordAfter x (carriage s r).counters } := by
    rw [settleOutcome_eq, ← (outcomeAt_cars x o.spindle s r).eq_of_not_ready (by rw [hl]; rfl)]
    cases r <;> rfl
  rw [handleResult, completeOrder_enrolled (st := st) (side := side) (pos := pos) (dir := dir) (by rw [hc]; exact hl), settleOutcome_eq]
  rfl

/-- R160: the sums after the order, its outcome and orders issued counted. -/
theorem handleResult_sums (x : OrderOutcome) (hl : (carriage s r).link = .enrolled st side pos dir (.busy o)) :
    ∃ k, (handleResult r o x s).shift.piecing = { sumsAfter x s.shift.piecing with issued := k } := by
  rw [handleResult_eq x hl]
  obtain ⟨k, hk⟩ := afterOrder_sums r (sectorOf o.spindle) (settledOrder r o x s)
  obtain ⟨j, hj⟩ := outcomeAt_sums x o.spindle s
  refine ⟨k, hk.trans ?_⟩
  rw [(settledOrder_same r o x s).2.1]
  dsimp only
  rw [hj]
  cases x <;> rfl

theorem handleResult_carriage (x : OrderOutcome) (hl : (carriage s r).link = .enrolled st side pos dir (.busy o)) :
    Carriage.Ordered
      { carriage s r with link := .enrolled st side pos dir (workAfter o), counters := recordAfter x (carriage s r).counters }
      (carriage (handleResult r o x s) r) := by
  rw [handleResult_eq x hl, ← carriage_settledOrder x hl]
  exact afterOrder_cars _ _ _ _

theorem handleResult_spindle (x : OrderOutcome) (n : Nat) (hl : (carriage s r).link = .enrolled st side pos dir (.busy o)) :
    (spindle (outcomeAt x o.spindle s) n).Passes s.delivery (spindle (handleResult r o x s) n) := by
  obtain ⟨hs, -, hd, -⟩ := settledOrder_same r o x s
  have h := (afterOrder_any r (sectorOf o.spindle) (settledOrder r o x s)).passes n
  rw [hd, spindle, hs] at h
  rw [handleResult_eq x hl]
  exact h

theorem handleResult_accrued (x : OrderOutcome) (hl : (carriage s r).link = .enrolled st side pos dir (.busy o)) :
    (handleResult r o x s).shift.breaks = s.shift.breaks ∧ (handleResult r o x s).shift.handPieced = s.shift.handPieced := by
  have h := (afterOrder_any r (sectorOf o.spindle) (settledOrder r o x s)).accrued
  have k := outcomeAt_accrued x o.spindle s
  have hs := (settledOrder_same r o x s).2.1
  rw [handleResult_eq x hl]
  exact ⟨h.breaks.trans (by rw [hs]; exact k.breaks), h.handPieced.trans (by rw [hs]; exact k.handPieced)⟩

end

/-! ## The spindle of the order (R44, R64, R85) -/

theorem changed_attempts (sp : Spindle) (driving : Bool) (now phi : Nat) {st : SpindleState} (hr : st ≠ .running) (hw : st ≠ .withheld) :
    (sp.changed driving now phi st).attempts = sp.attempts ∧ (sp.changed driving now phi st).failures = sp.failures := by
  cases st
  case running => exact absurd rfl hr
  case withheld => exact absurd rfl hw
  all_goals exact ⟨rfl, rfl⟩

theorem changed_withheld_tries (sp : Spindle) (driving : Bool) (now phi : Nat) :
    (sp.changed driving now phi .withheld).attempts = 0 ∧ (sp.changed driving now phi .withheld).failures = 0 := ⟨rfl, rfl⟩

theorem toPiecing_eq_running {st : SpindleState} (h : st.toPiecing = .running) : st = .running := by
  cases st with
  | running => rfl
  | _ => cases h

theorem toPiecing_eq_withheld {st : SpindleState} (h : st.toPiecing = .withheld) : st = .withheld := by
  cases st with
  | withheld => rfl
  | _ => cases h

/-- R36: the dispatcher's work keeps the tries of a spindle that is neither RUNNING nor WITHHELD. -/
theorem Spindle.Passes.tries {dl : Delivery} {sp x : Spindle} (h : sp.Passes dl x) (hr : sp.state ≠ .running) (hw : sp.state ≠ .withheld) :
    x.attempts = sp.attempts ∧ x.failures = sp.failures := by
  induction h with
  | refl => exact ⟨rfl, rfl⟩
  | unmark _ ih => exact ih
  | @ordered x hp ih =>
    have hst (st : SpindleState) (h1 : sp.state ≠ st) (h2 : ∀ c t, SpindleState.piecing c t ≠ st) : x.state ≠ st := by
      rcases hp.state with h | ⟨c, t, -, h⟩ <;> rw [h]
      · exact h1
      · exact h2 c t
    obtain ⟨ha, hf⟩ := changed_attempts x dl.driving dl.now dl.phi
      (fun h => hst .running hr (fun _ _ e => nomatch e) (toPiecing_eq_running h))
      (fun h => hst .withheld hw (fun _ _ e => nomatch e) (toPiecing_eq_withheld h))
    exact ⟨ha.trans ih.1, hf.trans ih.2⟩

/-- A WITHHELD spindle is passed over, and its tries are 0 as they were. -/
theorem Spindle.Passes.withheld {dl : Delivery} {sp x : Spindle} (h : sp.Passes dl x) (hw : sp.state = .withheld)
    (h0 : sp.attempts = 0 ∧ sp.failures = 0) : x.state = .withheld ∧ x.attempts = 0 ∧ x.failures = 0 := by
  induction h with
  | refl => exact ⟨hw, h0⟩
  | unmark _ ih => exact ih
  | ordered _ ih =>
    rw [ih.1]
    exact ⟨changed_state _ _ _ _ _, changed_withheld_tries _ _ _ _⟩

section
variable {n time : Nat} {c : BreakCause} {s : State} {y : Spindle}

theorem returnToBroken_withheld (check : LockCheck) (hs : (spindle s n).state = .piecing c time)
    (hw : (spindle s n).withholdPending = true) : returnToBroken n check s = enterState n .withheld s := by
  simp only [returnToBroken, hs, hw, if_true]

theorem returnToBroken_waits (check : LockCheck) (hs : (spindle s n).state = .piecing c time)
    (hw : (spindle s n).withholdPending = false) : returnToBroken n check s = takeIn n check (changeState n (.broken c time) s) := by
  simp only [returnToBroken, hs, hw]; rfl

theorem pieceDone_withheld (hs : (spindle s n).state = .piecing c time) (hw : (spindle s n).withholdPending = true) :
    pieceDone n s = enterState n .withheld s := by simp only [pieceDone, hs, hw, if_true]

theorem pieceDone_settles (hs : (spindle s n).state = .piecing c time) (hw : (spindle s n).withholdPending = false) :
    pieceDone n s = enterState n (settlingOrIdle s .pieced) s := by simp only [pieceDone, hs, hw]; rfl

/-- R44: a spindle whose sector a zone has taken is WITHHELD, its tries cleared. -/
theorem withheld_outcome (hn : hasSpindle s n = true) (h : (spindle (enterState n .withheld s) n).Passes s.delivery y) :
    y.state = .withheld ∧ y.attempts = 0 ∧ y.failures = 0 := by
  rw [spindle_enterState, spindle_changeState_same n _ s hn] at h
  exact h.withheld (changed_state _ _ _ _ _) (changed_withheld_tries _ _ _ _)

/-- R44, R57, R64: any other spindle waits again with cause and time kept, unless a lock check locks it. -/
theorem waits_outcome (check : LockCheck) (hn : hasSpindle s n = true)
    (h : (spindle (takeIn n check (changeState n (.broken c time) s)) n).Passes s.delivery y) :
    y.attempts = (spindle s n).attempts ∧ y.failures = (spindle s n).failures ∧
      ∃ x : Spindle, x.failures = (spindle s n).failures ∧
        (∀ v, lockVerdict s.settings.working x time check = some v → y.state = .locked v.1) ∧
        (lockVerdict s.settings.working x time check = none → y.state = .broken c time ∨ y.state = .piecing c time) := by
  have hu := changeState_turn n (.broken c time) s
  have hsp := spindle_changeState_same n (.broken c time) s hn
  have H := Spindle.Halted.of_changed (spindle s n) s.delivery.driving s.delivery.now s.delivery.phi (halted_broken c time)
  have k := takeIn_takenIn (sp := spindle s n) (c := c) (time := time) check (by rw [hu.has]; exact hn)
    (by rw [hsp]; exact changed_state _ _ _ _ _) (by rw [hsp, hu.delivery]; exact H)
  rw [hu.delivery, hu.settings] at k
  obtain ⟨hh, -, -⟩ := h.halted k.halted
  refine ⟨hh.attempts, hh.failures, spindle (changeState n (.broken c time) s) n, by rw [hsp]; exact H.failures, fun v hv => ?_, fun hv => ?_⟩
  · rcases h.state with h | ⟨_, _, h, -⟩
    · exact h.trans (k.locked v hv)
    · rw [k.locked v hv] at h; cases h
  · rcases k.waits hv with hw | hw
    · rcases h.state with h | ⟨_, _, h, h'⟩
      · exact .inl (h.trans hw)
      · rw [hw] at h; cases h; exact .inr h'
    · rcases h.state with h | ⟨_, _, h, -⟩
      · exact .inr (h.trans hw)
      · rw [hw] at h; cases h

/-- R85: a join sends the spindle to SETTLING, or to IDLE on a stopped frame. -/
theorem settles_outcome (hn : hasSpindle s n = true)
    (h : (spindle (enterState n (settlingOrIdle s .pieced) s) n).Passes s.delivery y) :
    y.state = (if s.delivery.driving then .settling .pieced s.delivery.now else .idle) ∧
      y.attempts = (spindle s n).attempts ∧ y.failures = (spindle s n).failures := by
  rw [spindle_enterState, spindle_changeState_same n _ s hn] at h
  have hst : settlingOrIdle s .pieced = if s.delivery.driving then .settling .pieced s.delivery.now else .idle := rfl
  have hne : settlingOrIdle s .pieced ≠ .running ∧ settlingOrIdle s .pieced ≠ .withheld := by
    rw [hst]; split <;> exact ⟨(fun e => nomatch e), (fun e => nomatch e)⟩
  obtain ⟨ha, hf⟩ := h.tries (by rw [changed_state]; exact hne.1) (by rw [changed_state]; exact hne.2)
  obtain ⟨ha', hf'⟩ := changed_attempts (spindle s n) s.delivery.driving s.delivery.now s.delivery.phi hne.1 hne.2
  refine ⟨?_, ha.trans ha', hf.trans hf'⟩
  rcases h.state with h | ⟨_, _, h, -⟩
  · rw [h, changed_state, hst]
  · rw [changed_state, hst] at h; split at h <;> cases h

end

/-! ## RESULT -/

theorem exec_result {s : State} {station : Nat} {st : Station} {side : Side} {pos : Nat} {dir : Direction} {r : RecordNo} {o : Order}
    (x : OrderOutcome) (hp : s.powered = true) (hr : recordOfStation s station = some r)
    (hl : (carriage s r).link = .enrolled st side pos dir (.busy o)) :
    exec (.result station o.tag x) s = .next (handleResult r o x (heardFrom r s)) := by
  refine (live_powered _ s hp).trans (congrArg _ ((fromStation_record _ hr).trans ?_))
  have hl' : (carriage (heardFrom r s) r).link = .enrolled st side pos dir (.busy o) := by
    rw [carriage_heardFrom, if_pos rfl]; exact hl
  simp only [takeResult, hl', if_true]

theorem spindle_heardFrom (r : RecordNo) (s : State) (n : Nat) : spindle (heardFrom r s) n = spindle s n := by
  cases r <;> rfl

theorem delivery_heardFrom (r : RecordNo) (s : State) : (heardFrom r s).delivery = s.delivery := by cases r <;> rfl

theorem shift_heardFrom (r : RecordNo) (s : State) : (heardFrom r s).shift = s.shift := by cases r <;> rfl

theorem settings_heardFrom (r : RecordNo) (s : State) : (heardFrom r s).settings = s.settings := by cases r <;> rfl

theorem lockVerdict_failure (w : Working) (sp : Spindle) (t : Nat) :
    lockVerdict w sp t .failure =
      if w.failureLimit ≠ 0 ∧ w.failureLimit ≤ sp.failures then some (.fails, sp.failures) else none := by
  unfold lockVerdict
  by_cases h0 : w.failureLimit = 0
  · simp [h0]
  · simp [h0]

section
variable {s : State} {n time : Nat} {c : BreakCause} {y : Spindle}

theorem spindle_tried (failed : Bool) (hn : hasSpindle s n = true) :
    spindle (updSpindle n (fun sp => sp.tried failed) s) n = (spindle s n).tried failed :=
  (spindle_updSpindle n n _ s).trans (if_pos ⟨rfl, hn⟩)

theorem hasSpindle_tried (failed : Bool) (hn : hasSpindle s n = true) :
    hasSpindle (updSpindle n (fun sp => sp.tried failed) s) n = true := by
  rw [(updSpindle_turn n _ s).has]; exact hn

/-- R44, R85: what a PIECED makes of the spindle. -/
theorem pieced_outcome (hn : hasSpindle s n = true) (hs : (spindle s n).state = .piecing c time)
    (h : (spindle (outcomeAt .pieced n s) n).Passes s.delivery y) :
    if (spindle s n).withholdPending then y.state = .withheld ∧ y.attempts = 0 ∧ y.failures = 0
    else
      y.attempts = min 7 ((spindle s n).attempts + 1) ∧ y.failures = (spindle s n).failures ∧
        y.state = (if s.delivery.driving then .settling .pieced s.delivery.now else .idle) := by
  have ht := spindle_tried false hn
  have hs' : (spindle (updSpindle n (fun sp => sp.tried false) s) n).state = .piecing c time := by rw [ht]; exact hs
  have hn' := hasSpindle_tried false hn
  cases hw : (spindle s n).withholdPending
  · rw [if_neg (by decide)]
    rw [outcomeAt, pieceDone_settles hs' (by rw [ht]; exact hw)] at h
    obtain ⟨hst, ha, hf⟩ := settles_outcome hn' h
    rw [ht] at ha hf
    exact ⟨ha, hf, hst⟩
  · rw [if_pos rfl]
    rw [outcomeAt, pieceDone_withheld hs' (by rw [ht]; exact hw)] at h
    exact withheld_outcome hn' h

/-- R44, R64, R85: what a FAILED makes of the spindle. -/
theorem failed_outcome (hn : hasSpindle s n = true) (hs : (spindle s n).state = .piecing c time)
    (h : (spindle (outcomeAt .failed n s) n).Passes s.delivery y) :
    if (spindle s n).withholdPending then y.state = .withheld ∧ y.attempts = 0 ∧ y.failures = 0
    else
      y.attempts = min 7 ((spindle s n).attempts + 1) ∧ y.failures = min 7 ((spindle s n).failures + 1) ∧
        if s.settings.working.failureLimit ≠ 0 ∧ s.settings.working.failureLimit ≤ min 7 ((spindle s n).failures + 1) then
          y.state = .locked .fails
        else y.state = .broken c time ∨ y.state = .piecing c time := by
  have ht := spindle_tried true hn
  have hs' : (spindle (updSpindle n (fun sp => sp.tried true) s) n).state = .piecing c time := by rw [ht]; exact hs
  have hn' := hasSpindle_tried true hn
  cases hw : (spindle s n).withholdPending
  · rw [if_neg (by decide)]
    rw [outcomeAt, returnToBroken_waits .failure hs' (by rw [ht]; exact hw)] at h
    obtain ⟨ha, hf, z, hz, hlock, hwait⟩ := waits_outcome .failure hn' h
    rw [ht] at ha hf hz
    refine ⟨ha, hf, ?_⟩
    have hv := lockVerdict_failure s.settings.working z time
    rw [show z.failures = min 7 ((spindle s n).failures + 1) from hz] at hv
    split
    · rename_i hc; rw [if_pos hc] at hv; exact hlock _ hv
    · rename_i hc; rw [if_neg hc] at hv; exact hwait hv
  · rw [if_pos rfl]
    rw [outcomeAt, returnToBroken_withheld .failure hs' (by rw [ht]; exact hw)] at h
    exact withheld_outcome hn' h

/-- R44, R86: what an order that ends without an attempt makes of the spindle. -/
theorem returned_outcome (hn : hasSpindle s n = true) (hs : (spindle s n).state = .piecing c time)
    (h : (spindle (returnToBroken n .none s) n).Passes s.delivery y) :
    if (spindle s n).withholdPending then y.state = .withheld
    else
      y.attempts = (spindle s n).attempts ∧ y.failures = (spindle s n).failures ∧
        (y.state = .broken c time ∨ y.state = .piecing c time) := by
  cases hw : (spindle s n).withholdPending
  · rw [if_neg (by decide)]
    rw [returnToBroken_waits .none hs hw] at h
    obtain ⟨ha, hf, _, -, -, hwait⟩ := waits_outcome .none hn h
    exact ⟨ha, hf, hwait rfl⟩
  · rw [if_pos rfl]
    rw [returnToBroken_withheld .none hs hw] at h
    exact (withheld_outcome hn h).1

end

/-- R85 to R87: the record of an order that has ended: parking where PARK was sent during the order, and otherwise READY or with one more
order, its counters but the orders' those of the outcome. -/
theorem ended_record {c d : Carriage} {st : Station} {side : Side} {pos : Nat} {dir : Direction} {o : Order} {k : CarriageCounters}
    (h : Carriage.Ordered { c with link := .enrolled st side pos dir (workAfter o), counters := k } d) :
    (if o.parkPending then d.link = .enrolled st side pos dir .parking
      else
        d.link = .enrolled st side pos dir .ready ∨
          ∃ o' : Order, d.link = .enrolled st side pos dir (.busy o') ∧ o'.tag = (c.tag + 1) % 16) ∧
      d.linkTimer = c.linkTimer ∧ d.counters.pieced = k.pieced ∧ d.counters.failed = k.failed ∧
      d.counters.notReached = k.notReached := by
  have hw : workAfter o = if o.parkPending then .parking else .ready := rfl
  cases hp : o.parkPending
  · rw [hw, hp, if_neg (by decide)] at h
    rw [if_neg (by decide)]
    cases h with
    | stands => exact ⟨.inl rfl, rfl, rfl, rfl, rfl⟩
    | given o' _ hl ht =>
      cases hl
      exact ⟨.inr ⟨o', rfl, ht⟩, rfl, rfl, rfl, rfl⟩
  · rw [hw, hp, if_pos rfl] at h
    rw [if_pos rfl, h.eq_of_not_ready rfl]
    exact ⟨rfl, rfl, rfl, rfl, rfl⟩

/-- Settles O28: the outcome counted in its three places, and the record free for its next work. -/
theorem resultEndsTheOrder : Obligations.ResultEndsTheOrder := by
  intro s station pos dir st side r o cause time x hp hr hl hs h1 hle hno
  have hn : hasSpindle (heardFrom r s) o.spindle = true := by
    have h : hasSpindle s o.spindle = true := (hasSpindle_iff _ _).2 ⟨h1, hle⟩
    cases r <;> exact h
  have hl' : (carriage (heardFrom r s) r).link = .enrolled st side pos dir (.busy o) := by
    rw [carriage_heardFrom, if_pos rfl]; exact hl
  have hcar := handleResult_carriage x hl'
  obtain ⟨hbreaks, hhand⟩ := handleResult_accrued x hl'
  obtain ⟨k, hsums⟩ := handleResult_sums x hl'
  have hpass := handleResult_spindle x o.spindle hl'
  have hs' : (spindle (heardFrom r s) o.spindle).state = .piecing cause time := by rw [spindle_heardFrom]; exact hs
  rw [shift_heardFrom] at hbreaks hhand hsums
  rw [carriage_heardFrom, if_pos rfl] at hcar
  have hboard := keepsBoard_heardFrom (handleResult_onlyFrameAndDoff r o x (heardFrom r s)).keepsBoard
  refine ⟨_, exec_result x hp hr hl, hboard, ?_⟩
  have hspindle := spindle_heardFrom r s o.spindle
  have hdel := delivery_heardFrom r s
  have hset := settings_heardFrom r s
  generalize handleResult r o x (heardFrom r s) = t at *
  obtain ⟨hlink, htimer, hcp, hcf, hcn⟩ := ended_record hcar
  refine ⟨hlink, htimer, hbreaks, hhand, ?_⟩
  cases x
  case pieced =>
    have hy := pieced_outcome hn hs' hpass
    rw [hspindle, hdel] at hy
    rw [hsums]
    exact ⟨rfl, rfl, rfl, rfl, rfl, hcp, hy⟩
  case failed =>
    have hy := failed_outcome hn hs' hpass
    rw [hspindle, hset] at hy
    rw [hsums]
    exact ⟨rfl, rfl, rfl, rfl, rfl, hcf, hy⟩
  case notReached =>
    have hy := returned_outcome hn hs' hpass
    rw [hspindle] at hy
    rw [hsums]
    exact ⟨rfl, rfl, rfl, rfl, rfl, hcn, hy⟩
  case cancelled =>
    have hy := returned_outcome hn hs' hpass
    rw [hspindle] at hy
    rw [hsums]
    exact ⟨rfl, rfl, rfl, rfl, rfl, hy⟩

end Sys2Proof.Machine

/-! # STATUS, POSITION, PARKED and ARRIVED (R35, R84, R86, R90, R94, R143) -/

namespace Sys2Proof.Machine

open Sys2Proof

/-- A change of a record is what it makes of that record. -/
theorem updCarriage_congr {r : RecordNo} {f g : Carriage → Carriage} {s : State} (h : f (carriage s r) = g (carriage s r)) :
    updCarriage r f s = updCarriage r g s := by
  cases r
  · exact congrArg (fun c => { s with car1 := c }) h
  · exact congrArg (fun c => { s with car2 := c }) h

theorem updCarriage_frame (r : RecordNo) (f : Carriage → Carriage) (s : State) :
    ∃ u : State, updCarriage r f s = { s with car1 := u.car1, car2 := u.car2 } :=
  ⟨updCarriage r f s, by cases r <;> rfl⟩

theorem link_heardFrom (r : RecordNo) (s : State) : (carriage (heardFrom r s) r).link = (carriage s r).link := by
  rw [carriage_heardFrom, if_pos rfl]

theorem keepsOuter_heardFrom {r : RecordNo} {s t : State} (h : onlyTables (heardFrom r s) t) : keepsOuter s t ∧ keepsReports s t := by
  obtain ⟨u, hu⟩ := heardFrom_eq r s
  rw [hu] at h
  exact ⟨h.toFrame.keepsOuter, h.keepsReports⟩

section
variable {s : State} {station pos : Nat} {dir : Direction} {st : Station} {side : Side} {r : RecordNo}

/-! ## SUSPECT ended (R90) -/

/-- R90: a SUSPECT record that reports is READY again, and may be ordered at once. -/
theorem leaveSuspect_link (hl : (carriage s r).link = .enrolled st side pos dir .suspect) :
    (carriage (leaveSuspect r s) r).link = .enrolled st side pos dir .ready ∨
      ∃ o, (carriage (leaveSuspect r s) r).link = .enrolled st side pos dir (.busy o) := by
  have hu : (carriage (updCarriage r (fun c => { c with link := c.link.withWork .ready }) s) r).link =
      .enrolled st side pos dir .ready := by rw [carriage_updCarriage, if_pos rfl, hl]; rfl
  have h := dispatchAmong_employed (fun e => sectorFree (updCarriage r (fun c => { c with link := c.link.withWork .ready }) s)
    (sectorOf e.spindle)) false r r (updCarriage r (fun c => { c with link := c.link.withWork .ready }) s)
  rw [hu] at h
  have he : leaveSuspect r s = dispatch r (updCarriage r (fun c => { c with link := c.link.withWork .ready }) s) := by
    simp only [leaveSuspect, hl]
  rw [he]
  exact h.ready_or_busy

theorem takeStatus_suspect (hl : (carriage s r).link = .enrolled st side pos dir .suspect) : takeStatus r s = leaveSuspect r s := by
  simp only [takeStatus, hl]

theorem takePosition_own {w : CarriageWork} {n : Nat} (d : Direction) (hl : (carriage s r).link = .enrolled st side pos dir w)
    (hi : isSpindle s n = true) (hs : sideOf s n = side) :
    takePosition n d r s = leaveSuspect r (updCarriage r (fun c => { c with link := c.link.moved n d }) s) := by
  simp [takePosition, hl, hi, hs]

theorem takePosition_link {n : Nat} (d : Direction) (hl : (carriage s r).link = .enrolled st side pos dir .suspect)
    (hi : isSpindle s n = true) (hs : sideOf s n = side) :
    (carriage (takePosition n d r s) r).link = .enrolled st side n d .ready ∨
      ∃ o, (carriage (takePosition n d r s) r).link = .enrolled st side n d (.busy o) := by
  rw [takePosition_own d hl hi hs]
  exact leaveSuspect_link (by rw [carriage_updCarriage, if_pos rfl, hl]; rfl)

/-! ## PARKING ended (R94, R142, R143) -/

/-- R142: with this record clear, the frame is clear where the other one is. -/
theorem frameClear_eq (s : State) (r : RecordNo) :
    frameClear s = ((carriage s r).link.isClear && (carriage s (otherRecord r)).link.isClear) := by
  cases r
  · rfl
  · exact Bool.and_comm _ _

theorem carriage_updCarriage_other (r : RecordNo) (f : Carriage → Carriage) (s : State) :
    carriage (updCarriage r f s) (otherRecord r) = carriage s (otherRecord r) := by cases r <;> rfl

/-- R94: a record PARKED, its park timer stopped. -/
def parkedAt (r : RecordNo) (s : State) : State :=
  updCarriage r (fun c => { c with link := c.link.withWork .parked, parkTimer := none }) s

theorem carriage_parkedAt {w : CarriageWork} (hl : (carriage s r).link = .enrolled st side pos dir w) :
    carriage (parkedAt r s) r = { carriage s r with link := .enrolled st side pos dir .parked, parkTimer := none } := by
  rw [parkedAt, carriage_updCarriage, if_pos rfl, hl]; rfl

theorem frameClear_parkedAt {w : CarriageWork} (hl : (carriage s r).link = .enrolled st side pos dir w) :
    frameClear (parkedAt r s) = (carriage s (otherRecord r)).link.isClear := by
  rw [frameClear_eq _ r, carriage_parkedAt hl, parkedAt, carriage_updCarriage_other]; rfl

theorem openRecord_parkedAt (call : CallInfo) (r : RecordNo) (s : State) :
    openRecord call (updDoff (fun d => { d with number := nextDoffNumber d.number }) (parkedAt r s)) = doffRecordOf s s call := by
  rw [openRecord_eq]
  cases r <;> rfl

/-- R94, R142, R143: what a record at its parking place brings about: it is PARKED, and a doff that waited for it alone goes on. -/
theorem reachPark_changes {w : CarriageWork} (hl : (carriage s r).link = .enrolled st side pos dir w) :
    ∃ d : Doff, reachPark r s = { parkedAt r s with doff := d } ∧
      (∀ call, s.doff.phase = .parking call → (carriage s (otherRecord r)).link.isClear = true →
        d.phase = .doffing call (doffRecordOf s s call) ∧ d.number = (s.doff.number + 1) % 65536) ∧
      ((∀ call, s.doff.phase = .parking call → (carriage s (otherRecord r)).link.isClear = false) → d = s.doff) := by
  have hd : (parkedAt r s).doff = s.doff := by cases r <;> rfl
  have ht : reachPark r s = testClear (parkedAt r s) := rfl
  by_cases hc : ∃ call, s.doff.phase = .parking call ∧ (carriage s (otherRecord r)).link.isClear = true
  · obtain ⟨call, hph, hc⟩ := hc
    have he : testClear (parkedAt r s) = enterDoffing call (parkedAt r s) := by
      simp only [testClear, hd, hph, frameClear_parkedAt hl, hc, if_true]
    refine ⟨(enterDoffing call (parkedAt r s)).doff, ?_, fun call' hph' _ => ?_, fun h => ?_⟩
    · rw [ht, he, enterDoffing_eq]; rfl
    · rw [hph] at hph'; cases hph'
      rw [enterDoffing_eq, openRecord_parkedAt, updDoff, hd]
      exact ⟨rfl, rfl⟩
    · rw [h call hph] at hc; cases hc
  · refine ⟨s.doff, ?_, fun call hph h => absurd ⟨call, hph, h⟩ hc, fun _ => rfl⟩
    have he : testClear (parkedAt r s) = parkedAt r s := by
      unfold testClear
      rw [hd, frameClear_parkedAt hl]
      split
      · rename_i call hph
        exact if_neg fun h => hc ⟨call, hph, h⟩
      · rfl
    rw [ht, he, ← hd]

/-- R142, R143: the doff sequencer after a record has reached its parking place. -/
theorem doff_goes_on {d : Doff} {clear : Bool} {record : CallInfo → DoffRecord}
    (h1 : ∀ call, s.doff.phase = .parking call → clear = true →
      d.phase = .doffing call (record call) ∧ d.number = (s.doff.number + 1) % 65536)
    (h2 : (∀ call, s.doff.phase = .parking call → clear = false) → d = s.doff) :
    match s.doff.phase with
    | .parking call =>
      if clear = true then d.phase = .doffing call (record call) ∧ d.number = (s.doff.number + 1) % 65536 else d = s.doff
    | _ => d = s.doff := by
  split
  · rename_i call hph
    split
    · rename_i hc; exact h1 call hph hc
    · rename_i hc; exact h2 fun _ _ => by rwa [Bool.not_eq_true] at hc
  · rename_i hph; exact h2 fun call h => absurd h (hph call)

theorem takeParked_parking (hl : (carriage s r).link = .enrolled st side pos dir .parking) : takeParked r s = reachPark r s := by
  simp only [takeParked, hl]

theorem takeParked_busy {o : Order} (hl : (carriage s r).link = .enrolled st side pos dir (.busy o)) (ho : o.parkPending = true) :
    takeParked r s = reachPark r (handleResult r o .cancelled s) := by
  simp only [takeParked, hl, ho, if_true]

theorem takeArrived_current {o : Order} (hl : (carriage s r).link = .enrolled st side pos dir (.busy o)) :
    takeArrived o.tag r s =
      if o.arrived = true then s
      else
        updSpindle o.spindle (fun sp => { sp with stopEngaged := false })
          (updCarriage r (fun c => { c with link := .enrolled st side o.spindle dir (.busy { o with arrived := true }) }) s) := by
  have h : updCarriage r (fun c => { c with link := c.link.arrivedAt o }) s =
      updCarriage r (fun c => { c with link := .enrolled st side o.spindle dir (.busy { o with arrived := true }) }) s :=
    updCarriage_congr (by rw [hl]; rfl)
  simp only [takeArrived, hl, if_true, arriveAt, h]

end

/-! ## An order cancelled by PARKED (R86, R94) -/

section
variable {s : State} {r : RecordNo} {st : Station} {side : Side} {pos : Nat} {dir : Direction} {o : Order}

theorem handleResult_doff (x : OrderOutcome) (hl : (carriage s r).link = .enrolled st side pos dir (.busy o)) :
    (handleResult r o x s).doff = s.doff ∧ (handleResult r o x s).delivery = s.delivery := by
  obtain ⟨-, -, hd, hf⟩ := settledOrder_same r o x s
  have h := afterOrder_any r (sectorOf o.spindle) (settledOrder r o x s)
  rw [handleResult_eq x hl]
  exact ⟨h.doff.trans hf, h.delivery.trans hd⟩

theorem handleResult_other (x : OrderOutcome) (hl : (carriage s r).link = .enrolled st side pos dir (.busy o)) :
    (carriage (handleResult r o x s) (otherRecord r)).link.isClear = (carriage s (otherRecord r)).link.isClear := by
  have hc : carriage (settledOrder r o x s) (otherRecord r) = carriage (outcomeAt x o.spindle s) (otherRecord r) := by
    cases r <;> rfl
  rw [handleResult_eq x hl, (afterOrder_cars _ _ _ _).isClear, hc, (outcomeAt_cars x o.spindle s _).isClear]

/-- R93: with PARK sent during the order, the record parks and takes no other. -/
theorem handleResult_parking (hl : (carriage s r).link = .enrolled st side pos dir (.busy o)) (ho : o.parkPending = true) :
    carriage (handleResult r o .cancelled s) r = { carriage s r with link := .enrolled st side pos dir .parking } := by
  have hw : workAfter o = .parking := by rw [workAfter, if_pos ho]
  have h := handleResult_carriage .cancelled hl
  rw [hw] at h
  exact h.eq_of_not_ready rfl

end

theorem doffRecordOf_congr {s s' t t' : State} (call : CallInfo) (hd : s'.delivery = s.delivery) (hf : s'.doff = s.doff)
    (ht : t'.spindles = t.spindles) (hp : t'.delivery = t.delivery) : doffRecordOf s' t' call = doffRecordOf s t call := by
  have hr : copRead t' = copRead t := by funext sp; rw [copRead, copRead, hp]
  simp only [doffRecordOf, hd, hf, ht, hr]

theorem parkedAt_frame (r : RecordNo) (s : State) : ∃ u : State, parkedAt r s = { s with car1 := u.car1, car2 := u.car2 } :=
  updCarriage_frame _ _ _

section
variable {s : State} {station pos : Nat} {dir : Direction} {st : Station} {side : Side} {r : RecordNo}

theorem exec_carriageStatus (hp : s.powered = true) (hr : recordOfStation s station = some r) :
    exec (.carriageStatus station) s = .next (takeStatus r (heardFrom r s)) :=
  (live_powered _ s hp).trans (congrArg _ (fromStation_record _ hr))

theorem exec_position (n : Nat) (d : Direction) (hp : s.powered = true) (hr : recordOfStation s station = some r) :
    exec (.position station n d) s = .next (takePosition n d r (heardFrom r s)) :=
  (live_powered _ s hp).trans (congrArg _ (fromStation_record _ hr))

theorem exec_parked (hp : s.powered = true) (hr : recordOfStation s station = some r) :
    exec (.parked station) s = .next (takeParked r (heardFrom r s)) :=
  (live_powered _ s hp).trans (congrArg _ (fromStation_record _ hr))

theorem exec_arrived (tag : Nat) (hp : s.powered = true) (hr : recordOfStation s station = some r) :
    exec (.arrived station tag) s = .next (takeArrived tag r (heardFrom r s)) :=
  (live_powered _ s hp).trans (congrArg _ (fromStation_record _ hr))

theorem carriage_heardFrom_other (r : RecordNo) (s : State) :
    carriage (heardFrom r s) (otherRecord r) = carriage s (otherRecord r) := by cases r <;> rfl

theorem isSpindle_heardFrom (r : RecordNo) (s : State) (n : Nat) :
    isSpindle (heardFrom r s) n = isSpindle s n ∧ sideOf (heardFrom r s) n = sideOf s n := by cases r <;> exact ⟨rfl, rfl⟩

/-- The first clause of O27: STATUS. -/
theorem status_taken (hp : s.powered = true) (hr : recordOfStation s station = some r)
    (hl : (carriage s r).link = .enrolled st side pos dir .suspect) :
    ∃ t, exec (.carriageStatus station) s = .next t ∧ keepsOuter s t ∧ keepsReports s t ∧
      ((carriage t r).link = .enrolled st side pos dir .ready ∨ ∃ o, (carriage t r).link = .enrolled st side pos dir (.busy o)) := by
  have hl' := (link_heardFrom r s).trans hl
  rw [exec_carriageStatus hp hr, takeStatus_suspect hl']
  obtain ⟨ho, hk⟩ := keepsOuter_heardFrom (leaveSuspect_onlyTables r (heardFrom r s))
  exact ⟨_, rfl, ho, hk, leaveSuspect_link hl'⟩

/-- The second clause of O27: POSITION. -/
theorem position_taken {n : Nat} {d : Direction} (hp : s.powered = true) (hr : recordOfStation s station = some r)
    (hl : (carriage s r).link = .enrolled st side pos dir .suspect) (hi : isSpindle s n = true) (hs : sideOf s n = side) :
    ∃ t, exec (.position station n d) s = .next t ∧ keepsOuter s t ∧ keepsReports s t ∧
      ((carriage t r).link = .enrolled st side n d .ready ∨ ∃ o, (carriage t r).link = .enrolled st side n d (.busy o)) := by
  have hl' := (link_heardFrom r s).trans hl
  obtain ⟨hi', hs'⟩ := isSpindle_heardFrom r s n
  rw [← hi'] at hi
  rw [← hs'] at hs
  refine ⟨_, exec_position n d hp hr, ?_⟩
  have hlink := takePosition_link d hl' hi hs
  have ht : onlyTables (heardFrom r s) (takePosition n d r (heardFrom r s)) := by
    rw [takePosition_own d hl' hi hs]
    exact (leaveSuspect_onlyTables _ _).after (updCarriage_onlyTables _ _ _)
  obtain ⟨ho, hk⟩ := keepsOuter_heardFrom ht
  exact ⟨ho, hk, hlink⟩

/-- The third clause of O27: PARKED of a PARKING record. -/
theorem parked_taken (hp : s.powered = true) (hr : recordOfStation s station = some r)
    (hl : (carriage s r).link = .enrolled st side pos dir .parking) :
    ∃ t, exec (.parked station) s = .next t ∧ keepsBoard s t ∧ keepsReports s t ∧ keepsTables { s with car1 := t.car1, car2 := t.car2 } t ∧
      carriage t (otherRecord r) = carriage s (otherRecord r) ∧
      carriage t r =
        { carriage s r with
          link := .enrolled st side pos dir .parked, parkTimer := none, linkTimer := some (s.delivery.now + 5) } ∧
      match s.doff.phase with
      | .parking call =>
        if (carriage s (otherRecord r)).link.isClear = true then
          t.doff.phase = .doffing call (doffRecordOf s s call) ∧ t.doff.number = (s.doff.number + 1) % 65536
        else t.doff = s.doff
      | _ => t.doff = s.doff := by
  have hl' := (link_heardFrom r s).trans hl
  obtain ⟨d, he, h1, h2⟩ := reachPark_changes hl'
  obtain ⟨u, hu⟩ := heardFrom_eq r s
  obtain ⟨v, hv⟩ := parkedAt_frame r (heardFrom r s)
  have hc := carriage_parkedAt hl'
  have hother : carriage (parkedAt r (heardFrom r s)) (otherRecord r) = carriage s (otherRecord r) :=
    (carriage_updCarriage_other r _ _).trans (carriage_heardFrom_other r s)
  rw [carriage_heardFrom, if_pos rfl] at hc
  rw [carriage_heardFrom_other] at h1 h2
  have hrec (call : CallInfo) : doffRecordOf (heardFrom r s) (heardFrom r s) call = doffRecordOf s s call := by
    rw [hu]; exact doffRecordOf_congr call rfl rfl rfl rfl
  have hdoff : (heardFrom r s).doff = s.doff := by rw [hu]
  simp only [hrec, hdoff] at h1 h2
  refine ⟨_, exec_parked hp hr, ?_⟩
  rw [takeParked_parking hl', he]
  refine ⟨?_, ?_, ?_, .trans (by cases r <;> rfl) hother, .trans (by cases r <;> rfl) hc, doff_goes_on h1 h2⟩
  · rw [hv, hu]; exact ⟨rfl, rfl, rfl, rfl, rfl, rfl, rfl, rfl, rfl, rfl, rfl⟩
  · rw [hv, hu]; exact ⟨rfl, rfl⟩
  · rw [hv, hu]; exact ⟨rfl, rfl, rfl, rfl, rfl, rfl, rfl, rfl, rfl⟩

/-- The fourth clause of O27: PARKED of a record whose order has its park pending. -/
theorem parked_cancels {o : Order} {cause : BreakCause} {time : Nat} (hp : s.powered = true) (hr : recordOfStation s station = some r)
    (hl : (carriage s r).link = .enrolled st side pos dir (.busy o)) (ho : o.parkPending = true)
    (hs : (spindle s o.spindle).state = .piecing cause time) (hn : hasSpindle s o.spindle = true) :
    ∃ t, exec (.parked station) s = .next t ∧ keepsBoard s t ∧
      carriage t r =
        { carriage s r with
          link := .enrolled st side pos dir .parked, parkTimer := none, linkTimer := some (s.delivery.now + 5) } ∧
      t.shift.piecing.cancelled = min 4294967295 (s.shift.piecing.cancelled + 1) ∧
      t.shift.piecing.pieced = s.shift.piecing.pieced ∧ t.shift.piecing.failed = s.shift.piecing.failed ∧
      t.shift.piecing.notReached = s.shift.piecing.notReached ∧ t.shift.piecing.timedOut = s.shift.piecing.timedOut ∧
      (if (spindle s o.spindle).withholdPending then (spindle t o.spindle).state = .withheld
       else
         ((spindle t o.spindle).state = .broken cause time ∨ (spindle t o.spindle).state = .piecing cause time) ∧
           (spindle t o.spindle).attempts = (spindle s o.spindle).attempts ∧
           (spindle t o.spindle).failures = (spindle s o.spindle).failures) ∧
      match s.doff.phase with
      | .parking call =>
        if (carriage s (otherRecord r)).link.isClear = true then
          t.doff.phase = .doffing call (doffRecordOf s t call) ∧ t.doff.number = (s.doff.number + 1) % 65536
        else t.doff = s.doff
      | _ => t.doff = s.doff := by
  have hl' := (link_heardFrom r s).trans hl
  have hpark := handleResult_parking hl' ho
  obtain ⟨k, hsums⟩ := handleResult_sums .cancelled hl'
  have hsp : (spindle (returnToBroken o.spindle .none (heardFrom r s)) o.spindle).Passes (heardFrom r s).delivery _ :=
    handleResult_spindle .cancelled o.spindle hl'
  have hy := returned_outcome (by cases r <;> exact hn) (by rw [spindle_heardFrom]; exact hs) hsp
  obtain ⟨hdoff, hdel⟩ := handleResult_doff .cancelled hl'
  have hother := handleResult_other .cancelled hl'
  have hframe := keepsBoard_heardFrom (handleResult_onlyFrameAndDoff r o .cancelled (heardFrom r s)).keepsBoard
  have hx := (exec_parked hp hr).trans (congrArg _ (takeParked_busy hl' ho))
  obtain ⟨u, hu⟩ := heardFrom_eq r s
  rw [spindle_heardFrom] at hy
  rw [shift_heardFrom] at hsums
  rw [carriage_heardFrom, if_pos rfl] at hpark
  rw [carriage_heardFrom_other] at hother
  have hdoff' : (handleResult r o .cancelled (heardFrom r s)).doff = s.doff := hdoff.trans (by rw [hu])
  have hdel' : (handleResult r o .cancelled (heardFrom r s)).delivery = s.delivery := hdel.trans (by rw [hu])
  generalize handleResult r o .cancelled (heardFrom r s) = v at *
  have hvl : (carriage v r).link = .enrolled st side pos dir .parking := by rw [hpark]
  obtain ⟨d, he, h1, h2⟩ := reachPark_changes hvl
  obtain ⟨w, hw⟩ := parkedAt_frame r v
  have hc := carriage_parkedAt hvl
  rw [hpark] at hc
  rw [hother] at h1 h2
  rw [he] at hx
  refine ⟨_, hx, ?_, .trans (by cases r <;> rfl) hc, ?_⟩
  · rw [hw]; exact hframe
  · rw [hw]
    have hrec (call : CallInfo) : doffRecordOf v v call =
        doffRecordOf s { v with car1 := w.car1, car2 := w.car2, doff := d } call := doffRecordOf_congr call hdel' hdoff' rfl rfl
    simp only [hrec, hdoff'] at h1 h2
    dsimp only
    rw [hsums]
    refine ⟨rfl, rfl, rfl, rfl, rfl, ?_, doff_goes_on h1 h2⟩
    split
    · rename_i hwp; rw [if_pos hwp] at hy; exact hy
    · rename_i hwp
      rw [if_neg hwp] at hy
      obtain ⟨ha, hf, hst⟩ := hy
      exact ⟨hst, ha, hf⟩

end

/-- Settles O27: each report by the link it finds; the doff goes on by `reachPark_changes`. -/
theorem carriageReportsAreTaken : Obligations.CarriageReportsAreTaken := by
  refine ⟨⟨fun s station n pos dir d st side r hp hr hl => ⟨status_taken hp hr hl, position_taken hp hr hl⟩,
    fun s station pos dir st side r => parked_taken⟩, fun s station pos dir st side r o cause time hp hr hl ho hs h1 hle => ?_,
    fun s station pos dir st side r o hp hr hl => ?_⟩
  · exact parked_cancels hp hr hl ho hs ((hasSpindle_iff _ _).2 ⟨h1, hle⟩)
  · have hl' := (link_heardFrom r s).trans hl
    rw [exec_arrived o.tag hp hr, takeArrived_current hl']

end Sys2Proof.Machine

/-! # The planner evaluated anew, and the books after a settle-all (R19, R20, R113 to R118, R123) -/

namespace Sys2Proof.Machine

open Sys2Proof

/-! ## The planner under evaluation (R113 to R118, R123) -/

/-- R123: no call has been issued, or one has, at once, from an IDLE transport with no back-off. -/
def IssuedAtMost (s t : State) : Prop :=
  (t.planner.transport = s.planner.transport ∧ t.planner.tag = s.planner.tag) ∨
    (s.planner.transport = .idle ∧ s.planner.backOff = none ∧
      ∃ a : ActiveChange, t.planner.transport = .called a ∧ a.tag = (s.planner.tag + 1) % 256 ∧ t.planner.tag = a.tag ∧
        a.callTime = s.delivery.now ∧ a.accepted = false)

/-- What the evaluation of groups does to the planner: messages are added, entries stand or are issued, new ones are of groups that are
not wholly withheld, and at most one call is issued. -/
structure Replanned (s t : State) : Prop where
  only : onlyPlanner s t
  sent : ∀ o ∈ s.emitted, o ∈ t.emitted
  kept : ∀ c ∈ s.planner.calls, calledNow c s t
  listed : ∀ c ∈ t.planner.calls, c ∈ s.planner.calls ∨ whollyWithheld s c.group = false
  discarded : t.planner.discarded = s.planner.discarded
  backOff : t.planner.backOff = s.planner.backOff
  lastTimedOut : t.planner.lastTimedOut = s.planner.lastTimedOut
  issued : IssuedAtMost s t

theorem whollyWithheld_of_planner {s t : State} (h : onlyPlanner s t) (g : Nat) : whollyWithheld t g = whollyWithheld s g := by
  obtain ⟨_, rfl⟩ := h; rfl

theorem delivery_of_planner {s t : State} (h : onlyPlanner s t) : t.delivery = s.delivery := by
  obtain ⟨_, rfl⟩ := h; rfl

namespace Replanned

variable {s t u : State}

theorem refl (s : State) : Replanned s s :=
  ⟨.refl s, fun _ h => h, fun _ h => .inl h, fun _ h => .inl h, rfl, rfl, rfl, .inl ⟨rfl, rfl⟩⟩

/-- A call issued before stays issued. -/
theorem called_stays (k : Replanned t u) {a : ActiveChange} (h : t.planner.transport = .called a) : u.planner.transport = .called a := by
  rcases k.issued with ⟨ht, -⟩ | ⟨hi, -⟩
  · exact ht.trans h
  · rw [h] at hi; cases hi

theorem after (k : Replanned t u) (h : Replanned s t) : Replanned s u where
  only := k.only.after h.only
  sent o ho := k.sent o (h.sent o ho)
  kept c hc := by
    rcases h.kept c hc with h1 | ⟨a, ha, hac, hat⟩
    · rcases k.kept c h1 with h2 | ⟨a, ha, hac, hat⟩
      · exact .inl h2
      · exact .inr ⟨a, ha, hac, by rw [hat, delivery_of_planner h.only]⟩
    · exact .inr ⟨a, k.called_stays ha, hac, hat⟩
  listed c hc := by
    rcases k.listed c hc with h1 | h1
    · exact h.listed c h1
    · exact .inr ((whollyWithheld_of_planner h.only _).symm.trans h1)
  discarded := k.discarded.trans h.discarded
  backOff := k.backOff.trans h.backOff
  lastTimedOut := k.lastTimedOut.trans h.lastTimedOut
  issued := by
    rcases h.issued with ⟨h1, h2⟩ | ⟨hi, hb, a, ha, htag, htt, hrest⟩
    · rcases k.issued with ⟨k1, k2⟩ | ⟨ki, kb, a, ka, ktag, ktt, kt, kacc⟩
      · exact .inl ⟨k1.trans h1, k2.trans h2⟩
      · exact .inr ⟨h1.symm.trans ki, h.backOff.symm.trans kb, a, ka, by rw [ktag, h2], ktt, by rw [kt, delivery_of_planner h.only], kacc⟩
    · refine .inr ⟨hi, hb, a, k.called_stays ha, htag, ?_, hrest⟩
      rcases k.issued with ⟨-, k2⟩ | ⟨ki, -⟩
      · exact k2.trans htt
      · rw [ha] at ki; cases ki

/-- A change of the call points alone. -/
theorem of_points (f : List (Nat × Nat) → List (Nat × Nat)) (s : State) :
    Replanned s (updPlanner (fun p => { p with points := f p.points }) s) :=
  ⟨updPlanner_onlyPlanner _ _, fun _ h => h, fun _ h => .inl h, fun _ h => .inl h, rfl, rfl, rfl, .inl ⟨rfl, rfl⟩⟩

/-- R116: an entry put in its place, for a group that is not wholly withheld. -/
theorem of_insert {c : Call} {s : State} (h : whollyWithheld s c.group = false) :
    Replanned s (updPlanner (fun p => { p with calls := insertCall c p.calls }) s) where
  only := updPlanner_onlyPlanner _ _
  sent _ ho := ho
  kept _ hd := .inl ((mem_insertCall _ _ _).2 (.inr hd))
  listed d hd := by
    rcases (mem_insertCall _ _ _).1 hd with rfl | hd
    · exact .inr h
    · exact .inl hd
  discarded := rfl
  backOff := rfl
  lastTimedOut := rfl
  issued := .inl ⟨rfl, rfl⟩

end Replanned

theorem removePoint_replanned (g : Nat) (s : State) : Replanned s (removePoint g s) := .of_points _ s

/-- R123: the call test issues the head entry, or nothing. -/
theorem callTest_replanned (s : State) : Replanned s (callTest s) := by
  refine ⟨callTest_onlyPlanner s, fun o ho => ?_, fun c hc => calledNow_callTest rfl hc, fun c hc => .inl ?_, ?_, ?_, ?_, ?_⟩ <;>
    unfold callTest at *
  · split
    · exact List.mem_append_left _ ho
    · exact ho
  · split at hc
    · rename_i h; rw [h]; exact List.mem_cons_of_mem _ hc
    · exact hc
  · split <;> rfl
  · split <;> rfl
  · split <;> rfl
  · split
    · rename_i hi hb _; exact .inr ⟨hi, hb, _, rfl, rfl, rfl, rfl, rfl⟩
    · exact .inl ⟨rfl, rfl⟩

/-- R116: a PLANNED listing leaves an entry that stands as it is. -/
theorem listGroup_replanned (g : Nat) (origin : CallOrigin) (s : State) : Replanned s (listGroup g .planned origin s) := by
  unfold listGroup; split
  · exact .refl s
  · rename_i hw
    rw [Bool.not_eq_true] at hw
    split
    · exact .refl s
    · exact (callTest_replanned _).after ((Replanned.of_insert (c := { group := g, .. }) (s := removePoint g s) hw).after
        (removePoint_replanned g s))
    · split
      · rw [if_neg (by simp)]; exact .refl s
      · exact .refl s

theorem evaluateGroup_replanned (g : Nat) (s : State) : Replanned s (evaluateGroup g s) := by
  have h := removePoint_replanned g s
  unfold evaluateGroup; dsimp only; split
  · split
    · exact (listGroup_replanned _ _ _).after h
    · split
      · exact h
      · split
        · exact (listGroup_replanned _ _ _).after h
        · exact (Replanned.of_points _ _).after h
  · exact h

theorem evaluateGroups_replanned : ∀ (gs : List Nat) (s : State), Replanned s (evaluateGroups gs s)
  | [], s => .refl s
  | g :: gs, s => (evaluateGroups_replanned gs (evaluateGroup g s)).after (evaluateGroup_replanned g s)

/-! ## The open shift after a settle-all (R19, R20) -/

/-- R19, R20: spindles settled one after another, each once, as the open shift sees it. -/
theorem shift_settleEach : ∀ (ns : List Nat), ns.Nodup → ∀ s : State, (∀ n ∈ ns, hasSpindle s n = true) →
    (settleEach ns s).shift =
      { s.shift with
        categories :=
          (ns.map (spindle s)).foldl
            (fun c sp => c.add (categoryOf s.delivery.driving sp.state) (owedSeconds s.delivery.now sp)) s.shift.categories
        segments :=
          (ns.map (spindle s)).foldl (fun l sp => addToCurrent (owedPulses s.delivery.phi sp) l) s.shift.segments }
  | [], _, _, _ => rfl
  | n :: ns, hnd, s, hr => by
    obtain ⟨hn, hnd⟩ := List.nodup_cons.1 hnd
    have hd : (settleSpindle n s).delivery = s.delivery := settleEach_delivery [n] s
    have hsp : ns.map (spindle (settleSpindle n s)) = ns.map (spindle s) :=
      List.map_congr_left fun m hm => spindle_settleSpindle_other n m s fun he => hn (he ▸ hm)
    have hsh : (settleSpindle n s).shift =
        s.shift.accrue (categoryOf s.delivery.driving (spindle s n).state) (owedSeconds s.delivery.now (spindle s n))
          (owedPulses s.delivery.phi (spindle s n)) := by
      simp only [settleSpindle, hr n List.mem_cons_self, if_true]; rfl
    have ih := shift_settleEach ns hnd (settleSpindle n s) fun m hm => by
      rw [hasSpindle_settleSpindle]; exact hr m (List.mem_cons_of_mem n hm)
    rw [hsp, hd, hsh] at ih
    exact ih

theorem spindles_eq_map (s : State) : s.spindles = (List.range' 1 s.spindles.length).map (spindle s) := by
  refine List.ext_getElem (by simp) fun i h1 h2 => ?_
  simp [spindle, nth_succ, Nat.add_comm 1 i, h1]

/-- R19: a settle-all books the categories as they were read. -/
theorem shift_settleAll {s : State} (hl : s.spindles.length = spindleCount s) :
    (settleAll s).shift =
      { s.shift with
        categories := categoriesRead s
        segments := s.spindles.foldl (fun l sp => addToCurrent (owedPulses s.delivery.phi sp) l) s.shift.segments } := by
  have h := shift_settleEach (allSpindles s) List.nodup_range' s fun n hn => by
    rw [mem_allSpindles] at hn
    rw [hasSpindle_iff, hl]; exact hn
  have hm : (allSpindles s).map (spindle s) = s.spindles := by
    rw [allSpindles, ← hl, ← spindles_eq_map]
  rw [hm] at h
  exact h

theorem addToCurrent_addToCurrent (a b : Nat) : ∀ l : List Segment, addToCurrent b (addToCurrent a l) = addToCurrent (a + b) l
  | [] => rfl
  | [g] => by simp only [addToCurrent, satAdd_assoc]
  | g :: h :: rest => by
    have ih := addToCurrent_addToCurrent a b (h :: rest)
    have hne : ∃ x l, addToCurrent a (h :: rest) = x :: l := by
      cases rest <;> exact ⟨_, _, rfl⟩
    obtain ⟨x, l, hx⟩ := hne
    simp only [addToCurrent, hx] at ih ⊢
    rw [ih]

theorem addToCurrent_foldl (owed : Spindle → Nat) : ∀ (l : List Spindle) (k : Nat) (g : List Segment),
    addToCurrent k (l.foldl (fun g sp => addToCurrent (owed sp) g) g) = addToCurrent ((l.map owed).sum + k) g
  | [], k, g => by rw [List.map_nil, List.sum_nil, Nat.zero_add]; rfl
  | sp :: l, k, g => by
    rw [List.foldl_cons, addToCurrent_foldl owed l k, addToCurrent_addToCurrent, List.map_cons, List.sum_cons, Nat.add_assoc]

/-- R17, R19: nothing added to categories within their range leaves them. -/
theorem add_zero_of_total {c : Categories} (h : c.total < Config.top48) (k : Category) : c.add k 0 = c := by
  have hz {x : Nat} (hx : x ≤ c.total) : satAdd Config.top48 x 0 = x := Nat.min_eq_right (hx.trans h.le)
  obtain ⟨a, b, d, e, f, g, i, j⟩ := c
  unfold Categories.total at hz
  dsimp only at hz
  cases k <;> simp only [Categories.add] <;> rw [hz (by omega)]

theorem foldl_add_zero {c : Categories} (h : c.total < Config.top48) (kind : Spindle → Category) (owed : Spindle → Nat) :
    ∀ l : List Spindle, (∀ sp ∈ l, owed sp = 0) → l.foldl (fun c sp => c.add (kind sp) (owed sp)) c = c
  | [], _ => rfl
  | sp :: l, h0 => by
    rw [List.foldl_cons, h0 sp List.mem_cons_self, add_zero_of_total h]
    exact foldl_add_zero h kind owed l fun x hx => h0 x (List.mem_cons_of_mem sp hx)

/-- R19: with sound books no category has reached the top of its range. -/
theorem categoriesRead_lt {s : State} (hp : s.powered = true) (h : booksSound s) : (categoriesRead s).total < Config.top48 := by
  obtain ⟨⟨-, hg⟩, hb⟩ := h
  obtain ⟨ht, -⟩ := hg hp
  obtain ⟨hn, -, -, he⟩ := hb hp
  rw [he]
  calc s.spindles.length * (s.delivery.now - s.shift.openSecond)
      ≤ 2016 * Config.top32 := Nat.mul_le_mul ht.length_le ((Nat.sub_le _ _).trans hn)
    _ < Config.top48 := by decide

end Sys2Proof.Machine

/-! # Restart made (R30, R48, R71, R98, R110, R133, R157, R207) -/

namespace Sys2Proof.Machine

open Sys2Proof

/-! ## The stations refused (R98) -/

/-- R98: a carriage record after Restart: ABSENT, its tag and counters kept. -/
def Carriage.refused (c : Carriage) : Carriage :=
  match c.link.station? with
  | none => c
  | some _ => c.absented

/-- R98: the REFUSE sent to a record's station, if it has one. -/
def Carriage.refusal (c : Carriage) : List Output :=
  match c.link.station? with
  | none => []
  | some st => [.carriage st.number (.refuse .restarted)]

theorem refused_link (c : Carriage) : c.refused.link = .absent := by
  unfold Carriage.refused
  cases hl : c.link <;> simp [CarriageLink.station?, Carriage.absented, hl]

theorem refused_kept (c : Carriage) : c.refused.tag = c.tag ∧ c.refused.counters = c.counters := by
  unfold Carriage.refused; split <;> exact ⟨rfl, rfl⟩

theorem refuseAtRestart_eq (r : RecordNo) (s : State) :
    refuseAtRestart r s = updCarriage r Carriage.refused { s with emitted := s.emitted ++ (carriage s r).refusal } := by
  cases hl : (carriage s r).link.station? with
  | none =>
    have h1 : (carriage s r).refusal = [] := by rw [Carriage.refusal, hl]
    have h2 : updCarriage r Carriage.refused s = updCarriage r id s := updCarriage_congr (by rw [Carriage.refused, hl]; rfl)
    have h3 : updCarriage r id s = s := by cases r <;> rfl
    rw [h1, List.append_nil]
    exact (show refuseAtRestart r s = s by simp only [refuseAtRestart, hl]).trans (h2.trans h3).symm
  | some st =>
    have h1 : (carriage s r).refusal = [.carriage st.number (.refuse .restarted)] := by rw [Carriage.refusal, hl]
    rw [h1]
    refine (show refuseAtRestart r s = _ by simp only [refuseAtRestart, hl]; rfl).trans (updCarriage_congr (f := Carriage.absented) ?_)
    have hc : carriage { s with emitted := s.emitted ++ [.carriage st.number (.refuse .restarted)] } r = carriage s r := by
      cases r <;> rfl
    rw [hc, Carriage.refused, hl]

/-- R98: both records after every spindle has been settled, record 1 first (entry 39). -/
def stationsRefused (s : State) : State := refuseAtRestart .two (refuseAtRestart .one (settleAll s))

theorem stationsRefused_eq (s : State) :
    stationsRefused s =
      { settleAll s with
        emitted := (settleAll s).emitted ++ (settleAll s).car1.refusal ++ (settleAll s).car2.refusal
        car1 := (settleAll s).car1.refused, car2 := (settleAll s).car2.refused } := by
  rw [stationsRefused, refuseAtRestart_eq, refuseAtRestart_eq]; rfl

/-! ## The frame rebuilt (R30, R46, R48, R110) -/

/-- The frame of a board restarted, but for the planner, the messages, the doff sequencer and the line. -/
def restartFrame (s : State) : State :=
  resetSensing (rebuildSpindles
    { settleAll s with car1 := s.car1.refused, car2 := s.car2.refused, locks := s.locks.map Lock.restarted })

/-- The board restarted as far as the planner, which then rebuilds its call points. -/
def restartPlanned (s : State) : State := rebuildPoints (resetSensing (rebuildSpindles (releaseAtRestart (stationsRefused s))))

theorem plannerGranted_eq (s : State) :
    plannerGranted s =
      match s.planner.transport.change with
      | none => s
      | some c =>
        { s with planner := { s.planner with transport := .changing c }, emitted := s.emitted ++ [.transport (.proceed c.tag)] } := by
  unfold plannerGranted
  cases s.planner.transport.change <;> rfl

/-- R110, R133: what the release of the locks at Restart does to the planner and sends. -/
structure ReleasesLocks (s t : State) : Prop where
  only : onlyPlanner { s with locks := s.locks.map Lock.restarted } t
  sent : ∀ o ∈ s.emitted, o ∈ t.emitted
  planner : t.planner = { s.planner with transport := t.planner.transport }
  granted : ∀ (c : ActiveChange) (l : Lock), s.planner.transport.change = some c → l ∈ s.locks → l.claim ≠ none →
    t.planner.transport = .changing c ∧ .transport (.proceed c.tag) ∈ t.emitted
  unclaimed : (∀ l ∈ s.locks, l.claim = none) → t.planner.transport = s.planner.transport
  idle : t.planner.transport = .idle ↔ s.planner.transport = .idle

theorem releaseAtRestart_releases (s : State) : ReleasesLocks s (releaseAtRestart s) := by
  have hp : onlyPlanner { s with locks := s.locks.map Lock.restarted } (releaseAtRestart s) := by
    unfold releaseAtRestart; dsimp only; split
    · exact plannerGranted_onlyPlanner _
    · exact .refl _
  by_cases hcl : (s.locks.any fun l => l.claim.isSome) = true
  · have he : releaseAtRestart s = plannerGranted { s with locks := s.locks.map Lock.restarted } := by
      unfold releaseAtRestart; exact if_pos hcl
    have hno : ¬ ∀ l ∈ s.locks, l.claim = none := by
      obtain ⟨l, hl, hc⟩ := List.any_eq_true.1 hcl
      exact fun h => by rw [h l hl] at hc; cases hc
    rw [plannerGranted_eq] at he
    cases hch : s.planner.transport.change with
    | none =>
      simp only [hch] at he
      rw [he] at hp ⊢
      exact ⟨hp, fun _ h => h, rfl, fun _ _ h => (by rw [hch] at h; cases h), fun _ => rfl, Iff.rfl⟩
    | some c =>
      simp only [hch] at he
      rw [he] at hp ⊢
      refine ⟨hp, fun _ h => List.mem_append_left _ h, rfl, fun c' _ h _ _ => ?_, fun h => absurd h hno, ⟨(fun h => nomatch h), fun h => ?_⟩⟩
      · obtain rfl : c = c' := Option.some.inj (hch.symm.trans h)
        exact ⟨rfl, List.mem_append_right _ List.mem_cons_self⟩
      · rw [h] at hch; cases hch
  · have he : releaseAtRestart s = { s with locks := s.locks.map Lock.restarted } := by
      unfold releaseAtRestart; exact if_neg hcl
    rw [he] at hp ⊢
    refine ⟨hp, fun _ h => h, rfl, fun _ l _ hl hc => absurd ?_ hcl, fun _ => rfl, Iff.rfl⟩
    exact List.any_eq_true.2 ⟨l, hl, Option.isSome_iff_ne_none.2 hc⟩

/-- What Restart makes of the planner, and what it sends. -/
structure RestartPlan (s t : State) : Prop where
  frame : onlyPlanner (restartFrame s) t
  refused : ∀ (r : RecordNo) (st : Station), (carriage s r).link.station? = some st →
    .carriage st.number (.refuse .restarted) ∈ t.emitted
  granted : ∀ (c : ActiveChange) (l : Lock), s.planner.transport.change = some c → l ∈ s.locks → l.claim ≠ none →
    t.planner.transport = .changing c ∧ .transport (.proceed c.tag) ∈ t.emitted
  listed : ∀ call ∈ t.planner.calls, whollyWithheld t call.group = false
  kept : ∀ call ∈ s.planner.calls, whollyWithheld t call.group = false → calledNow call s t
  discarded : t.planner.discarded = s.planner.discarded
  backOff : t.planner.backOff = s.planner.backOff
  lastTimedOut : t.planner.lastTimedOut = s.planner.lastTimedOut
  idle : s.planner.transport = .idle → IssuedAtMost s t
  change : s.planner.transport ≠ .idle →
    t.planner.tag = s.planner.tag ∧ ((∀ l ∈ s.locks, l.claim = none) → t.planner.transport = s.planner.transport)

theorem refusal_mem {c : Carriage} {st : Station} (h : c.link.station? = some st) :
    .carriage st.number (.refuse .restarted) ∈ c.refusal := by
  rw [Carriage.refusal, h]; exact List.mem_cons_self

theorem stationsRefused_frame (s : State) :
    (∀ (r : RecordNo) (st : Station), (carriage s r).link.station? = some st →
        .carriage st.number (.refuse .restarted) ∈ (stationsRefused s).emitted) ∧
      (stationsRefused s).planner = s.planner ∧ (stationsRefused s).locks = s.locks ∧
      onlyPlanner (restartFrame s)
        (resetSensing (rebuildSpindles { stationsRefused s with locks := (stationsRefused s).locks.map Lock.restarted })) := by
  obtain ⟨u, hu⟩ := settleEach_onlyBooks (allSpindles s) s
  change settleAll s = _ at hu
  refine ⟨fun r st h => ?_, ?_, ?_, ?_⟩
  · rw [stationsRefused_eq, hu]
    cases r
    · exact List.mem_append_left _ (List.mem_append_right _ (refusal_mem h))
    · exact List.mem_append_right _ (refusal_mem h)
  · rw [stationsRefused_eq, hu]
  · rw [stationsRefused_eq, hu]
  · rw [restartFrame, stationsRefused_eq, hu]
    exact ⟨{ s with emitted := s.emitted ++ s.car1.refusal ++ s.car2.refusal }, rfl⟩

theorem resetSensing_onlyPlanner {s t : State} (h : onlyPlanner s t) :
    onlyPlanner (resetSensing (rebuildSpindles s)) (resetSensing (rebuildSpindles t)) := by
  obtain ⟨u, rfl⟩ := h; exact ⟨u, rfl⟩

theorem Replanned.busy {s t : State} (h : Replanned s t) (hi : s.planner.transport ≠ .idle) :
    t.planner.transport = s.planner.transport ∧ t.planner.tag = s.planner.tag :=
  h.issued.elim id fun h => absurd h.1 hi

/-- R118, R133: before the call points are built again: those of old are gone, and the calls of groups that are wholly withheld. -/
def pointsCleared (s : State) : State := updPlanner (fun p => { p with points := [] }) (dropWithheldCalls s)

theorem pointsCleared_onlyPlanner (s : State) : onlyPlanner s (pointsCleared s) :=
  (updPlanner_onlyPlanner _ _).after (updPlanner_onlyPlanner _ _)

theorem rebuildPoints_replanned (s : State) : Replanned (pointsCleared s) (rebuildPoints s) := evaluateGroups_replanned _ _

theorem mem_calls_pointsCleared {s : State} {c : Call} :
    c ∈ (pointsCleared s).planner.calls ↔ c ∈ s.planner.calls ∧ whollyWithheld s c.group = false := by
  show c ∈ s.planner.calls.filter (fun c => !whollyWithheld s c.group) ↔ _
  rw [List.mem_filter, Bool.not_eq_true']

/-- The board restarted, before its planner evaluates the groups. -/
structure RestartReady (s e : State) : Prop where
  frame : onlyPlanner (restartFrame s) e
  refused : ∀ (r : RecordNo) (st : Station), (carriage s r).link.station? = some st →
    .carriage st.number (.refuse .restarted) ∈ e.emitted
  planner : e.planner = { s.planner with transport := e.planner.transport }
  granted : ∀ (c : ActiveChange) (l : Lock), s.planner.transport.change = some c → l ∈ s.locks → l.claim ≠ none →
    e.planner.transport = .changing c ∧ .transport (.proceed c.tag) ∈ e.emitted
  unclaimed : (∀ l ∈ s.locks, l.claim = none) → e.planner.transport = s.planner.transport
  idle : e.planner.transport = .idle ↔ s.planner.transport = .idle

theorem restart_ready (s : State) :
    RestartReady s (resetSensing (rebuildSpindles (releaseAtRestart (stationsRefused s)))) := by
  obtain ⟨hsent, hplanner, hlocks, hframe⟩ := stationsRefused_frame s
  have R := releaseAtRestart_releases (stationsRefused s)
  obtain ⟨honly, hmore, hpl, hgr, hun, hid⟩ := R
  rw [hplanner] at hpl hgr hun hid
  rw [hlocks] at hgr hun
  exact ⟨(resetSensing_onlyPlanner honly).after hframe, fun r st h => hmore _ (hsent r st h), hpl, hgr, hun, hid⟩

theorem restartPlanned_plan (s : State) : RestartPlan s (restartPlanned s) := by
  have E := restart_ready s
  unfold restartPlanned
  generalize resetSensing (rebuildSpindles (releaseAtRestart (stationsRefused s))) = e at *
  have F := rebuildPoints_replanned e
  have hc := pointsCleared_onlyPlanner e
  have hp := rebuildPoints_onlyPlanner e
  have hnow : (pointsCleared e).delivery.now = s.delivery.now := by
    obtain ⟨u, hu⟩ := E.frame
    obtain ⟨v, hv⟩ := settleEach_onlyBooks (allSpindles s) s
    change settleAll s = _ at hv
    rw [hu, restartFrame, hv]; rfl
  have hcalls : e.planner.calls = s.planner.calls := by rw [E.planner]
  have htag : e.planner.tag = s.planner.tag := by rw [E.planner]
  have hback : e.planner.backOff = s.planner.backOff := by rw [E.planner]
  have hdisc : e.planner.discarded = s.planner.discarded := by rw [E.planner]
  have hlast : e.planner.lastTimedOut = s.planner.lastTimedOut := by rw [E.planner]
  have hwhole (g : Nat) : whollyWithheld (rebuildPoints e) g = whollyWithheld e g := whollyWithheld_of_planner hp g
  refine ⟨hp.after E.frame, fun r st h => F.sent _ (E.refused r st h), fun c l h hl hcl => ?_, fun c hcall => ?_, fun c hcall hw => ?_,
    F.discarded.trans hdisc, F.backOff.trans hback, F.lastTimedOut.trans hlast, fun hi => ?_, fun hi => ?_⟩
  · obtain ⟨ht, hm⟩ := E.granted c l h hl hcl
    refine ⟨(F.busy ?_).1.trans ht, F.sent _ hm⟩
    rw [show (pointsCleared e).planner.transport = _ from ht]; exact fun h => nomatch h
  · rw [hwhole]
    rcases F.listed c hcall with h | h
    · exact (mem_calls_pointsCleared.1 h).2
    · rw [← whollyWithheld_of_planner hc]; exact h
  · rw [hwhole] at hw
    rcases F.kept c (mem_calls_pointsCleared.2 ⟨hcalls ▸ hcall, hw⟩) with h | ⟨a, ha, hac, hat⟩
    · exact .inl h
    · exact .inr ⟨a, ha, hac, hat.trans hnow⟩
  · rcases F.issued with ⟨h1, h2⟩ | ⟨h1, h2, a, ha, htg, htt, htime, hacc⟩
    · exact .inl ⟨h1.trans ((E.idle.2 hi).trans hi.symm), h2.trans htag⟩
    · exact .inr ⟨hi, hback.symm.trans h2, a, ha, htg.trans (by rw [← htag]; rfl), htt, htime.trans hnow, hacc⟩
  · obtain ⟨h1, h2⟩ := F.busy fun h => hi (E.idle.1 h)
    exact ⟨h2.trans htag, fun hcl => h1.trans (E.unclaimed hcl)⟩

end Sys2Proof.Machine

/-! # What a Restart leaves, block by block (R30, R46, R48, R98, R110, R143, R157, R173, R207) -/

namespace Sys2Proof.Machine

open Sys2Proof

/-! ## The doff sequencer (R143, R157) -/

/-- R142, R143: the doff sequencer that goes on to DOFFING with every carriage clear. -/
def doffEntered (call : CallInfo) (s : State) : Doff :=
  { s.doff with
    phase := .doffing call (doffRecordOf s s call), number := (s.doff.number + 1) % 65536, request := true, clear := true }

/-- R157: the doff sequencer after Restart. -/
def doffRestarted (s : State) : Doff :=
  match s.doff.phase with
  | .called call => if s.delivery.driving then s.doff else doffEntered call s
  | .parking call => doffEntered call s
  | _ => s.doff

theorem enterDoffing_entered (call : CallInfo) (s : State) : enterDoffing call s = { s with doff := doffEntered call s } := by
  rw [enterDoffing_eq, openRecord_eq]; rfl

theorem parkRecord_absent {r : RecordNo} {s : State} (h : (carriage s r).link = .absent) : parkRecord r s = s := by
  unfold parkRecord; rw [h]

theorem parkBoth_absent {s : State} (h1 : s.car1.link = .absent) (h2 : s.car2.link = .absent) : parkBoth s = s := by
  rw [parkBoth, parkRecord_absent (r := .one) h1, parkRecord_absent (r := .two) h2]

theorem frameClear_absent {s : State} (h1 : s.car1.link = .absent) (h2 : s.car2.link = .absent) : frameClear s = true := by
  rw [frameClear, h1, h2]; rfl

/-- R157: with both records ABSENT, a doff that is called and not driven, or parking, goes on to DOFFING. -/
theorem doffAtRestart_eq {s : State} (h1 : s.car1.link = .absent) (h2 : s.car2.link = .absent) :
    doffAtRestart s = { s with doff := doffRestarted s } := by
  have hc := frameClear_absent h1 h2
  have stands (ha : doffAtRestart s = s) (hb : doffRestarted s = s.doff) : doffAtRestart s = { s with doff := doffRestarted s } := by
    rw [ha, hb]
  have goesOn (call : CallInfo) (ha : doffAtRestart s = { s with doff := doffEntered call s })
      (hb : doffRestarted s = doffEntered call s) : doffAtRestart s = { s with doff := doffRestarted s } := by
    rw [ha, hb]
  cases hph : s.doff.phase with
  | called call =>
    cases hd : s.delivery.driving
    · refine goesOn call ?_ (by simp [doffRestarted, hph, hd])
      have hp : parkBoth (updDoff (fun d => d.toPhase (.parking call)) s) = updDoff (fun d => d.toPhase (.parking call)) s :=
        parkBoth_absent h1 h2
      rw [doffAtRestart, hph]; dsimp only
      rw [hd, if_neg (by decide), enterParking_eq, if_pos hc, hp, enterDoffing_entered]; rfl
    · exact stands (by simp [doffAtRestart, hph, hd]) (by simp [doffRestarted, hph, hd])
  | parking call =>
    refine goesOn call ?_ (by simp only [doffRestarted, hph])
    rw [doffAtRestart, hph]; dsimp only
    rw [testClear, hph]; dsimp only
    rw [if_pos hc, enterDoffing_entered]
  | spinning => exact stands (by simp only [doffAtRestart, hph]) (by simp only [doffRestarted, hph])
  | warned => exact stands (by simp only [doffAtRestart, hph]) (by simp only [doffRestarted, hph])
  | doffing => exact stands (by simp only [doffAtRestart, hph]) (by simp only [doffRestarted, hph])
  | restarting => exact stands (by simp only [doffAtRestart, hph]) (by simp only [doffRestarted, hph])

/-! ## The spindles (R48) -/

theorem spindle_rebuildSpindles {s : State} {n : Nat} (hn : hasSpindle s n = true) :
    spindle (rebuildSpindles s) n =
      (spindle s n).rebuilt (rebuiltState s.zones.withheld s.delivery.driving s.delivery.now n) := by
  obtain ⟨h1, hl⟩ := (hasSpindle_iff s n).1 hn
  obtain ⟨k, rfl⟩ : ∃ k, n = k + 1 := ⟨n - 1, by omega⟩
  have hk : k < s.spindles.length := hl
  simp [spindle, rebuildSpindles, nth_succ, hk]

/-- R48: the state of a spindle after Restart. -/
def restartState (s : State) (n : Nat) : SpindleState :=
  if s.zones.withheld.contains (sectorOf n) then .withheld
  else if s.delivery.driving then .settling .driveStart s.delivery.now else .idle

theorem category_restartState (s : State) (n : Nat) (driving : Bool) :
    (restartState s n).isRunning = false ∧ categoryOf driving (restartState s n) ≠ .running := by
  unfold restartState
  split
  · exact ⟨rfl, fun h => nomatch h⟩
  · split
    · cases driving <;> exact ⟨rfl, fun h => nomatch h⟩
    · exact ⟨rfl, fun h => nomatch h⟩

theorem restartFrame_delivery (s : State) :
    (restartFrame s).delivery =
      { s.delivery with
        pulseLost := false
        pulseTimer := if s.delivery.driving then some (s.delivery.now + s.settings.working.pulseLossTime) else none } := by
  obtain ⟨v, hv⟩ := settleEach_onlyBooks (allSpindles s) s
  change settleAll s = _ at hv
  rw [restartFrame, hv]; rfl

/-- R20, R48: every spindle is settled and rebuilt. -/
theorem spindle_restartFrame {s : State} (hl : s.spindles.length = spindleCount s) {n : Nat} (hn : hasSpindle s n = true) :
    spindle (restartFrame s) n =
      ((spindle s n).settled s.delivery.driving s.delivery.now s.delivery.phi).rebuilt (restartState s n) := by
  have hs := spindle_settleAll s hl n
  rw [if_pos hn] at hs
  have hr : hasSpindle { settleAll s with car1 := s.car1.refused, car2 := s.car2.refused, locks := s.locks.map Lock.restarted } n = true := by
    rw [hasSpindle_iff] at hn ⊢
    rw [← length_settleAll s] at hn
    exact hn
  refine (spindle_rebuildSpindles hr).trans ?_
  show (spindle (settleAll s) n).rebuilt (rebuiltState (settleAll s).zones.withheld (settleAll s).delivery.driving (settleAll s).delivery.now n) = _
  obtain ⟨v, hv⟩ := settleEach_onlyBooks (allSpindles s) s
  change settleAll s = _ at hv
  have hz : (settleAll s).zones = s.zones := by rw [hv]
  rw [hs, settleAll_delivery, hz]; rfl

theorem satAdd_zero_satAdd (top a b : Nat) : satAdd top (satAdd top a b) 0 = satAdd top a b := by
  simp only [satAdd]; omega

/-- What Restart makes of a spindle's record: its readings stand, all else is as at a reset. -/
theorem rebuilt_readings (s t : State) (sp : Spindle) (n : Nat) :
    let x := (sp.settled s.delivery.driving s.delivery.now s.delivery.phi).rebuilt (restartState s n)
    copRead t x = copRead s sp ∧ usedRead t x = usedRead s sp ∧ shiftPulsesRead t x = shiftPulsesRead s sp ∧
      shiftSecondsRead t x = shiftSecondsRead s sp := by
  intro x
  obtain ⟨hr, hc⟩ := category_restartState s n t.delivery.driving
  have h0 : owedPulses t.delivery.phi x = 0 := by
    show (if (restartState s n).isRunning then _ else 0) = 0
    rw [hr]; rfl
  refine ⟨?_, ?_, ?_, ?_⟩
  · rw [copRead, h0]; exact satAdd_zero_satAdd _ _ _
  · rw [usedRead, h0]; exact satAdd_zero_satAdd _ _ _
  · rw [shiftPulsesRead, h0]; exact satAdd_zero_satAdd _ _ _
  · show (if categoryOf t.delivery.driving (restartState s n) = .running then _ else x.shiftSeconds) = _
    rw [if_neg hc]; rfl

/-! ## The board -/

theorem restartFrame_eq (s : State) :
    restartFrame s =
      { s with
        delivery := (restartFrame s).delivery
        railA := s.railA.restarted, railB := s.railB.restarted
        drowse := drowseAtReset s.delivery.driving s.settings.working.drowseDelay s.delivery.now
        spindles := (restartFrame s).spindles
        lamps := s.lamps.map fun _ => freshLamp
        listA := [], listB := []
        car1 := s.car1.refused, car2 := s.car2.refused
        locks := s.locks.map Lock.restarted
        shift := (settleAll s).shift } := by
  obtain ⟨v, hv⟩ := settleEach_onlyBooks (allSpindles s) s
  change settleAll s = _ at hv
  rw [restartFrame, hv]; rfl

/-- A board restarted: the frame rebuilt, the planner as planned, the restart counted, the line HUNTING, and the doff sequencer. -/
theorem makeRestart_eq (s : State) :
    ∃ p : State, RestartPlan s p ∧
      makeRestart s =
        { restartFrame s with
          emitted := p.emitted
          planner := p.planner
          doff := doffRestarted { restartFrame s with planner := p.planner }
          shift := { (settleAll s).shift with restarts := satAdd Config.top16 (settleAll s).shift.restarts 1 }
          line := { s.line with receiver := .hunting } } := by
  have P := restartPlanned_plan s
  refine ⟨restartPlanned s, P, ?_⟩
  obtain ⟨v, hv⟩ := P.frame
  have h1 : (restartPlanned s).car1.link = .absent := by rw [hv, restartFrame_eq]; exact refused_link _
  have h2 : (restartPlanned s).car2.link = .absent := by rw [hv, restartFrame_eq]; exact refused_link _
  refine (doffAtRestart_eq (s := countRestart (restartPlanned s)) h1 h2).trans ?_
  rw [hv, restartFrame_eq]
  rfl

section
variable (s : State)

theorem makeRestart_board :
    (makeRestart s).powered = s.powered ∧ (makeRestart s).pending = s.pending ∧
      (makeRestart s).line = { s.line with receiver := .hunting } ∧
      (makeRestart s).delivery =
        { s.delivery with
          pulseLost := false
          pulseTimer := if s.delivery.driving then some (s.delivery.now + s.settings.working.pulseLossTime) else none } ∧
      (makeRestart s).listA = [] ∧ (makeRestart s).listB = [] ∧
      (makeRestart s).car1 = s.car1.refused ∧ (makeRestart s).car2 = s.car2.refused ∧
      (makeRestart s).carDiscards = s.carDiscards ∧ (makeRestart s).locks = s.locks.map Lock.restarted ∧
      (makeRestart s).railA = s.railA.restarted ∧ (makeRestart s).railB = s.railB.restarted ∧
      (makeRestart s).lamps = s.lamps.map fun _ => freshLamp := by
  obtain ⟨p, -, he⟩ := makeRestart_eq s
  rw [he, ← restartFrame_delivery, restartFrame_eq]
  exact ⟨rfl, rfl, rfl, rfl, rfl, rfl, rfl, rfl, rfl, rfl, rfl, rfl, rfl⟩

theorem makeRestart_kept :
    (makeRestart s).ring = s.ring ∧ (makeRestart s).zones = s.zones ∧ (makeRestart s).settings = s.settings ∧
      (makeRestart s).store = s.store ∧ (makeRestart s).faults = s.faults ∧ (makeRestart s).notices = s.notices := by
  obtain ⟨p, -, he⟩ := makeRestart_eq s
  rw [he, restartFrame_eq]
  exact ⟨rfl, rfl, rfl, rfl, rfl, rfl⟩

theorem makeRestart_spindles : (makeRestart s).spindles = (restartFrame s).spindles := by
  obtain ⟨p, -, he⟩ := makeRestart_eq s
  rw [he]

end

end Sys2Proof.Machine

/-! # A Restart made, as the model's requests bring it about (R110, R133, R143, R157, R166, R207) -/

namespace Sys2Proof.Machine

open Sys2Proof

/-! ## The planner and the doff sequencer of a board restarted (R133, R157) -/

/-- What `RestartPlan` says of the planner and of what is sent holds of the board restarted. -/
theorem makeRestart_plan (s : State) :
    ∃ p : State, RestartPlan s p ∧ (makeRestart s).planner = p.planner ∧ (makeRestart s).emitted = p.emitted ∧
      ∀ g, whollyWithheld (makeRestart s) g = whollyWithheld p g := by
  obtain ⟨p, P, he⟩ := makeRestart_eq s
  refine ⟨p, P, by rw [he], by rw [he], fun g => ?_⟩
  rw [whollyWithheld_of_planner P.frame, he]; rfl

/-- R133: a call is issued at Restart from an IDLE transport alone; else the change stands, unless a claim that waited is granted. -/
theorem RestartPlan.transport {s p : State} (P : RestartPlan s p) :
    match s.planner.transport with
    | .idle =>
      (p.planner.transport = .idle ∧ p.planner.tag = s.planner.tag) ∨
        (s.planner.backOff = none ∧
          ∃ a : ActiveChange, p.planner.transport = .called a ∧ a.tag = (s.planner.tag + 1) % 256 ∧
            p.planner.tag = a.tag ∧ a.callTime = s.delivery.now ∧ a.accepted = false)
    | change =>
      p.planner.tag = s.planner.tag ∧ ((∀ l ∈ s.locks, l.claim = none) → p.planner.transport = change) := by
  have hidle := P.idle
  have hchange := P.change
  cases ht : s.planner.transport <;> rw [ht] at hidle hchange
  case idle =>
    rcases hidle rfl with ⟨h1, h2⟩ | ⟨-, h⟩
    · exact .inl ⟨h1.trans ht, h2⟩
    · exact .inr h
  case called => exact hchange fun h => nomatch h
  case waiting => exact hchange fun h => nomatch h
  case changing => exact hchange fun h => nomatch h

/-- R157: a doff that is called and not driven, or parking, goes on to DOFFING at Restart, and its doff record is opened. -/
theorem makeRestart_doff (s : State) :
    let entered := fun call =>
      (makeRestart s).doff =
        { s.doff with
          phase := .doffing call (doffRecordOf s (makeRestart s) call), number := (s.doff.number + 1) % 65536, request := true
          clear := true }
    match s.doff.phase with
    | .called call => if s.delivery.driving then (makeRestart s).doff = s.doff else entered call
    | .parking call => entered call
    | _ => (makeRestart s).doff = s.doff := by
  obtain ⟨x, hd, hk, hv, hrecord⟩ : ∃ x : State, (makeRestart s).doff = doffRestarted x ∧ x.doff = s.doff ∧
      x.delivery.driving = s.delivery.driving ∧ ∀ call, doffRecordOf x x call = doffRecordOf s (makeRestart s) call := by
    obtain ⟨p, -, he⟩ := makeRestart_eq s
    refine ⟨{ restartFrame s with planner := p.planner }, by rw [he], ?_, ?_, fun call => ?_⟩
    · rw [restartFrame_eq]
    · show (restartFrame s).delivery.driving = _
      rw [restartFrame_delivery]
    · rw [he, restartFrame_eq, restartFrame_delivery]; rfl
  intro entered
  have hentered (call : CallInfo) (h : doffRestarted x = doffEntered call x) : entered call := by
    show (makeRestart s).doff = _
    rw [hd, h, doffEntered, hk, hrecord]
  cases hph : s.doff.phase with
  | called call =>
    cases hdr : s.delivery.driving
    · exact hentered call (by simp only [doffRestarted, hk, hph, hv, hdr]; rfl)
    · exact hd.trans (by simp only [doffRestarted, hk, hph, hv, hdr, if_true])
  | parking call => exact hentered call (by simp only [doffRestarted, hk, hph])
  | spinning => exact hd.trans (by simp only [doffRestarted, hk, hph])
  | warned => exact hd.trans (by simp only [doffRestarted, hk, hph])
  | doffing => exact hd.trans (by simp only [doffRestarted, hk, hph])
  | restarting => exact hd.trans (by simp only [doffRestarted, hk, hph])

/-! ## The tables (R30, R48, R110) -/

theorem hasSpindle_makeRestart (s : State) (n : Nat) : hasSpindle (makeRestart s) n = hasSpindle s n := by
  have hl : (restartFrame s).spindles.length = s.spindles.length := by
    simp [restartFrame, resetSensing, rebuildSpindles, length_settleAll]
  rw [hasSpindle, makeRestart_spindles, hl]; rfl

/-- R20, R48: a spindle of the board restarted. -/
theorem spindle_makeRestart {s : State} (hl : s.spindles.length = spindleCount s) {n : Nat} (hn : hasSpindle s n = true) :
    spindle (makeRestart s) n =
      ((spindle s n).settled s.delivery.driving s.delivery.now s.delivery.phi).rebuilt (restartState s n) := by
  rw [← spindle_restartFrame hl hn, spindle, makeRestart_spindles]; rfl

/-- R20, R31, R48: a Restart leaves nothing to be added to any counter. -/
theorem settledNow_makeRestart {s : State} (hl : s.spindles.length = spindleCount s) : settledNow (makeRestart s) := by
  intro sp hsp
  obtain ⟨n, hn, rfl⟩ := (mem_spindles_iff _ sp).1 hsp
  rw [hasSpindle_makeRestart] at hn
  obtain ⟨-, -, -, hd, -⟩ := makeRestart_board s
  rw [spindle_makeRestart hl hn, hd]
  refine ⟨rfl, ?_⟩
  show (if (restartState s n).isRunning then _ else 0) = 0
  rw [(category_restartState s n true).1]; rfl

theorem lockOf_makeRestart (s : State) (k : Nat) : lockOf (makeRestart s) k = (lockOf s k).restarted := by
  obtain ⟨-, -, -, -, -, -, -, -, -, hlocks, -⟩ := makeRestart_board s
  rw [lockOf, lockOf, hlocks]
  cases k with
  | zero => rfl
  | succ j => simp only [nth_succ, List.getD_eq_getElem?_getD, List.getElem?_map]; cases s.locks[j]? <;> rfl

theorem Lock.restarted_eq (l : Lock) :
    l.restarted =
      match l.holder with
      | .carriage _ (some _) => { holder := .transport, last := .carriage, carryOver := 0 }
      | .carriage _ none => { holder := .free, last := .carriage, carryOver := l.carryOver }
      | _ => l := by
  obtain ⟨holder, last, carryOver⟩ := l
  cases holder with
  | free => rfl
  | carriage r claim => cases claim <;> rfl
  | transport => rfl

theorem railOf_makeRestart (s : State) (side : Side) : railOf (makeRestart s) side = (railOf s side).restarted := by
  obtain ⟨-, -, -, -, -, -, -, -, -, -, ha, hb, -⟩ := makeRestart_board s
  cases side
  · exact ha
  · exact hb

theorem freshHead_of_mem_restarted {r : Rail} {x : Head} (h : x ∈ r.restarted.heads) : x = freshHead := List.eq_of_mem_replicate h

/-! ## The open shift (R19, R166, R207) -/

theorem makeRestart_shift {s : State} (hl : s.spindles.length = spindleCount s) :
    (makeRestart s).shift =
      { s.shift with
        restarts := min 65535 (s.shift.restarts + 1)
        categories := categoriesRead s
        segments := s.spindles.foldl (fun l sp => addToCurrent (owedPulses s.delivery.phi sp) l) s.shift.segments } := by
  obtain ⟨p, -, he⟩ := makeRestart_eq s
  rw [he, shift_settleAll hl]
  rfl

/-- R19: the categories of the open shift read after a Restart as before it. -/
theorem categoriesRead_makeRestart {s : State} (hl : s.spindles.length = spindleCount s)
    (h : (categoriesRead s).total < Config.top48) : categoriesRead (makeRestart s) = categoriesRead s := by
  have hs : (makeRestart s).shift.categories = categoriesRead s := by rw [makeRestart_shift hl]
  rw [categoriesRead, hs]
  refine foldl_add_zero h _ _ _ fun sp hsp => ?_
  rw [owedSeconds, (settledNow_makeRestart hl sp hsp).1, Nat.sub_self]

/-- R19: so do its segments. -/
theorem segmentsRead_makeRestart {s : State} (hl : s.spindles.length = spindleCount s) :
    segmentsRead (makeRestart s) = segmentsRead s := by
  have hs : (makeRestart s).shift.segments =
      s.spindles.foldl (fun l sp => addToCurrent (owedPulses s.delivery.phi sp) l) s.shift.segments := by rw [makeRestart_shift hl]
  have h0 : ((makeRestart s).spindles.map (owedPulses (makeRestart s).delivery.phi)).sum = 0 := by
    rw [List.sum_eq_zero]
    intro x hx
    obtain ⟨sp, hsp, rfl⟩ := List.mem_map.1 hx
    exact (settledNow_makeRestart hl sp hsp).2
  rw [segmentsRead, h0, hs, addToCurrent_foldl]; rfl

/-! ## The reply that brings the Restart about (R200, R201, R207) -/

/-- R207: the board as it stands when the Restart is made: its reply is gone, and a notice of the reply may stand unmarked. -/
structure ReplyGone (s u : State) : Prop where
  rest : ∃ (n : Notices) (l : Line), u = { s with emitted := [], notices := n, line := l }
  line : { u.line with receiver := .hunting } = { s.line with receiver := .hunting, reply := none }
  latches : u.notices.latches = s.notices.latches
  lost : u.notices.lost = s.notices.lost
  queue : (∀ n ∈ s.notices.queue, n.fetched = false) → u.notices = s.notices

theorem unmarkNotices_of_unfetched {s : State} (h : ∀ n ∈ s.notices.queue, n.fetched = false) :
    (unmarkNotices s).notices = s.notices := by
  have hq : s.notices.queue.map (fun n => { n with fetched := false }) = s.notices.queue := by
    refine (List.map_congr_left fun n hn => ?_).trans (List.map_id _)
    have hf := h n hn
    cases n
    cases hf
    rfl
  show { s.notices with queue := s.notices.queue.map fun n => { n with fetched := false } } = s.notices
  rw [hq]

/-- R207: the Restart is made once its reply has been sent whole, or is withheld. -/
theorem exec_restart_reply {s : State} {kind : Nat} {body : List Byte} {c : Instr} (hp : s.powered = true)
    (hr : s.line.reply = some { kind := kind, body := body, effect := .restart })
    (hc : (c = .replyEnd ∧ s.line.receiver = .replying) ∨ (c = .replyWithheld ∧ s.line.receiver = .hunting)) :
    ∃ u, ReplyGone s u ∧ exec c s = .next (makeRestart u) := by
  rcases hc with ⟨rfl, hl⟩ | ⟨rfl, hl⟩
  · refine ⟨updLine (fun l => { l with receiver := .hunting, reply := none }) { s with emitted := [] },
      ⟨⟨_, _, rfl⟩, rfl, rfl, rfl, fun _ => rfl⟩, (live_powered finishReply s hp).trans ?_⟩
    simp only [finishReply, endReply, hl, hr, restartOf]
  · refine ⟨updLine (fun l => { l with reply := none }) (unmarkNotices { s with emitted := [] }),
      ⟨⟨_, _, rfl⟩, rfl, rfl, rfl, fun h => unmarkNotices_of_unfetched (s := { s with emitted := [] }) h⟩,
      (live_powered (receive id) s hp).trans ?_⟩
    simp only [receive, withholdReply, hl, hr, restartOf, Receiver.takes, if_true, id]

/-- R19, R48: what a Restart makes of a spindle. -/
theorem makeRestart_spindle {s : State} (hl : s.spindles.length = spindleCount s) {n : Nat} (hn : hasSpindle s n = true) :
    let t := makeRestart s
    (spindle t n).state = restartState s n ∧ (spindle t n).breakRing = [] ∧ (spindle t n).attempts = 0 ∧
      (spindle t n).failures = 0 ∧ (spindle t n).unlisted = false ∧
      (spindle t n).stopEngaged = engagedOnEntry (restartState s n) ∧
      (spindle t n).estimateValid = (spindle s n).estimateValid ∧
      copRead t (spindle t n) = copRead s (spindle s n) ∧ usedRead t (spindle t n) = usedRead s (spindle s n) ∧
      shiftPulsesRead t (spindle t n) = shiftPulsesRead s (spindle s n) ∧
      shiftSecondsRead t (spindle t n) = shiftSecondsRead s (spindle s n) ∧
      (spindle t n).shiftEndBreaks = (spindle s n).shiftEndBreaks := by
  intro t
  obtain ⟨hcop, hused, hpulses, hseconds⟩ := rebuilt_readings s t (spindle s n) n
  rw [spindle_makeRestart hl hn]
  exact ⟨rfl, rfl, rfl, rfl, rfl, rfl, rfl, hcop, hused, hpulses, hseconds, rfl⟩

/-- R30: the rails settle anew, their counters kept. -/
theorem makeRestart_rails (s : State) :
    (∀ x ∈ (makeRestart s).railA.heads ++ (makeRestart s).railB.heads, x = freshHead) ∧
      ∀ side, (railOf (makeRestart s) side).awake = true ∧ (railOf (makeRestart s) side).position = 1 ∧
        (railOf (makeRestart s) side).sleepRound = false ∧
        (railOf (makeRestart s) side).heads.length = (railOf s side).heads.length ∧
        (railOf (makeRestart s) side).discarded = (railOf s side).discarded := by
  refine ⟨fun x hx => ?_, fun side => ?_⟩
  · obtain ⟨-, -, -, -, -, -, -, -, -, -, ha, hb, -⟩ := makeRestart_board s
    rw [ha, hb] at hx
    exact (List.mem_append.1 hx).elim freshHead_of_mem_restarted freshHead_of_mem_restarted
  · rw [railOf_makeRestart]
    exact ⟨rfl, rfl, rfl, List.length_replicate, rfl⟩

/-- Settles O57: the reply's end or withholding makes the Restart of the board as it then stands, and each block of that board is
read from the rules above. -/
theorem restartRebuildsTheBoard : Obligations.RestartRebuildsTheBoard := by
  refine ⟨fun s h => takeRequest_ready 0x1F _ _ s h, ?_⟩
  intro s kind body hp hl hr c hc
  obtain ⟨u, ⟨⟨n, l, hu⟩, hline, hlatches, hlost, hqueue⟩, he⟩ := exec_restart_reply hp hr hc
  have hlu : u.spindles.length = spindleCount u := by rw [hu]; exact hl
  obtain ⟨hpow, hpend, hln, hdel, hla, hlb, hc1, hc2, hdisc, -, -, -, hlamps⟩ := makeRestart_board u
  obtain ⟨hring, hzones, hset, hstore, hfaults, hnotices⟩ := makeRestart_kept u
  obtain ⟨hheads, hrails⟩ := makeRestart_rails u
  obtain ⟨p, P, hpl, hem, hww⟩ := makeRestart_plan u
  have hspindle (m : Nat) (hm : hasSpindle u m = true) := makeRestart_spindle hlu hm
  have hlocks (k : Nat) := (lockOf_makeRestart u k).trans (Lock.restarted_eq _)
  have hshift := makeRestart_shift hlu
  have hcats := categoriesRead_makeRestart hlu
  have hsegs := segmentsRead_makeRestart hlu
  have hdoff := makeRestart_doff u
  have htransport := P.transport
  obtain ⟨hk1, hk2⟩ := refused_kept u.car1
  obtain ⟨hk3, hk4⟩ := refused_kept u.car2
  obtain ⟨-, hrefused, hgranted, hlisted, hkept, hpdisc, hback, hlast, -, -⟩ := P
  generalize makeRestart u = t at *
  subst hu
  refine ⟨t, he, hpow.trans hp, hpend, hln.trans hline, hdel, fun m hm => hspindle m ?_, hla, hlb, hc1 ▸ refused_link _,
    hc2 ▸ refused_link _, hc1 ▸ hk1, hc1 ▸ hk2, hc2 ▸ hk3, hc2 ▸ hk4, hdisc, fun r st h => hem ▸ hrefused r st h, hlocks,
    fun a k h hk hcl => ?_, fun a ha => (hww _).trans (hlisted a (hpl ▸ ha)), fun a ha hw => ?_, (congrArg _ hpl).trans hpdisc,
    (congrArg _ hpl).trans hback, (congrArg _ hpl).trans hlast, ?_, hheads, hrails, fun x hx => ?_,
    fun hb => hcats (categoriesRead_lt hp hb), hsegs, ?_, hring, hzones, hset, hstore, hfaults, (congrArg _ hnotices).trans hlatches,
    (congrArg _ hnotices).trans hlost, fun h => hnotices.trans (hqueue h), ?_⟩
  · rw [isSpindle, ← hl] at hm; exact hm
  · rw [hpl, hem]; exact hgranted a k h hk hcl
  · rw [calledNow, hpl]; exact hkept a ha ((hww _).symm.trans hw)
  · rw [hpl]; exact htransport
  · rw [hlamps] at hx
    obtain ⟨_, -, rfl⟩ := List.mem_map.1 hx
    rfl
  · rw [hshift]
  · exact hdoff

end Sys2Proof.Machine

/-! # The piecing lists hold what they should: the lists and the spindle table (R49, R50, R52 to R55) -/

namespace Sys2Proof.Machine

open Sys2Proof

/-! ## The lists between two operations -/

/-- R49, R50, R52 to R55, R175: the piecing lists between two operations of a command. The spindles of `loose` have no entry and
no unlisted flag whatever their states, and the side `gap`, if any, may have free places that are still to be refilled. -/
structure ListsHold (loose : Set Nat) (gap : Option Side) (s : State) : Prop where
  table : tableOk s
  order : ∀ side, ascending (pieceList s side)
  room : ∀ side, (pieceList s side).length ≤ 96
  entries : ∀ side, ∀ e ∈ pieceList s side, entrySound s side e
  marked : ∀ n, (spindle s n).unlisted = true → (spindle s n).state.isBroken = true
  placed : ∀ n, (spindle s n).state.isBroken = true → (spindle s n).unlisted = false → n ∉ loose → listed s n = true
  apart : ∀ n ∈ loose, Apart (sideOf s n) n s
  full : ∀ side, gap ≠ some side → overflowSound s side
  withheld : s.zones.withheld = withheldSet s.zones.records s.delivery.sides s.delivery.sectors

/-- R49 to R55, R175: the same between two commands. -/
abbrev ListsKept (s : State) : Prop := ListsHold ∅ none s

/-- The lists, and of the spindle table what they depend on, stand. -/
structure ListsStand (s t : State) : Prop where
  sides : t.delivery.sides = s.delivery.sides
  sectors : t.delivery.sectors = s.delivery.sectors
  zones : t.zones = s.zones
  listA : t.listA = s.listA
  listB : t.listB = s.listB
  length : t.spindles.length = s.spindles.length
  unlisted : ∀ n, (spindle t n).unlisted = (spindle s n).unlisted
  broken : ∀ n, (spindle t n).state.isBroken = (spindle s n).state.isBroken

/-- The parts of the state that the piecing lists depend on. -/
def listParts (s : State) : Nat × Nat × Zones × List Entry × List Entry × List Spindle :=
  (s.delivery.sides, s.delivery.sectors, s.zones, s.listA, s.listB, s.spindles)

namespace ListsStand

variable {s t u : State}

theorem pieceList (h : ListsStand s t) (side : Side) : pieceList t side = pieceList s side := by
  cases side
  · exact h.listA
  · exact h.listB

theorem spindleCount (h : ListsStand s t) : spindleCount t = spindleCount s := by
  simp only [Machine.spindleCount, sectorCount, h.sides, h.sectors]

theorem sideOf (h : ListsStand s t) (n : Nat) : sideOf t n = sideOf s n := by
  simp only [Machine.sideOf, sideOfSector, h.sectors]

theorem isSpindle (h : ListsStand s t) (n : Nat) : isSpindle t n = isSpindle s n := by
  simp only [Machine.isSpindle, h.spindleCount]

theorem listed (h : ListsStand s t) (n : Nat) : listed t n = listed s n := by
  simp only [Machine.listed, h.sideOf, h.pieceList]

theorem tableOk (h : ListsStand s t) (k : tableOk s) : tableOk t := by
  obtain ⟨h1, h2, h3, h4⟩ := k
  exact ⟨h.sides ▸ h1, h.sectors ▸ h2, h.sectors ▸ h3, by rw [h.length, h.spindleCount, h4]⟩

theorem unlistedOf (h : ListsStand s t) (side : Side) : unlistedOf t side = unlistedOf s side := by
  simp only [Machine.unlistedOf, spindlesOfSide, firstSpindle, firstSector, h.sectors, h.unlisted]

end ListsStand

theorem Apart.of_stand {side : Side} {n : Nat} {s t : State} (h : Apart side n s) (k : ListsStand s t) : Apart side n t :=
  h.of_same k.listA k.listB (k.unlisted n)

section
variable {loose : Set Nat} {gap : Option Side} {s t : State}

theorem ListsHold.stand (h : ListsHold loose gap s) (k : ListsStand s t) : ListsHold loose gap t where
  table := k.tableOk h.table
  order side := k.pieceList side ▸ h.order side
  room side := k.pieceList side ▸ h.room side
  entries side e he := by
    obtain ⟨h1, h2, h3, h4⟩ := h.entries side e (k.pieceList side ▸ he)
    exact ⟨k.isSpindle _ ▸ h1, k.sideOf _ ▸ h2, k.broken _ ▸ h3, k.unlisted _ ▸ h4⟩
  marked n hn := by rw [k.broken]; exact h.marked n (k.unlisted n ▸ hn)
  placed n hb hu hl := by rw [k.listed]; exact h.placed n (k.broken n ▸ hb) (k.unlisted n ▸ hu) hl
  apart n hn := by rw [k.sideOf]; exact (h.apart n hn).of_stand k
  full side hg := by rw [overflowSound, k.unlistedOf, k.pieceList]; exact h.full side hg
  withheld := by rw [k.zones, k.sides, k.sectors]; exact h.withheld

/-- A change of none of the parts that the lists depend on. -/
theorem ListsStand.of_parts (k : listParts t = listParts s) : ListsStand s t := by
  simp only [listParts, Prod.mk.injEq] at k
  obtain ⟨hs, hk, hz, ha, hb, hp⟩ := k
  exact ⟨hs, hk, hz, ha, hb, by rw [hp], fun n => by rw [spindle, hp]; rfl, fun n => by rw [spindle, hp]; rfl⟩

theorem ListsHold.of_parts (h : ListsHold loose gap s) (k : listParts t = listParts s) : ListsHold loose gap t := h.stand (.of_parts k)

theorem ListsHold.ite {p : Prop} [Decidable p] (ht : ListsHold loose gap s) (hu : ListsHold loose gap t) :
    ListsHold loose gap (if p then s else t) := by split <;> assumption

theorem ListsHold.foldl {α : Type} {f : State → α → State} (hf : ∀ t x, ListsHold loose gap t → ListsHold loose gap (f t x)) :
    ∀ (l : List α) {s : State}, ListsHold loose gap s → ListsHold loose gap (l.foldl f s)
  | [], _, h => h
  | x :: l, _, h => ListsHold.foldl hf l (hf _ x h)

/-- A side without a gap may be treated as one with it. -/
theorem ListsHold.opened (h : ListsHold loose none s) (side : Side) : ListsHold loose (some side) s :=
  { h with full := fun x _ => h.full x fun e => nomatch e }

end

/-! ## What leaves the lists alone -/

section
variable {loose : Set Nat} {gap : Option Side} {s : State}

theorem onlyPlanner.lists {t : State} (k : onlyPlanner s t) (h : ListsHold loose gap s) : ListsHold loose gap t := by
  obtain ⟨_, rfl⟩ := k; exact h.of_parts rfl

theorem updCarriage_lists (r : RecordNo) (f : Carriage → Carriage) (h : ListsHold loose gap s) :
    ListsHold loose gap (updCarriage r f s) := h.of_parts (by cases r <;> rfl)

theorem updRail_lists (side : Side) (f : Rail → Rail) (h : ListsHold loose gap s) : ListsHold loose gap (updRail side f s) :=
  h.of_parts (by cases side <;> rfl)

theorem raiseNotice_lists (k : NoticeKind) (l : NoticeLevel) (x : Subject) (d : Detail) (h : ListsHold loose gap s) :
    ListsHold loose gap (raiseNotice k l x d s) := h.of_parts rfl

theorem raiseFault_lists (c : FaultClass) (x : Subject) (d : Detail) (h : ListsHold loose gap s) :
    ListsHold loose gap (raiseFault c x d s) := by
  rw [raiseFault_eq]; exact h.of_parts rfl

/-- A change of one record that leaves its unlisted flag, and whether it is BROKEN, as they were. -/
theorem updSpindle_stands_at {n : Nat} {f : Spindle → Spindle} (hu : (f (spindle s n)).unlisted = (spindle s n).unlisted)
    (hb : (f (spindle s n)).state.isBroken = (spindle s n).state.isBroken) : ListsStand s (updSpindle n f s) where
  sides := rfl
  sectors := rfl
  zones := rfl
  listA := rfl
  listB := rfl
  length := length_modifyNth _ _ _
  unlisted m := by
    rw [spindle_updSpindle]; split
    · rename_i h; rw [h.1, hu]
    · rfl
  broken m := by
    rw [spindle_updSpindle]; split
    · rename_i h; rw [h.1, hb]
    · rfl

theorem updSpindle_stands (n : Nat) (f : Spindle → Spindle) (s : State)
    (hf : ∀ sp, (f sp).unlisted = sp.unlisted ∧ (f sp).state.isBroken = sp.state.isBroken) : ListsStand s (updSpindle n f s) :=
  updSpindle_stands_at (hf _).1 (hf _).2

theorem updSpindle_lists (n : Nat) (f : Spindle → Spindle)
    (hf : ∀ sp, (f sp).unlisted = sp.unlisted ∧ (f sp).state.isBroken = sp.state.isBroken) (h : ListsHold loose gap s) :
    ListsHold loose gap (updSpindle n f s) := h.stand (updSpindle_stands n f s hf)

theorem settleSpindle_lists (n : Nat) (h : ListsHold loose gap s) : ListsHold loose gap (settleSpindle n s) := by
  unfold settleSpindle; dsimp only; split
  · exact updSpindle_lists n _ (fun _ => ⟨rfl, rfl⟩) (h.of_parts rfl)
  · exact h

theorem settleEach_lists (ns : List Nat) (h : ListsHold loose gap s) : ListsHold loose gap (settleEach ns s) :=
  h.foldl (fun _ n k => settleSpindle_lists n k) ns

theorem settleAll_lists (h : ListsHold loose gap s) : ListsHold loose gap (settleAll s) := settleEach_lists _ h

theorem spindle_mapSpindles (f : Spindle → Spindle) (s : State) (n : Nat) :
    spindle { s with spindles := s.spindles.map f } n = if hasSpindle s n = true then f (spindle s n) else spindle s n := by
  cases n with
  | zero => rfl
  | succ k =>
    simp only [spindle, nth_succ, List.getD_eq_getElem?_getD, List.getElem?_map, hasSpindle_iff]
    by_cases hk : k < s.spindles.length
    · simp [hk, Nat.succ_le_of_lt hk]
    · simp [hk, Nat.not_le.2 (Nat.lt_succ_of_le (Nat.not_lt.1 hk))]

/-- The same of every record at once. -/
theorem mapSpindles_lists (f : Spindle → Spindle)
    (hf : ∀ sp, (f sp).unlisted = sp.unlisted ∧ (f sp).state.isBroken = sp.state.isBroken) (h : ListsHold loose gap s) :
    ListsHold loose gap { s with spindles := s.spindles.map f } := by
  refine h.stand ⟨rfl, rfl, rfl, rfl, rfl, List.length_map f, fun n => ?_, fun n => ?_⟩
  · rw [spindle_mapSpindles]; split <;> simp [hf]
  · rw [spindle_mapSpindles]; split <;> simp [hf]

end

/-! ## A spindle loose, and a change of state -/

section
variable {loose : Set Nat} {gap : Option Side} {s : State} {n : Nat}

/-- R52: a spindle that is not BROKEN stands apart from its list. -/
theorem ListsHold.apart_of_state (h : ListsHold loose gap s) (hn : (spindle s n).state.isBroken = false) :
    Apart (sideOf s n) n s where
  unlisted := Bool.eq_false_iff.2 fun hu => by rw [h.marked n hu] at hn; cases hn
  entries e he hen := by
    obtain ⟨-, -, hb, -⟩ := h.entries _ e he
    rw [hen, hn] at hb; cases hb

/-- A spindle apart from its list may be left loose. -/
theorem ListsHold.loosen (h : ListsHold loose gap s) (ha : Apart (sideOf s n) n s) : ListsHold (insert n loose) gap s :=
  { h with
    placed := fun m hb hu hm => h.placed m hb hu fun k => hm (Set.mem_insert_of_mem n k)
    apart := fun m hm => (Set.mem_insert_iff.1 hm).elim (fun e => e ▸ ha) (h.apart m) }

/-- A loose spindle that is not BROKEN is where it should be. -/
theorem ListsHold.fixed (h : ListsHold (insert n loose) gap s) (hn : (spindle s n).state.isBroken = false) :
    ListsHold loose gap s :=
  { h with
    placed := fun m hb hu hm => h.placed m hb hu fun k =>
      (Set.mem_insert_iff.1 k).elim (fun e => by rw [e, hn] at hb; cases hb) hm
    apart := fun m hm => h.apart m (Set.mem_insert_of_mem n hm) }

theorem changeState_keeps (n : Nat) (st : SpindleState) (s : State) :
    (changeState n st s).delivery = s.delivery ∧ (changeState n st s).zones = s.zones ∧
      ∀ side, pieceList (changeState n st s) side = pieceList s side := by
  obtain ⟨u, hu⟩ := changeState_onlyRecords n st s
  rw [hu]
  exact ⟨rfl, rfl, fun side => by cases side <;> rfl⟩

/-- R36: a loose spindle may change its state. -/
theorem changeState_lists (st : SpindleState) (hn : n ∈ loose) (h : ListsHold loose gap s) :
    ListsHold loose gap (changeState n st s) := by
  have hunl (m : Nat) : (spindle (changeState n st s) m).unlisted = (spindle s m).unlisted := by
    rw [spindle_changeState]; split
    · exact changed_unlisted _ _ _ _ _
    · rfl
  have hoth (m : Nat) (hm : m ≠ n) : spindle (changeState n st s) m = spindle s m := spindle_changeState_other n m st s hm
  have ha := h.apart n hn
  obtain ⟨hd, hz, hl⟩ := changeState_keeps n st s
  have hside (m : Nat) : sideOf (changeState n st s) m = sideOf s m := by rw [sideOf, sideOfSector, hd]; rfl
  have hcount : spindleCount (changeState n st s) = spindleCount s := by rw [spindleCount, sectorCount, hd]; rfl
  have hrange (side : Side) : unlistedOf (changeState n st s) side = unlistedOf s side := by
    simp only [unlistedOf, spindlesOfSide, firstSpindle, firstSector, hd, hunl]
  refine ⟨?_, fun side => hl side ▸ h.order side, fun side => hl side ▸ h.room side, fun side e he => ?_, fun m hm => ?_,
    fun m hb hu hm => ?_, fun m hm => ?_, fun side hg => ?_, ?_⟩
  · obtain ⟨h1, h2, h3, h4⟩ := h.table
    exact ⟨hd ▸ h1, hd ▸ h2, hd ▸ h3, by rw [length_changeState, hcount, h4]⟩
  · rw [hl] at he
    obtain ⟨h1, h2, h3, h4⟩ := h.entries side e he
    have hne : e.spindle ≠ n := by
      rintro rfl
      exact ha.entries e (by rw [h2]; exact he) rfl
    exact ⟨by rw [isSpindle, hcount]; exact h1, (hside _).trans h2, by rw [hoth _ hne]; exact h3, by rw [hoth _ hne]; exact h4⟩
  · have hne : m ≠ n := by
      rintro rfl
      rw [hunl, ha.unlisted] at hm; cases hm
    rw [hoth m hne]; exact h.marked m (hunl m ▸ hm)
  · have hne : m ≠ n := fun e => hm (e ▸ hn)
    rw [listed, hside, hl]
    exact h.placed m (hoth m hne ▸ hb) (hunl m ▸ hu) hm
  · obtain ⟨hu, he⟩ := h.apart m hm
    rw [hside]
    exact ⟨(hunl m).trans hu, fun e k => he e (hl _ ▸ k)⟩
  · rw [overflowSound, hrange, hl]; exact h.full side hg
  · rw [hz, hd]; exact h.withheld

/-- A number with no record reads as a spindle that is WITHHELD. -/
theorem spindle_of_none (hn : hasSpindle s n = false) : spindle s n = default := by
  cases n with
  | zero => rfl
  | succ k => exact nth_of_length_lt _ _ _ (by simpa [hasSpindle] using hn)

theorem tellPlanner_lists (g : Nat) (h : ListsHold loose gap s) : ListsHold loose gap (tellPlanner g s) :=
  (tellPlanner_onlyPlanner g s).lists h

/-- A loose spindle that enters another state than BROKEN is where it should be. -/
theorem changeState_fixes {st : SpindleState} (hst : st.isBroken = false) (h : ListsHold (insert n loose) gap s) :
    ListsHold loose gap (changeState n st s) := by
  refine (changeState_lists st (Set.mem_insert n loose) h).fixed ?_
  rw [spindle_changeState]; split
  · rw [changed_state]; exact hst
  · rename_i hn
    have hr : hasSpindle s n = false := by simpa using hn
    rw [spindle_of_none hr]; rfl

theorem enterState_fixes {st : SpindleState} (hst : st.isBroken = false) (h : ListsHold (insert n loose) gap s) :
    ListsHold loose gap (enterState n st s) := tellPlanner_lists _ (changeState_fixes hst h)

/-- R36: a change of state between two states that are not BROKEN. -/
theorem changeState_unbroken {st : SpindleState} (hn : (spindle s n).state.isBroken = false) (hst : st.isBroken = false)
    (h : ListsHold loose gap s) : ListsHold loose gap (changeState n st s) := changeState_fixes hst (h.loosen (h.apart_of_state hn))

theorem enterState_unbroken {st : SpindleState} (hn : (spindle s n).state.isBroken = false) (hst : st.isBroken = false)
    (h : ListsHold loose gap s) : ListsHold loose gap (enterState n st s) := tellPlanner_lists _ (changeState_unbroken hn hst h)

/-- R36: a spindle that enters BROKEN from another state is left loose. -/
theorem changeState_breaks (st : SpindleState) (hn : (spindle s n).state.isBroken = false) (h : ListsHold loose gap s) :
    ListsHold (insert n loose) gap (changeState n st s) :=
  changeState_lists st (Set.mem_insert n loose) (h.loosen (h.apart_of_state hn))

end

end Sys2Proof.Machine

/-! # The piecing lists under entries, refills and orders (R49, R50, R52 to R55, R83) -/

namespace Sys2Proof.Machine

open Sys2Proof

/-! ## Entries in order (R50) -/

theorem ascending_insertEntry (e : Entry) : ∀ {l : List Entry}, ascending l → (∀ f ∈ l, f.spindle ≠ e.spindle) →
    ascending (insertEntry e l)
  | [], _, _ => List.pairwise_singleton _ _
  | f :: l, h, hne => by
    obtain ⟨hf, hl⟩ := List.pairwise_cons.1 h
    have hfe := hne f List.mem_cons_self
    unfold insertEntry; split
    · rename_i hlt
      refine List.pairwise_cons.2 ⟨fun g hg => ?_, h⟩
      rcases List.mem_cons.1 hg with rfl | hg
      · exact hlt
      · exact hlt.trans (hf g hg)
    · rename_i hge
      refine List.pairwise_cons.2 ⟨fun g hg => ?_, ascending_insertEntry e hl fun g hg => hne g (List.mem_cons_of_mem f hg)⟩
      rcases (mem_insertEntry e g l).1 hg with rfl | hg
      · omega
      · exact hf g hg

/-! ## A list replaced, and a flag set -/

section
variable (side : Side) (l : List Entry) (s : State) (n m : Nat) (b : Bool)

theorem spindle_setPieceList : spindle (setPieceList side l s) m = spindle s m := by cases side <;> rfl

theorem sideOf_setPieceList : sideOf (setPieceList side l s) m = sideOf s m := by cases side <;> rfl

theorem isSpindle_setPieceList : isSpindle (setPieceList side l s) m = isSpindle s m := by cases side <;> rfl

theorem unlistedOf_setPieceList (x : Side) : unlistedOf (setPieceList side l s) x = unlistedOf s x := by cases side <;> rfl

theorem pieceList_updSpindle (f : Spindle → Spindle) : pieceList (updSpindle n f s) side = pieceList s side := by cases side <;> rfl

theorem state_marked : (spindle (updSpindle n (fun x => { x with unlisted := b }) s) m).state = (spindle s m).state :=
  state_updSpindle fun _ => rfl

theorem unlisted_marked :
    (spindle (updSpindle n (fun x => { x with unlisted := b }) s) m).unlisted =
      if m = n ∧ hasSpindle s n = true then b else (spindle s m).unlisted := by
  rw [spindle_updSpindle]; split <;> rfl

end

/-! ## Spindles and sides -/

section
variable {loose : Set Nat} {gap : Option Side} {s : State} {n : Nat}

theorem exists_of_isBroken {st : SpindleState} (h : st.isBroken = true) : ∃ c t, st = .broken c t := by
  cases st with
  | broken c t => exact ⟨c, t, rfl⟩
  | _ => cases h

/-- A BROKEN spindle has a record. -/
theorem hasSpindle_of_broken (hb : (spindle s n).state.isBroken = true) : hasSpindle s n = true := by
  cases hr : hasSpindle s n
  · rw [spindle_of_none hr] at hb; cases hb
  · rfl

/-- R1: with a record for each spindle of the frame. -/
theorem isSpindle_of_hasSpindle (ht : tableOk s) (hn : hasSpindle s n = true) : isSpindle s n = true := by
  obtain ⟨-, -, -, hl⟩ := ht
  have h1 := (hasSpindle_iff s n).1 hn
  rw [hl] at h1
  simpa [isSpindle] using h1

theorem mem_unlistedOf {side : Side} : n ∈ unlistedOf s side ↔ n ∈ spindlesOfSide s side ∧ (spindle s n).unlisted = true :=
  List.mem_filter

theorem listed_iff : listed s n = true ↔ ∃ e ∈ pieceList s (sideOf s n), e.spindle = n := by
  simp [listed]

theorem ListsHold.entry_side (h : ListsHold loose gap s) {side : Side} {e : Entry} (he : e ∈ pieceList s side) :
    sideOf s e.spindle = side := by
  obtain ⟨-, hs, -⟩ := h.entries side e he
  exact hs

/-- R53: an unlisted spindle has no entry. -/
theorem ListsHold.no_entry (h : ListsHold loose gap s) (hu : (spindle s n).unlisted = true) {side : Side} :
    ∀ e ∈ pieceList s side, e.spindle ≠ n := by
  rintro e he rfl
  obtain ⟨-, -, -, hf⟩ := h.entries _ e he
  rw [hu] at hf; cases hf

/-! ## One thing changed -/

/-- R53, R55: an unlisted flag cleared leaves its spindle loose. -/
theorem unmark_lists (h : ListsHold loose gap s) (ha : ∀ e ∈ pieceList s (sideOf s n), e.spindle ≠ n) :
    ListsHold (insert n loose) gap (updSpindle n (fun x => { x with unlisted := false }) s) := by
  have hun (m : Nat) (hm : (spindle (updSpindle n (fun x => { x with unlisted := false }) s) m).unlisted = true) :
      (spindle s m).unlisted = true := by
    rw [unlisted_marked] at hm
    split at hm
    · cases hm
    · exact hm
  have hfalse {m : Nat} (hm : (spindle s m).unlisted = false) :
      (spindle (updSpindle n (fun x => { x with unlisted := false }) s) m).unlisted = false :=
    Bool.eq_false_iff.2 fun k => by rw [hun m k] at hm; cases hm
  have hself : (spindle (updSpindle n (fun x => { x with unlisted := false }) s) n).unlisted = false := by
    cases hn : hasSpindle s n
    · exact hfalse (by rw [spindle_of_none hn]; rfl)
    · rw [unlisted_marked, if_pos ⟨rfl, hn⟩]
  refine ⟨?_, fun x => ?_, fun x => ?_, fun x e he => ?_, fun m hm => ?_, fun m hb hu hm => ?_, fun m hm => ?_, fun x hg => ?_,
    h.withheld⟩
  · obtain ⟨h1, h2, h3, h4⟩ := h.table
    exact ⟨h1, h2, h3, (length_modifyNth _ _ _).trans h4⟩
  · rw [pieceList_updSpindle]; exact h.order x
  · rw [pieceList_updSpindle]; exact h.room x
  · rw [pieceList_updSpindle] at he
    obtain ⟨h1, h2, h3, h4⟩ := h.entries x e he
    exact ⟨h1, h2, by rw [state_marked]; exact h3, hfalse h4⟩
  · rw [state_marked]; exact h.marked m (hun m hm)
  · rw [state_marked] at hb
    obtain ⟨hmn, hml⟩ := not_or.1 (Set.mem_insert_iff.not.1 hm)
    rw [unlisted_marked, if_neg fun k => hmn k.1] at hu
    have hl := h.placed m hb hu hml
    rw [listed_iff] at hl ⊢
    rw [pieceList_updSpindle]; exact hl
  · rcases Set.mem_insert_iff.1 hm with rfl | hm
    · exact ⟨hself, fun e he => ha e (by rwa [pieceList_updSpindle] at he)⟩
    · obtain ⟨hu, he⟩ := h.apart m hm
      exact ⟨hfalse hu, fun e k => he e (by rwa [pieceList_updSpindle] at k)⟩
  · rw [overflowSound, pieceList_updSpindle]
    refine (h.full x hg).imp (fun hnil => List.eq_nil_iff_forall_not_mem.2 fun m hm => ?_) id
    obtain ⟨hm, hu⟩ := mem_unlistedOf.1 hm
    have k : m ∈ unlistedOf s x := mem_unlistedOf.2 ⟨hm, hun m hu⟩
    rw [hnil] at k; exact List.not_mem_nil k

/-- R52, R53: a loose BROKEN spindle left unlisted while its list is full, or is still to be refilled. -/
theorem mark_lists (h : ListsHold (insert n loose) gap s) (hl : n ∉ loose) (hb : (spindle s n).state.isBroken = true)
    (hfull : gap ≠ some (sideOf s n) → (pieceList s (sideOf s n)).length = 96) :
    ListsHold loose gap (updSpindle n (fun x => { x with unlisted := true }) s) := by
  have hn := hasSpindle_of_broken hb
  have ha := h.apart n (Set.mem_insert n loose)
  have hun (m : Nat) : (spindle (updSpindle n (fun x => { x with unlisted := true }) s) m).unlisted =
      if m = n then true else (spindle s m).unlisted := by simp [unlisted_marked, hn]
  refine ⟨?_, fun x => ?_, fun x => ?_, fun x e he => ?_, fun m hm => ?_, fun m hbm hu hm => ?_, fun m hm => ?_, fun x hg => ?_,
    h.withheld⟩
  · obtain ⟨h1, h2, h3, h4⟩ := h.table
    exact ⟨h1, h2, h3, (length_modifyNth _ _ _).trans h4⟩
  · rw [pieceList_updSpindle]; exact h.order x
  · rw [pieceList_updSpindle]; exact h.room x
  · rw [pieceList_updSpindle] at he
    obtain ⟨h1, h2, h3, h4⟩ := h.entries x e he
    have hne : e.spindle ≠ n := by
      rintro rfl
      exact ha.entries e (h2 ▸ he) rfl
    exact ⟨h1, h2, by rw [state_marked]; exact h3, by rw [hun, if_neg hne]; exact h4⟩
  · rw [state_marked]
    rw [hun] at hm
    split at hm
    · rename_i hmn; rw [hmn]; exact hb
    · exact h.marked m hm
  · rw [state_marked] at hbm
    rw [hun] at hu
    split at hu
    · cases hu
    · rename_i hmn
      have hl := h.placed m hbm hu fun k => (Set.mem_insert_iff.1 k).elim hmn hm
      rw [listed_iff] at hl ⊢
      rw [pieceList_updSpindle]; exact hl
  · obtain ⟨hu, he⟩ := h.apart m (Set.mem_insert_of_mem n hm)
    refine ⟨?_, fun e k => he e (by rwa [pieceList_updSpindle] at k)⟩
    rw [hun, if_neg (by rintro rfl; exact hl hm)]; exact hu
  · rw [overflowSound, pieceList_updSpindle]
    by_cases hx : x = sideOf s n
    · subst hx; exact .inr (hfull hg)
    · refine (h.full x hg).imp (fun hnil => List.eq_nil_iff_forall_not_mem.2 fun m hm => ?_) id
      obtain ⟨hm, hu⟩ := mem_unlistedOf.1 hm
      have hmx : Machine.sideOf s m = x := sideOf_of_mem_spindlesOfSide hm
      rw [hun, if_neg (by rintro rfl; exact hx hmx.symm)] at hu
      have k : m ∈ unlistedOf s x := mem_unlistedOf.2 ⟨hm, hu⟩
      rw [hnil] at k; exact List.not_mem_nil k

/-- R50, R52: the entry of a loose BROKEN spindle put in its place, where there is room. -/
theorem insert_lists {e : Entry} (h : ListsHold (insert e.spindle loose) gap s) (hl : e.spindle ∉ loose)
    (hb : (spindle s e.spindle).state.isBroken = true) (hroom : (pieceList s (sideOf s e.spindle)).length < 96) :
    ListsHold loose gap
      (setPieceList (sideOf s e.spindle) (insertEntry e (pieceList s (sideOf s e.spindle))) s) := by
  have ha := h.apart e.spindle (Set.mem_insert _ loose)
  refine ⟨?_, fun x => ?_, fun x => ?_, fun x f hf => ?_, fun m hm => ?_, fun m hbm hu hm => ?_, fun m hm => ?_, fun x hg => ?_, ?_⟩
  · obtain ⟨h1, h2, h3, h4⟩ := h.table
    simpa only [tableOk, spindleCount, sectorCount, setPieceList_delivery, setPieceList_spindles] using ⟨h1, h2, h3, h4⟩
  · rw [pieceList_setPieceList]; split
    · exact ascending_insertEntry e (h.order _) ha.entries
    · exact h.order x
  · rw [pieceList_setPieceList]; split
    · rw [length_insertEntry]; exact hroom
    · exact h.room x
  · rw [entrySound, isSpindle_setPieceList, sideOf_setPieceList, spindle_setPieceList]
    rw [pieceList_setPieceList] at hf
    split at hf
    · rename_i hx; subst hx
      rcases (mem_insertEntry _ _ _).1 hf with rfl | hf
      · exact ⟨isSpindle_of_hasSpindle h.table (hasSpindle_of_broken hb), rfl, hb, ha.unlisted⟩
      · exact h.entries _ f hf
    · exact h.entries x f hf
  · rw [spindle_setPieceList] at hm ⊢; exact h.marked m hm
  · rw [spindle_setPieceList] at hbm hu
    rw [listed_iff, sideOf_setPieceList, pieceList_setPieceList]
    by_cases hme : m = e.spindle
    · rw [hme, if_pos rfl]
      exact ⟨e, (mem_insertEntry _ _ _).2 (.inl rfl), rfl⟩
    · obtain ⟨f, hf, hfm⟩ := listed_iff.1 (h.placed m hbm hu fun k => (Set.mem_insert_iff.1 k).elim hme hm)
      split
      · rename_i hx; exact ⟨f, (mem_insertEntry _ _ _).2 (.inr (hx ▸ hf)), hfm⟩
      · exact ⟨f, hf, hfm⟩
  · obtain ⟨hu, hf⟩ := h.apart m (Set.mem_insert_of_mem _ hm)
    rw [sideOf_setPieceList]
    refine ⟨by rw [spindle_setPieceList]; exact hu, fun f k => ?_⟩
    rw [pieceList_setPieceList] at k
    split at k
    · rename_i hx
      rcases (mem_insertEntry _ _ _).1 k with rfl | k
      · rintro rfl; exact hl hm
      · exact hf f (hx ▸ k)
    · exact hf f k
  · rw [overflowSound, unlistedOf_setPieceList, pieceList_setPieceList]
    split
    · rename_i hx; subst hx
      exact .inl ((h.full _ hg).resolve_right (Nat.ne_of_lt hroom))
    · exact h.full x hg
  · rw [setPieceList_zones, setPieceList_delivery]; exact h.withheld

/-- R54: a spindle's entry removed leaves the spindle loose and a gap in its list. -/
theorem remove_lists (h : ListsHold loose gap s) (hgap : ∀ x, gap = some x → x = sideOf s n) (hu : (spindle s n).unlisted = false) :
    ListsHold (insert n loose) (some (sideOf s n))
      (setPieceList (sideOf s n) ((pieceList s (sideOf s n)).filter fun e => e.spindle != n) s) := by
  have hsub {x : Side} {e : Entry}
      (he : e ∈ pieceList (setPieceList (sideOf s n) ((pieceList s (sideOf s n)).filter fun e => e.spindle != n) s) x) :
      e ∈ pieceList s x := by
    rw [pieceList_setPieceList] at he
    split at he
    · rename_i hx; exact hx ▸ List.mem_of_mem_filter he
    · exact he
  refine ⟨?_, fun x => ?_, fun x => ?_, fun x f hf => ?_, fun m hm => ?_, fun m hbm hum hm => ?_, fun m hm => ?_, fun x hg => ?_, ?_⟩
  · obtain ⟨h1, h2, h3, h4⟩ := h.table
    simpa only [tableOk, spindleCount, sectorCount, setPieceList_delivery, setPieceList_spindles] using ⟨h1, h2, h3, h4⟩
  · rw [pieceList_setPieceList]; split
    · exact (h.order _).filter _
    · exact h.order x
  · rw [pieceList_setPieceList]; split
    · exact (List.length_filter_le _ _).trans (h.room _)
    · exact h.room x
  · rw [entrySound, isSpindle_setPieceList, sideOf_setPieceList, spindle_setPieceList]
    exact h.entries x f (hsub hf)
  · rw [spindle_setPieceList] at hm ⊢; exact h.marked m hm
  · rw [spindle_setPieceList] at hbm hum
    obtain ⟨hmn, hml⟩ := not_or.1 (Set.mem_insert_iff.not.1 hm)
    obtain ⟨f, hf, hfm⟩ := listed_iff.1 (h.placed m hbm hum hml)
    rw [listed_iff, sideOf_setPieceList, pieceList_setPieceList]
    split
    · rename_i hx
      exact ⟨f, List.mem_filter.2 ⟨hx ▸ hf, by simpa [hfm] using hmn⟩, hfm⟩
    · exact ⟨f, hf, hfm⟩
  · rw [sideOf_setPieceList]
    rcases Set.mem_insert_iff.1 hm with rfl | hm
    · refine ⟨by rw [spindle_setPieceList]; exact hu, fun f hf => ?_⟩
      rw [setPieceList_same] at hf
      simpa using (List.mem_filter.1 hf).2
    · obtain ⟨hum, hf⟩ := h.apart m hm
      exact ⟨by rw [spindle_setPieceList]; exact hum, fun f k => hf f (hsub k)⟩
  · rw [overflowSound, unlistedOf_setPieceList, pieceList_setPieceList, if_neg fun e => hg (by rw [e])]
    exact h.full x fun e => hg (by rw [hgap x e])
  · rw [setPieceList_zones, setPieceList_delivery]; exact h.withheld

end

end Sys2Proof.Machine

/-! # The piecing lists under entries, refills and orders: the operations (R50, R52 to R55, R83, R102, R106) -/

namespace Sys2Proof.Machine

open Sys2Proof

/-! ## Entries made and dropped -/

section
variable {loose : Set Nat} {gap : Option Side} {s : State} {n : Nat}

theorem makeEntry_eq {c : BreakCause} {t : Nat} (urgent : Bool) (hst : (spindle s n).state = .broken c t) :
    makeEntry n urgent s =
      setPieceList (sideOf s n)
        (insertEntry { spindle := n, cause := c, time := t, urgent := urgent } (pieceList s (sideOf s n)))
        (updSpindle n (fun x => { x with unlisted := false }) s) := by
  simp only [makeEntry, hst]

/-- R50: an entry made for a BROKEN spindle that has none, where its list has room. -/
theorem makeEntry_lists (urgent : Bool)
    (h : ListsHold (insert n loose) gap (updSpindle n (fun x => { x with unlisted := false }) s)) (hl : n ∉ loose)
    (hb : (spindle s n).state.isBroken = true) (hroom : (pieceList s (sideOf s n)).length < 96) :
    ListsHold loose gap (makeEntry n urgent s) := by
  obtain ⟨c, t, hst⟩ := exists_of_isBroken hb
  have k := insert_lists (e := { spindle := n, cause := c, time := t, urgent := urgent }) h hl
    (by rw [state_marked]; exact hb) (by rw [pieceList_updSpindle]; exact hroom)
  rw [makeEntry_eq urgent hst]
  rwa [pieceList_updSpindle] at k

theorem ListsHold.not_loose (h : ListsHold loose gap s) (hu : (spindle s n).unlisted = true) : n ∉ loose := fun k => by
  have := (h.apart n k).unlisted
  rw [hu] at this; cases this

theorem pieceList_makeEntry (urgent : Bool) (hb : (spindle s n).state.isBroken = true) :
    (pieceList (makeEntry n urgent s) (sideOf s n)).length = (pieceList s (sideOf s n)).length + 1 := by
  obtain ⟨c, t, hst⟩ := exists_of_isBroken hb
  rw [makeEntry_eq urgent hst, setPieceList_same, length_insertEntry]

/-- R54: a spindle dropped from its list stands loose, and its list has a gap. -/
theorem dropFromList_lists (n : Nat) (h : ListsHold loose gap s) (hgap : ∀ x, gap = some x → x = sideOf s n) :
    ListsHold (insert n loose) (some (sideOf s n)) (dropFromList n s) := by
  have h1 : ListsHold (insert n loose) (some (sideOf s n)) (dropFromList n s) ∨
      ListsHold (insert n (insert n loose)) (some (sideOf s n)) (dropFromList n s) := by
    unfold dropFromList; dsimp only
    cases hu : (spindle s n).unlisted
    · refine .inl ?_
      have hun (m : Nat) : (spindle (updSpindle n (fun x => { x with unlisted := false }) s) m).unlisted = (spindle s m).unlisted := by
        rw [unlisted_marked]; split
        · rename_i k; rw [k.1, hu]
        · rfl
      have k : ListsStand s (updSpindle n (fun x => { x with unlisted := false }) s) :=
        ⟨rfl, rfl, rfl, rfl, rfl, length_modifyNth _ _ _, hun, fun m => by rw [state_marked]⟩
      have r := remove_lists (n := n) (h.stand k) hgap ((hun n).trans hu)
      rwa [pieceList_updSpindle] at r
    · refine .inr ?_
      have k := unmark_lists (n := n) h (h.no_entry hu)
      have hf := (k.apart n (Set.mem_insert n loose)).unlisted
      have r := remove_lists (n := n) k hgap hf
      rwa [pieceList_updSpindle] at r
  rwa [Set.insert_idem, or_self] at h1

/-! ## The refill (R55) -/

theorem unlistedOf_eq_nil_of_none {side : Side} (h : oldestUnlisted s side = none) : unlistedOf s side = [] := by
  cases hl : unlistedOf s side with
  | nil => rfl
  | cons n ns =>
    rw [oldestUnlisted, hl, pick] at h
    split at h
    · cases h
    · split at h <;> cases h

/-- R55: one free place filled, or the list is full or nothing is left unlisted. -/
theorem refillOne_lists {side : Side} (h : ListsHold loose (some side) s) (hn : oldestUnlisted s side = some n)
    (hlt : (pieceList s side).length < 96) :
    ListsHold loose (some side) (makeEntry n false s) ∧ (pieceList (makeEntry n false s) side).length = (pieceList s side).length + 1 := by
  have hu := oldestUnlisted_unlisted hn
  have hb := h.marked n hu
  have hs := oldestUnlisted_side hn
  refine ⟨makeEntry_lists false (unmark_lists h (h.no_entry hu)) (h.not_loose hu) hb (hs ▸ hlt), ?_⟩
  have := pieceList_makeEntry false hb
  rwa [hs] at this

theorem refillUpTo_lists {side : Side} : ∀ (fuel : Nat) {s : State}, ListsHold loose (some side) s →
    ListsHold loose (some side) (refillUpTo fuel side s) ∧
      (overflowSound (refillUpTo fuel side s) side ∨
        (pieceList s side).length + fuel ≤ (pieceList (refillUpTo fuel side s) side).length)
  | 0, _, h => ⟨h, .inr le_rfl⟩
  | fuel + 1, s, h => by
    unfold refillUpTo; split
    · rename_i hn
      exact ⟨h, .inl (.inl (unlistedOf_eq_nil_of_none hn))⟩
    · rename_i n hn
      split
      · rename_i hlt
        obtain ⟨h1, hl1⟩ := refillOne_lists h hn hlt
        obtain ⟨h2, hl2⟩ := refillUpTo_lists fuel h1
        exact ⟨h2, hl2.imp_right (by omega)⟩
      · rename_i hge
        exact ⟨h, .inl (.inr (le_antisymm (h.room side) (Nat.not_lt.1 hge)))⟩

/-- R53: a side with nothing left unlisted, or with a full list, has no gap. -/
theorem ListsHold.closed {side : Side} (h : ListsHold loose (some side) s) (hf : overflowSound s side) : ListsHold loose none s :=
  { h with
    full := fun x _ => by
      by_cases hx : x = side
      · rw [hx]; exact hf
      · exact h.full x fun e => hx (Option.some.inj e).symm }

/-- R55: a refill closes the gap of its side. -/
theorem refill_lists {side : Side} (h : ListsHold loose (some side) s) : ListsHold loose none (refill side s) := by
  obtain ⟨h1, hfull⟩ := refillUpTo_lists Config.listCapacity h
  exact h1.closed (hfull.elim id fun hl => .inr (le_antisymm (h1.room side) ((Nat.le_add_left _ _).trans hl)))

/-! ## A spindle taken in (R52, R53) -/

theorem ListsHold.unmarked (h : ListsHold (insert n loose) gap s) :
    ListsHold (insert n loose) gap (updSpindle n (fun x => { x with unlisted := false }) s) := by
  have k := unmark_lists h (h.apart n (Set.mem_insert n loose)).entries
  rwa [Set.insert_idem] at k

theorem listSpindle_lists (h : ListsHold (insert n loose) gap s) (hl : n ∉ loose) (hb : (spindle s n).state.isBroken = true) :
    ListsHold loose gap (listSpindle n s) := by
  unfold listSpindle; dsimp only; split
  · rename_i hlt
    exact makeEntry_lists false h.unmarked hl hb hlt
  · rename_i hge
    have k := mark_lists h hl hb fun _ => le_antisymm (h.room _) (Nat.not_lt.1 hge)
    exact (raiseFault_lists _ _ _ k).ite k

theorem enlist_lists (check : LockCheck) (h : ListsHold (insert n loose) gap s) (hl : n ∉ loose)
    (hb : (spindle s n).state.isBroken = true) : ListsHold loose gap (enlist n check s) := by
  unfold enlist; split
  · exact tellPlanner_lists _ (raiseNotice_lists _ _ _ _ (changeState_fixes rfl h))
  · exact tellPlanner_lists _ (listSpindle_lists h hl hb)

theorem leaveBroken_lists {st : SpindleState} (n : Nat) (hst : st.isBroken = false) (h : ListsHold loose gap s)
    (hgap : ∀ x, gap = some x → x = sideOf s n) : ListsHold loose (some (sideOf s n)) (leaveBroken n st s) :=
  enterState_fixes hst (dropFromList_lists n h hgap)

end

/-! ## Orders and locks (chapters 4 and 5) -/

section
variable {s : State}

theorem emit_lists {loose : Set Nat} {gap : Option Side} (o : Output) (h : ListsHold loose gap s) : ListsHold loose gap (emit o s) :=
  h.of_parts rfl

theorem toPiecing_unbroken (st : SpindleState) : st.toPiecing.isBroken = false := by cases st <;> rfl

/-- R83: an order issued for an entry takes it from its list and refills the list. -/
theorem issueOrder_lists (r : RecordNo) (e : Entry) (carried : Bool) (h : ListsKept s) : ListsKept (issueOrder r e carried s) := by
  unfold issueOrder; dsimp only
  refine ListsHold.of_parts (updCarriage_lists r _ (enterState_fixes (toPiecing_unbroken _) (refill_lists ?_))) rfl
  exact dropFromList_lists _ (h.of_parts rfl) fun _ e => nomatch e

theorem dispatchAmong_lists (allowed : Entry → Bool) (carried : Bool) (r : RecordNo) (h : ListsKept s) :
    ListsKept (dispatchAmong allowed carried r s) := by
  unfold dispatchAmong; split
  · split
    · split
      · exact issueOrder_lists _ _ _ h
      · exact h
    · exact h
  · exact h

theorem dispatch_lists (r : RecordNo) (h : ListsKept s) : ListsKept (dispatch r s) := dispatchAmong_lists _ _ _ h

theorem attemptSide_lists (side : Side) (h : ListsKept s) : ListsKept (attemptSide side s) := by
  unfold attemptSide; split
  · exact h
  · exact dispatch_lists _ h

theorem attemptBoth_lists (h : ListsKept s) : ListsKept (attemptBoth s) := attemptSide_lists _ (attemptSide_lists _ h)

theorem refillAndAttempt_lists {side : Side} (h : ListsHold ∅ (some side) s) : ListsKept (refillAndAttempt side s) :=
  (attemptSide_lists side (refill_lists h)).ite (refill_lists h)

theorem attemptIfListed_lists (n : Nat) (h : ListsKept s) : ListsKept (attemptIfListed n s) := (attemptSide_lists _ h).ite h

theorem releaseLock_lists (k : Nat) (h : ListsKept s) : ListsKept (releaseLock k s) := by
  unfold releaseLock; split
  · exact (plannerGranted_onlyPlanner _).lists (h.of_parts rfl)
  · exact attemptSide_lists _ (h.of_parts rfl)
  · exact h

theorem endClaim_lists (k : Nat) (h : ListsKept s) : ListsKept (endClaim k s) := by
  unfold endClaim; split
  · exact attemptSide_lists _ (h.of_parts rfl)
  · exact h.of_parts rfl
  · exact h

theorem endClaimOfChange_lists (h : ListsKept s) : ListsKept (endClaimOfChange s) := by
  unfold endClaimOfChange; split
  · exact endClaim_lists _ h
  · exact endClaim_lists _ h
  · exact h

theorem claimSector_lists (c : ActiveChange) (h : ListsKept s) : ListsKept (claimSector c s) := by
  unfold claimSector; dsimp only; split
  · exact (plannerGranted_onlyPlanner _).lists (h.of_parts rfl)
  · exact (plannerGranted_onlyPlanner _).lists (h.of_parts rfl)
  · exact h.of_parts rfl
  · exact (updPlanner_onlyPlanner _ _).lists h

theorem leaveList_lists (n : Nat) {st : SpindleState} (hst : st.isBroken = false) (h : ListsKept s) : ListsKept (leaveList n st s) :=
  refillAndAttempt_lists (leaveBroken_lists n hst h fun _ e => nomatch e)

end

/-! ## Breaks (chapter 3) -/

section
variable {gap : Option Side} {s : State} {n : Nat}

theorem hasSpindle_of_state (h : (spindle s n).state ≠ .withheld) : hasSpindle s n = true := by
  cases hr : hasSpindle s n
  · exact absurd (by rw [spindle_of_none hr]; rfl) h
  · rfl

theorem state_changeState_same (st : SpindleState) (hn : hasSpindle s n = true) : (spindle (changeState n st s) n).state = st := by
  rw [spindle_changeState_same n st s hn, changed_state]

theorem countBreak_stands (n : Nat) (c : BreakCause) (s : State) : ListsStand s (countBreak n c s) := by
  unfold countBreak; dsimp only; split
  · have k := updSpindle_stands n (fun x => { x with
      shiftEndBreaks := satAdd Config.top32 x.shiftEndBreaks 1, breakRing := stampRing x.breakRing s.delivery.now })
      { s with shift := { s.shift with breaks := s.shift.breaks.bump c } } fun _ => ⟨rfl, rfl⟩
    exact ⟨k.sides, k.sectors, k.zones, k.listA, k.listB, k.length, k.unlisted, k.broken⟩
  · exact .of_parts rfl

/-- R40 to R42: a break confirmed of a spindle that is not BROKEN. -/
theorem breakSpindle_lists (c : BreakCause) (hn : hasSpindle s n = true) (hst : (spindle s n).state.isBroken = false)
    (h : ListsHold ∅ gap s) : ListsHold ∅ gap (breakSpindle n c s) := by
  unfold breakSpindle; split
  · exact (expedite_onlyPlanner _ _).lists ((enterState_unbroken hst rfl h).stand (countBreak_stands _ _ _))
  · have k := countBreak_stands n c (changeState n (.broken c s.delivery.now) s)
    refine enlist_lists _ ((changeState_breaks _ hst h).stand k) (Set.notMem_empty n) ?_
    rw [k.broken, state_changeState_same _ hn]; rfl

/-- R52: a spindle that enters BROKEN from another state taken in. -/
theorem takeIn_lists (c : BreakCause) (x : Nat) (check : LockCheck) (hn : hasSpindle s n = true)
    (hst : (spindle s n).state.isBroken = false) (h : ListsKept s) : ListsKept (takeIn n check (changeState n (.broken c x) s)) :=
  attemptIfListed_lists n <| enlist_lists check (changeState_breaks _ hst h) (Set.notMem_empty n) <| by
    rw [state_changeState_same _ hn]; rfl

theorem returnToBroken_lists (n : Nat) (check : LockCheck) (h : ListsKept s) : ListsKept (returnToBroken n check s) := by
  unfold returnToBroken; split
  · rename_i c t hst
    have hb : (spindle s n).state.isBroken = false := by rw [hst]; rfl
    exact (enterState_unbroken hb rfl h).ite (takeIn_lists c t check (hasSpindle_of_state (by rw [hst]; exact nofun)) hb h)
  · exact h

theorem settlingOrIdle_unbroken (s : State) (o : SettleOrigin) : (settlingOrIdle s o).isBroken = false := by
  unfold settlingOrIdle; split <;> rfl

theorem pieceDone_lists (n : Nat) (h : ListsKept s) : ListsKept (pieceDone n s) := by
  unfold pieceDone; split
  · rename_i hst
    have hb : (spindle s n).state.isBroken = false := by rw [hst]; rfl
    exact (enterState_unbroken hb rfl h).ite (enterState_unbroken hb (settlingOrIdle_unbroken s _) h)
  · exact h

end

/-! ## Work on the spindles of one side, its list still to be refilled -/

section
variable {loose : Set Nat} {side : Side} {s : State}

theorem sideOf_of_delivery {t : State} (hd : t.delivery = s.delivery) (n : Nat) : sideOf t n = sideOf s n := by
  simp only [sideOf, sideOfSector, hd]

theorem ListsHold.foldl_side {f : State → Nat → State} (hd : ∀ t n, (f t n).delivery = t.delivery)
    (hf : ∀ t n, sideOf t n = side → ListsHold loose (some side) t → ListsHold loose (some side) (f t n)) :
    ∀ (l : List Nat) {s : State}, (∀ n ∈ l, sideOf s n = side) → ListsHold loose (some side) s →
      ListsHold loose (some side) (l.foldl f s)
  | [], _, _, h => h
  | n :: l, s, hl, h =>
    ListsHold.foldl_side hd hf l
      (fun m hm => (sideOf_of_delivery (hd s n) m).trans (hl m (List.mem_cons_of_mem n hm)))
      (hf s n (hl n List.mem_cons_self) h)

/-- R1: a spindle of a sector is of the sector's side. -/
theorem sideOf_of_mem_spindlesOfSector {n k : Nat} (ht : tableOk s) (hn : n ∈ spindlesOfSector k) : sideOf s n = sideOfSector s k := by
  cases k with
  | succ k => rw [sideOf, sectorOf_of_mem (Nat.succ_pos k) hn]
  | zero =>
    have h1 : n ∈ spindlesOfSector 1 := hn
    obtain ⟨-, hs, -⟩ := ht
    rw [sideOf, sectorOf_of_mem le_rfl h1, sideOfSector, sideOfSector, if_pos hs, if_pos (Nat.zero_le _)]

end

/-! ## Reports and heads (chapter 2) -/

section
variable {side : Side} {s : State} {n : Nat}

theorem actOnStreak_lists (hs : sideOf s n = side) (h : ListsHold ∅ (some side) s) : ListsHold ∅ (some side) (actOnStreak n s) := by
  have hc : ListsHold ∅ (some side) (countHandPieced s) := h.of_parts rfl
  unfold actOnStreak; dsimp only; split
  · rename_i hst
    exact (enterState_unbroken (by rw [hst]; rfl) rfl h).ite h
  · rename_i hst
    exact (breakSpindle_lists _ (hasSpindle_of_state (by rw [hst]; exact nofun)) (by rw [hst]; rfl) h).ite h
  · refine ListsHold.ite ?_ h
    have k := leaveBroken_lists n (settlingOrIdle_unbroken s .hand) hc fun _ e => (Option.some.inj e).symm.trans hs.symm
    rwa [show sideOf (countHandPieced s) n = side from hs] at k
  · rename_i hst
    exact (enterState_unbroken (s := countHandPieced s) (by rw [show (spindle (countHandPieced s) n).state = _ from hst]; rfl)
      (settlingOrIdle_unbroken s _) hc).ite h
  · exact h

theorem reportSpindle_lists (present : Bool) (hs : sideOf s n = side) (h : ListsHold ∅ (some side) s) :
    ListsHold ∅ (some side) (reportSpindle n present s) := by
  unfold reportSpindle; split
  · exact h
  · split
    · exact actOnStreak_lists hs (updSpindle_lists n _ (fun _ => ⟨rfl, rfl⟩) h)
    · exact updSpindle_lists n _ (fun _ => ⟨rfl, rfl⟩) h

theorem acceptReport_lists (k : Nat) (present : PresenceFlags) (h : ListsKept s) : ListsKept (acceptReport k present s) := by
  have h1 : ListsHold ∅ (some (sideOfSector s k)) (reportEach k present s) :=
    ListsHold.foldl_side (fun t n => (reportSpindle_turn n _ t).delivery) (fun _ _ => reportSpindle_lists _) _
      (fun _ => sideOf_of_mem_spindlesOfSector h.table) (h.opened _)
  exact (attemptSide_lists _ (refill_lists h1)).ite (refill_lists h1)

theorem settleLimit_lists (n : Nat) (h : ListsKept s) : ListsKept (settleLimit n s) := by
  unfold settleLimit; split
  · rename_i hst
    exact (attemptIfListed_lists n (breakSpindle_lists _ (hasSpindle_of_state (by rw [hst]; exact nofun)) (by rw [hst]; rfl) h)).ite h
  · exact h

theorem updHead_lists (x : Side) (k : Nat) (f : Head → Head) (h : ListsKept s) : ListsKept (updHead x k f s) := updRail_lists x _ h

theorem missPoll_lists (x : Side) (k : Nat) (h : ListsKept s) : ListsKept (missPoll x k s) := by
  have h1 := updHead_lists x k Head.missed (updRail_lists x (fun r => { r with discarded := satAdd Config.top16 r.discarded 1 }) h)
  exact (raiseFault_lists _ _ _ (updHead_lists x k Head.silenced h1)).ite h1

theorem sensed_stands (now : Nat) (sp : Spindle) :
    (sp.sensed now).unlisted = sp.unlisted ∧ (sp.sensed now).state.isBroken = sp.state.isBroken := by
  refine ⟨rfl, ?_⟩
  cases hst : sp.state <;> simp [Spindle.sensed, hst, SpindleState.isBroken]

theorem activateHead_lists (x : Side) (k : Nat) (h : ListsKept s) : ListsKept (activateHead x k s) := by
  have h1 := (updHead_lists x k (fun x => { x with state := .active, returnMark := false }) h).foldl
    (f := fun acc n => updSpindle n (fun sp => sp.sensed s.delivery.now) acc)
    (fun _ n k => updSpindle_lists n _ (sensed_stands _) k) (spindlesOfSector (sectorOfHead s x k))
  exact (raiseNotice_lists _ _ _ _ h1).ite h1

theorem validAnswer_lists (x : Side) (k : Nat) (present : PresenceFlags) (h : ListsKept s) :
    ListsKept (validAnswer x k present s) := by
  have h1 := updHead_lists x k (fun x => { x with misses := 0 }) h
  unfold validAnswer; dsimp only; split
  · exact acceptReport_lists _ _ h1
  · exact (activateHead_lists x k h1).ite (updHead_lists x k _ h1)
  · exact updHead_lists x k _ h1
  · exact h

theorem finishPoll_lists (x : Side) {act : Nat → State → State} (hact : ∀ k t, ListsKept t → ListsKept (act k t)) (h : ListsKept s) :
    ListsKept (finishPoll x act s) := by
  unfold finishPoll; split
  · exact h
  · exact hact _ _ (updRail_lists x _ h)

theorem pollHead_lists (x : Side) (h : ListsKept s) : ListsKept (pollHead x s) :=
  (updRail_lists x _ (emit_lists _ h)).ite h

theorem sleepPoll_lists (x : Side) (h : ListsKept s) : ListsKept (sleepPoll x s) :=
  (updRail_lists x _ (emit_lists _ h)).ite h

theorem takeDrowse_lists (h : ListsKept s) : ListsKept (takeDrowse s) := h.of_parts rfl

theorem drowseExpiry_lists (h : ListsKept s) : ListsKept (drowseExpiry s) := by
  unfold drowseExpiry; split
  · split
    · exact h.of_parts rfl
    · exact takeDrowse_lists h
  · exact h

theorem lampExpiry_lists (k : Nat) (h : ListsKept s) : ListsKept (lampExpiry k s) :=
  (show ListsKept (updLamp _ _ s) from h.of_parts rfl).ite h

end

end Sys2Proof.Machine

/-! # The piecing lists through the events of the links, the doff, the shift and the store -/

namespace Sys2Proof.Machine

open Sys2Proof

section
variable {s : State}

/-! ## Roving changes (chapters 5 and 6) -/

theorem releaseFromRoving_lists (n : Nat) (h : ListsKept s) : ListsKept (releaseFromRoving n s) := by
  unfold releaseFromRoving; split
  · rename_i t hst
    exact takeIn_lists _ t _ (hasSpindle_of_state (by rw [hst]; exact nofun)) (by rw [hst]; rfl) h
  · rename_i hst
    exact enterState_unbroken (by rw [hst]; rfl) rfl h
  · exact h

theorem countChange_lists (k : Nat) (h : ListsKept s) : ListsKept (countChange k s) := h.of_parts rfl

theorem renewGroup_lists (g : Nat) (h : ListsKept s) : ListsKept (renewGroup g s) := by
  unfold renewGroup; dsimp only
  refine countChange_lists _ <| ListsHold.foldl (fun _ n => releaseFromRoving_lists n) _ ?_
  exact ListsHold.foldl (f := fun acc n => updSpindle n Spindle.renewed acc)
    (fun _ n k => updSpindle_lists n _ (fun _ => ⟨rfl, rfl⟩) k) _ (settleEach_lists _ h)

theorem completeChange_lists (c : ActiveChange) (h : ListsKept s) : ListsKept (completeChange c s) := by
  unfold completeChange; dsimp only
  exact (callTest_onlyPlanner _).lists <| raiseNotice_lists _ _ _ _ <| (evaluateGroup_onlyPlanner _ _).lists <|
    (updPlanner_onlyPlanner _ _).lists <| endClaimOfChange_lists <| renewGroup_lists _ h

theorem honourLate_lists (g : Nat) (h : ListsKept s) : ListsKept (honourLate g s) := by
  unfold honourLate; dsimp only
  exact (updPlanner_onlyPlanner _ _).lists <| raiseNotice_lists _ _ _ _ <| (evaluateGroup_onlyPlanner _ _).lists <|
    renewGroup_lists g <| (removeCall_onlyPlanner g s).lists h

theorem waitExpiry_lists (k : Nat) (h : ListsKept s) : ListsKept (waitExpiry k s) := by
  unfold waitExpiry; split
  · split
    · exact h.of_parts rfl
    · exact h
  · exact h

theorem takeAtSector_lists (tag : Nat) (h : ListsKept s) : ListsKept (takeAtSector tag s) := by
  unfold takeAtSector; split
  · unfold standAtSector; split
    · exact claimSector_lists _ ((updPlanner_onlyPlanner _ _).lists h)
    · exact claimSector_lists _ h
    · exact claimSector_lists _ h
    · exact h
  · exact (discardTransport_onlyPlanner s).lists h

theorem takeChanged_lists (tag : Nat) (h : ListsKept s) : ListsKept (takeChanged tag s) := by
  unfold takeChanged; split
  · exact completeChange_lists _ h
  · split
    · exact honourLate_lists _ h
    · exact (discardTransport_onlyPlanner s).lists h

theorem takeAborted_lists (tag : Nat) (h : ListsKept s) : ListsKept (takeAborted tag s) := by
  unfold takeAborted; split
  · exact ((callTest_onlyPlanner _).after (relist_onlyPlanner _ _ _)).lists (endClaimOfChange_lists h)
  · exact (discardTransport_onlyPlanner s).lists h

theorem transportExpiry_lists (h : ListsKept s) : ListsKept (transportExpiry s) := by
  unfold transportExpiry; split
  · split
    · exact (callTest_onlyPlanner _).lists <| (relist_onlyPlanner _ _ _).lists <| (updPlanner_onlyPlanner _ _).lists <|
        endClaimOfChange_lists <| emit_lists _ <| raiseFault_lists _ _ _ h
    · exact h
  · exact h

/-! ## The doff called and the carriages parked (chapters 4 and 7) -/

theorem updDoff_lists (f : Doff → Doff) (h : ListsKept s) : ListsKept (updDoff f s) := h.of_parts rfl

theorem testDrowse_lists (h : ListsKept s) : ListsKept (testDrowse s) := (takeDrowse_lists h).ite h

theorem enterPhase_lists (ph : DoffPhase) (h : ListsKept s) : ListsKept (enterPhase ph s) := by
  have h1 := testDrowse_lists (updDoff_lists (fun d => d.toPhase ph) h)
  exact (attemptBoth_lists h1).ite h1

theorem enterDoffing_lists (call : CallInfo) (h : ListsKept s) : ListsKept (enterDoffing call s) := by
  unfold enterDoffing; dsimp only
  exact enterPhase_lists _ (updDoff_lists _ h)

theorem testClear_lists (h : ListsKept s) : ListsKept (testClear s) := by
  unfold testClear; split
  · exact (enterDoffing_lists _ h).ite h
  · exact h

theorem parkRecord_lists (r : RecordNo) (h : ListsKept s) : ListsKept (parkRecord r s) := by
  unfold parkRecord; split
  · split
    · exact updCarriage_lists r _ (emit_lists _ h)
    · exact h
  · exact h

theorem enterParking_lists (call : CallInfo) (h : ListsKept s) : ListsKept (enterParking call s) :=
  testClear_lists <| parkRecord_lists _ <| parkRecord_lists _ <| enterPhase_lists _ h

theorem enterCalled_lists (early forced : Bool) (h : ListsKept s) : ListsKept (enterCalled early forced s) := by
  have h1 (call : CallInfo) := enterPhase_lists (.called call) (updDoff_lists (fun d => { d with hold := false, overdue := false }) h)
  exact (h1 _).ite (enterParking_lists _ (h1 _))

theorem forceDoff_lists (h : ListsKept s) : ListsKept (forceDoff s) :=
  raiseNotice_lists _ _ _ _ <| enterCalled_lists _ _ <| updDoff_lists _ h

theorem toPhase_lists (ph : DoffPhase) (h : ListsKept s) : ListsKept (toPhase ph s) := ListsHold.ite h (enterPhase_lists ph h)

theorem applyTable_lists (h : ListsKept s) : ListsKept (applyTable s) := by
  rw [applyTable_eq]
  refine (forceDoff_lists h).ite (ListsHold.ite (ListsHold.ite ?_ ?_) (ListsHold.ite ?_ ?_))
  · exact toPhase_lists _ (updDoff_lists _ h)
  · exact enterCalled_lists _ _ h
  · exact toPhase_lists _ h
  · exact toPhase_lists _ (updDoff_lists _ h)

theorem followProgress_lists (h : ListsKept s) : ListsKept (followProgress s) := by
  unfold followProgress; split
  · exact applyTable_lists h
  · exact applyTable_lists h
  · exact h

theorem testWindow_lists (h : ListsKept s) : ListsKept (testWindow s) := by
  unfold testWindow; split
  · exact (applyTable_lists h).ite h
  · exact h

theorem doffPoints_lists (h : ListsKept s) : ListsKept (doffPoints s) := by
  unfold doffPoints; split
  · exact testWindow_lists h
  · exact followProgress_lists h

/-! ## Carriages (chapter 4) -/

theorem heard_lists (station : Nat) (h : ListsKept s) : ListsKept (heard station s) := by
  unfold heard; split
  · exact h
  · exact updCarriage_lists _ _ h

theorem discardCarriage_lists (h : ListsKept s) : ListsKept (discardCarriage s) := h.of_parts rfl

theorem updPiecing_lists (f : PiecingCounts → PiecingCounts) (h : ListsKept s) : ListsKept (updPiecing f s) := h.of_parts rfl

theorem dropOrder_lists (o : Option Order) (h : ListsKept s) : ListsKept (dropOrder o s) := by
  unfold dropOrder; split
  · exact h
  · exact releaseLock_lists _ (returnToBroken_lists _ _ h)

theorem makeAbsent_lists (r : RecordNo) (lost : Bool) (h : ListsKept s) : ListsKept (makeAbsent r lost s) := by
  have h1 := updCarriage_lists r Carriage.absented h
  unfold makeAbsent; dsimp only
  refine testClear_lists (dropOrder_lists _ ?_)
  split
  · exact (raiseFault_lists _ _ _ h1).ite h1
  · exact h1

theorem rejectEnrolment_lists (r : RecordNo) (st : Station) (side : Side) (reason : RefuseReason) (h : ListsKept s) :
    ListsKept (rejectEnrolment r st side reason s) :=
  testClear_lists <| raiseFault_lists _ _ _ <| updCarriage_lists r _ <| updCarriage_lists r _ <| emit_lists _ h

theorem acceptEnrolment_lists (r : RecordNo) (st : Station) (side : Side) (w : CarriageWork) (h : ListsKept s) :
    ListsKept (acceptEnrolment r st side w s) := by
  unfold acceptEnrolment; dsimp only
  refine testClear_lists <| dispatch_lists r <| raiseNotice_lists _ _ _ _ <| updCarriage_lists r _ <| updCarriage_lists r _ ?_
  exact ListsHold.ite (emit_lists _ h) (emit_lists _ (emit_lists _ h))

theorem enrol_lists (r : RecordNo) (st : Station) (side : Side) (h : ListsKept s) : ListsKept (enrol r st side s) := by
  unfold enrol
  refine (rejectEnrolment_lists _ _ _ _ h).ite <| (rejectEnrolment_lists _ _ _ _ h).ite <|
    (rejectEnrolment_lists _ _ _ _ h).ite ?_
  split
  · exact updCarriage_lists r _ (emit_lists _ h)
  all_goals exact acceptEnrolment_lists _ _ _ _ h

theorem enrolStation_lists (st : Station) (side : Side) (h : ListsKept s) : ListsKept (enrolStation st side s) := by
  unfold enrolStation; split
  · exact (enrol_lists _ _ _ (makeAbsent_lists _ _ h)).ite (enrol_lists _ _ _ h)
  · split
    · exact enrol_lists _ _ _ h
    · exact raiseFault_lists _ _ _ (emit_lists _ h)

theorem completeOrder_lists (r : RecordNo) (o : Order) (h : ListsKept s) : ListsKept (completeOrder r o s) := by
  have h1 (f : Carriage → Carriage) := updCarriage_lists r f h
  exact testClear_lists <|
    (dispatchAmong_lists _ _ _ (h1 _)).ite (dispatch_lists _ (releaseLock_lists _ (h1 _)))

theorem settleOutcome_lists (r : RecordNo) (o : Order) (x : OrderOutcome) (h : ListsKept s) :
    ListsKept (settleOutcome r o x s) := by
  have tried (failed : Bool) : ListsKept (updSpindle o.spindle (fun x => x.tried failed) s) :=
    updSpindle_lists _ _ (fun _ => ⟨rfl, rfl⟩) h
  unfold settleOutcome
  cases x with
  | pieced => exact updPiecing_lists _ (updCarriage_lists r _ (pieceDone_lists _ (tried false)))
  | failed => exact updPiecing_lists _ (updCarriage_lists r _ (returnToBroken_lists _ _ (tried true)))
  | notReached => exact updPiecing_lists _ (updCarriage_lists r _ (returnToBroken_lists _ _ h))
  | cancelled => exact updPiecing_lists _ (returnToBroken_lists _ _ h)

theorem handleResult_lists (r : RecordNo) (o : Order) (x : OrderOutcome) (h : ListsKept s) : ListsKept (handleResult r o x s) :=
  completeOrder_lists _ _ (settleOutcome_lists _ _ _ h)

theorem reachPark_lists (r : RecordNo) (h : ListsKept s) : ListsKept (reachPark r s) := testClear_lists (updCarriage_lists r _ h)

theorem leaveSuspect_lists (r : RecordNo) (h : ListsKept s) : ListsKept (leaveSuspect r s) := by
  unfold leaveSuspect; split
  · exact dispatch_lists _ (updCarriage_lists r _ h)
  · exact h

theorem timeOutOrder_lists (r : RecordNo) (st : Station) (side : Side) (o : Order) (h : ListsKept s) :
    ListsKept (timeOutOrder r st side o s) := by
  unfold timeOutOrder; dsimp only
  exact testClear_lists <| emit_lists _ <| updCarriage_lists r _ <| releaseLock_lists _ <| returnToBroken_lists _ _ <|
    updPiecing_lists _ <| updCarriage_lists r _ <| raiseFault_lists _ _ _ h

theorem fromStation_lists (station : Nat) {act : RecordNo → State → State}
    (hact : ∀ r t, ListsKept t → ListsKept (act r t)) (h : ListsKept s) : ListsKept (fromStation station act s) := by
  unfold fromStation; split
  · exact discardCarriage_lists h
  · exact hact _ _ (updCarriage_lists _ _ h)

theorem takeAbility_lists (station : Nat) (side : Side) (a : AbilitySet) (revision : Nat) (h : ListsKept s) :
    ListsKept (takeAbility station side a revision s) :=
  (enrolStation_lists _ _ (heard_lists _ h)).ite (discardCarriage_lists (heard_lists _ h))

theorem takePosition_lists (n : Nat) (dir : Direction) (r : RecordNo) (h : ListsKept s) : ListsKept (takePosition n dir r s) := by
  unfold takePosition; split
  · exact (leaveSuspect_lists r (updCarriage_lists r _ h)).ite (discardCarriage_lists h)
  · exact discardCarriage_lists h

theorem staleTag_lists (tag : Nat) (r : RecordNo) (h : ListsKept s) : ListsKept (staleTag tag r s) :=
  (updCarriage_lists r (fun c => { c with counters := { c.counters with late := satAdd Config.top32 c.counters.late 1 } }) h).ite
    (discardCarriage_lists h)

theorem arriveAt_lists (r : RecordNo) (o : Order) (h : ListsKept s) : ListsKept (arriveAt r o s) :=
  ListsHold.ite h (updSpindle_lists _ _ (fun _ => ⟨rfl, rfl⟩) (updCarriage_lists r _ h))

theorem takeArrived_lists (tag : Nat) (r : RecordNo) (h : ListsKept s) : ListsKept (takeArrived tag r s) := by
  unfold takeArrived; split
  · exact (arriveAt_lists r _ h).ite (staleTag_lists tag r h)
  · exact staleTag_lists tag r h
  · exact discardCarriage_lists h

theorem takeResult_lists (tag : Nat) (x : OrderOutcome) (r : RecordNo) (h : ListsKept s) : ListsKept (takeResult tag x r s) := by
  unfold takeResult; split
  · exact (handleResult_lists r _ x h).ite (staleTag_lists tag r h)
  · exact staleTag_lists tag r h
  · exact discardCarriage_lists h

theorem takeParked_lists (r : RecordNo) (h : ListsKept s) : ListsKept (takeParked r s) := by
  unfold takeParked; split
  · exact reachPark_lists r h
  · exact (reachPark_lists r (handleResult_lists r _ _ h)).ite (discardCarriage_lists h)
  · exact h
  · exact discardCarriage_lists h

theorem takeStatus_lists (r : RecordNo) (h : ListsKept s) : ListsKept (takeStatus r s) := by
  unfold takeStatus; split
  · exact leaveSuspect_lists r h
  · exact discardCarriage_lists h

theorem takeDiscard_lists (cause : LinkDiscard) (h : ListsKept s) : ListsKept (takeDiscard cause s) := by
  cases cause with
  | badCheck => exact discardCarriage_lists h
  | unknownKind => exact discardCarriage_lists (heard_lists _ h)
  | badField => exact discardCarriage_lists (heard_lists _ h)

theorem orderExpiry_lists (r : RecordNo) (h : ListsKept s) : ListsKept (orderExpiry r s) := by
  unfold orderExpiry; split
  · exact (timeOutOrder_lists r _ _ _ h).ite h
  · exact h

theorem linkLossExpiry_lists (r : RecordNo) (h : ListsKept s) : ListsKept (linkLossExpiry r s) := (makeAbsent_lists r true h).ite h

theorem parkExpiry_lists (r : RecordNo) (h : ListsKept s) : ListsKept (parkExpiry r s) := by
  unfold parkExpiry; split
  · exact (raiseFault_lists _ _ _ (updCarriage_lists r _ h)).ite h
  · exact h

/-! ## The store (R184, R185) -/

theorem beginWrite_lists (h : ListsKept s) : ListsKept (beginWrite s) := h.of_parts rfl

theorem askWrite_lists (h : ListsKept s) : ListsKept (askWrite s) := by
  unfold askWrite; split
  · exact beginWrite_lists h
  · exact h.of_parts rfl

theorem afterWrite_lists (h : ListsKept s) : ListsKept (afterWrite s) := by
  unfold afterWrite; split
  · exact beginWrite_lists (h.of_parts rfl)
  · exact h.of_parts rfl

theorem writeDone_lists (h : ListsKept s) : ListsKept (writeDone s) := by
  unfold writeDone; split
  · exact h
  · exact afterWrite_lists (h.of_parts rfl)

theorem writeFailed_lists (h : ListsKept s) : ListsKept (writeFailed s) := by
  unfold writeFailed; split
  · exact h
  · exact afterWrite_lists (raiseFault_lists _ _ _ (h.of_parts rfl))

/-! ## Shifts and doffs (chapters 7 and 8) -/

theorem openShift_lists (number : Nat) (h : ListsKept s) : ListsKept (openShift number s) :=
  (mapSpindles_lists Spindle.newShift (fun _ => ⟨rfl, rfl⟩) h).of_parts rfl

theorem closeShiftNow_lists (h : ListsKept s) : ListsKept (closeShiftNow s) :=
  raiseNotice_lists _ _ _ _ <| askWrite_lists <| openShift_lists _ <| (settleAll_lists h).of_parts rfl

theorem lotAtDoff_lists (h : ListsKept s) : ListsKept (lotAtDoff s).2 := by
  unfold lotAtDoff; split
  · exact h
  · split
    · exact askWrite_lists ((evaluateGroups_onlyPlanner _ _).lists ((settleAll_lists h).of_parts rfl))
    · exact h

theorem resumeRecord_lists (r : RecordNo) (h : ListsKept s) : ListsKept (resumeRecord r s) := by
  unfold resumeRecord; split
  · exact updCarriage_lists r _ (emit_lists _ h)
  · exact h

theorem countDoff_lists (r : DoffRecord) (h : ListsKept s) : ListsKept (countDoff r s) := h.of_parts rfl

theorem completeDoff_lists (r : DoffRecord) (h : ListsKept s) : ListsKept (completeDoff r s) := by
  unfold completeDoff; dsimp only
  exact raiseNotice_lists _ _ _ _ <| testWindow_lists <| enterPhase_lists _ <| resumeRecord_lists _ <| resumeRecord_lists _ <|
    updDoff_lists _ <| lotAtDoff_lists <| updDoff_lists _ <| mapSpindles_lists Spindle.emptied (fun _ => ⟨rfl, rfl⟩) <|
      settleAll_lists (countDoff_lists r h)

theorem doffPulse_lists (h : ListsKept s) : ListsKept (doffPulse s) := by
  unfold doffPulse; split
  · exact completeDoff_lists _ h
  · exact raiseFault_lists _ _ _ h

theorem dofferRise_lists (h : ListsKept s) : ListsKept (dofferRise s) := by
  have h1 := updDoff_lists (fun d => { d with dofferActive := true }) h
  unfold dofferRise; dsimp only; split
  · exact h1
  · exact raiseFault_lists _ _ _ h1

theorem setProgress_lists (percent : Nat) (h : ListsKept s) : ListsKept (setProgress percent s) := by
  unfold setProgress; dsimp only
  have h3 := mapSpindles_lists
    (fun sp => sp.capped (doffProgress (settleAll (updDoff (fun d => { d with phiD := s.delivery.phi - d.dPulses * percent / 100 }) s))))
    (fun _ => ⟨rfl, rfl⟩)
    (settleAll_lists (updDoff_lists (fun d => { d with phiD := s.delivery.phi - d.dPulses * percent / 100 }) h))
  exact followProgress_lists (ListsHold.ite (updDoff_lists _ h3) h3)

/-! ## Clocks, odometer and drive (chapter 1) -/

theorem updDelivery_lists (f : Delivery → Delivery) (hs : (f s.delivery).sides = s.delivery.sides)
    (hk : (f s.delivery).sectors = s.delivery.sectors) (h : ListsKept s) : ListsKept (updDelivery f s) :=
  h.of_parts (by simp only [listParts, updDelivery, hs, hk])

theorem pulseSeen_lists (h : ListsKept s) : ListsKept (pulseSeen s) := by
  rw [pulseSeen]
  have h1 := updDelivery_lists
    (fun dl => { dl with pulseLost := false, pulseTimer := some (dl.now + s.settings.working.pulseLossTime) }) rfl rfl h
  exact ListsHold.ite (ListsHold.ite (raiseNotice_lists _ _ _ _ h1) h1) h

theorem rollerPulse_lists (h : ListsKept s) : ListsKept (rollerPulse s) :=
  (reachPoints_onlyPlanner _).lists <| doffPoints_lists <| pulseSeen_lists <| updDelivery_lists _ rfl rfl h

theorem startSpindle_lists (n : Nat) (h : ListsKept s) : ListsKept (startSpindle n s) := by
  unfold startSpindle; split
  · rename_i hst; exact enterState_unbroken (by rw [hst]; rfl) rfl h
  · exact h

theorem stopSpindle_lists (n : Nat) (h : ListsKept s) : ListsKept (stopSpindle n s) := by
  unfold stopSpindle; split
  · rename_i hst; exact enterState_unbroken (by rw [hst]; rfl) rfl h
  · rename_i hst; exact enterState_unbroken (by rw [hst]; rfl) rfl h
  · exact h

theorem driveRise_lists (h : ListsKept s) : ListsKept (driveRise s) :=
  attemptBoth_lists <| ListsHold.foldl (fun _ n => startSpindle_lists n) _ <|
    (settleAll_lists h).of_parts (t := assertDrive (settleAll s)) rfl

theorem driveFall_lists (h : ListsKept s) : ListsKept (driveFall s) := by
  have h1 := ((settleAll_lists h).of_parts (t := dropDrive (settleAll s)) rfl).foldl (fun _ n => stopSpindle_lists n)
    (allSpindles (dropDrive (settleAll s)))
  rw [driveFall, doffAtFall]; split
  · exact enterParking_lists _ h1
  · exact h1

theorem losePulses_lists (h : ListsKept s) : ListsKept (losePulses s) :=
  (raiseFault_lists _ _ _ (updDelivery_lists (fun dl => { dl with pulseLost := true, pulseTimer := none }) rfl rfl h)).ite h

end

end Sys2Proof.Machine

/-! # The piecing lists through the requests about spindles and zones (R59, R60, R66, R67, R175 to R178) -/

namespace Sys2Proof.Machine

open Sys2Proof

/-! ## Piece Spindle (R59, R60) -/

section
variable {loose : Set Nat} {gap : Option Side} {s : State} {n : Nat}

theorem ascending_iff_map (l : List Entry) : ascending l ↔ (l.map (·.spindle)).Pairwise (· < ·) := List.pairwise_map.symm

/-- A list with other entries for the same spindles. -/
theorem setPieceList_lists {side : Side} {l : List Entry} (hl : l.map (·.spindle) = (pieceList s side).map (·.spindle))
    (h : ListsHold loose gap s) : ListsHold loose gap (setPieceList side l s) := by
  have hspin (x : Side) : (pieceList (setPieceList side l s) x).map (·.spindle) = (pieceList s x).map (·.spindle) := by
    rw [pieceList_setPieceList]; split
    · rename_i hx; rw [hl, hx]
    · rfl
  have hlen (x : Side) : (pieceList (setPieceList side l s) x).length = (pieceList s x).length := by
    simpa using congrArg List.length (hspin x)
  have hmem {x : Side} {e : Entry} (he : e ∈ pieceList (setPieceList side l s) x) : ∃ f ∈ pieceList s x, f.spindle = e.spindle := by
    have := List.mem_map_of_mem (f := (·.spindle)) he
    rw [hspin] at this
    exact List.mem_map.1 this
  refine ⟨?_, fun x => ?_, fun x => hlen x ▸ h.room x, fun x e he => ?_, fun m hm => ?_, fun m hb hu hm => ?_, fun m hm => ?_,
    fun x hg => ?_, ?_⟩
  · obtain ⟨h1, h2, h3, h4⟩ := h.table
    simpa only [tableOk, spindleCount, sectorCount, setPieceList_delivery, setPieceList_spindles] using ⟨h1, h2, h3, h4⟩
  · rw [ascending_iff_map, hspin, ← ascending_iff_map]; exact h.order x
  · obtain ⟨f, hf, hfe⟩ := hmem he
    rw [entrySound, isSpindle_setPieceList, sideOf_setPieceList, spindle_setPieceList, ← hfe]
    exact h.entries x f hf
  · rw [spindle_setPieceList] at hm ⊢; exact h.marked m hm
  · rw [spindle_setPieceList] at hb hu
    obtain ⟨f, hf, rfl⟩ := listed_iff.1 (h.placed m hb hu hm)
    have := List.mem_map_of_mem (f := (·.spindle)) hf
    rw [← hspin] at this
    rw [listed_iff, sideOf_setPieceList]
    exact List.mem_map.1 this
  · obtain ⟨hu, he⟩ := h.apart m hm
    rw [sideOf_setPieceList]
    refine ⟨by rw [spindle_setPieceList]; exact hu, fun e k => ?_⟩
    obtain ⟨f, hf, hfe⟩ := hmem k
    exact hfe ▸ he f hf
  · rw [overflowSound, unlistedOf_setPieceList, hlen]; exact h.full x hg
  · rw [setPieceList_zones, setPieceList_delivery]; exact h.withheld

theorem markUrgent_lists (n : Nat) (h : ListsHold loose gap s) : ListsHold loose gap (markUrgent n s) := by
  refine setPieceList_lists ?_ h
  rw [List.map_map]
  exact List.map_congr_left fun e _ => by
    simp only [Function.comp_apply]; split <;> rfl

/-- R50: in an ascending list one entry is of a spindle. -/
theorem length_filter_ascending {e : Entry} : ∀ {l : List Entry}, ascending l → e ∈ l →
    (l.filter fun f => f.spindle != e.spindle).length + 1 = l.length
  | f :: l, h, he => by
    obtain ⟨hf, hl⟩ := List.pairwise_cons.1 h
    rcases List.mem_cons.1 he with rfl | he
    · have hall : ∀ g ∈ l, (g.spindle != e.spindle) = true := fun g hg => bne_iff_ne.2 (Nat.ne_of_gt (hf g hg))
      rw [List.filter_cons_of_neg (by simp), List.filter_eq_self.2 hall, List.length_cons]
    · have hne : (f.spindle != e.spindle) = true := bne_iff_ne.2 (Nat.ne_of_lt (hf e he))
      rw [List.filter_cons_of_pos (p := fun f : Entry => f.spindle != e.spindle) hne, List.length_cons, List.length_cons,
        length_filter_ascending hl he]

/-- R1: a spindle of the frame is in the range of its side. -/
theorem mem_spindlesOfSide (ht : tableOk s) (hn : isSpindle s n = true) : n ∈ spindlesOfSide s (sideOf s n) := by
  obtain ⟨hs, -⟩ := ht
  have hk : sectorOf n = (n - 1) / 24 + 1 := rfl
  have hc : spindleCount s = 24 * (s.delivery.sides * s.delivery.sectors) := rfl
  obtain ⟨h1, h2⟩ : 1 ≤ n ∧ n ≤ spindleCount s := by simpa [isSpindle] using hn
  simp only [spindlesOfSide, firstSpindle, List.mem_range'_1, Config.sectorSpindles, sideOf, sideOfSector]
  split
  · simp only [firstSector]; omega
  · simp only [firstSector]
    rcases hs with hs | hs <;> rw [hs] at hc <;> omega

/-- R52: a BROKEN spindle without an entry is left unlisted. -/
theorem ListsHold.unlisted_of_not_listed (h : ListsHold loose gap s) (hn : n ∉ loose) (hb : (spindle s n).state.isBroken = true)
    (hl : listed s n = false) : (spindle s n).unlisted = true := by
  cases hu : (spindle s n).unlisted
  · rw [h.placed n hb hu hn] at hl; cases hl
  · rfl

/-- R53: while one of its spindles is left unlisted, a list is full. -/
theorem ListsHold.full_of_unlisted (h : ListsHold loose none s) (hu : (spindle s n).unlisted = true) :
    (pieceList s (sideOf s n)).length = 96 := by
  have hn := isSpindle_of_hasSpindle h.table (hasSpindle_of_broken (h.marked n hu))
  have k : n ∈ unlistedOf s (sideOf s n) := mem_unlistedOf.2 ⟨mem_spindlesOfSide h.table hn, hu⟩
  refine (h.full (sideOf s n) fun e => nomatch e).resolve_left fun hnil => ?_
  rw [hnil] at k
  exact List.not_mem_nil k

theorem state_dropFromList (n m : Nat) (s : State) : (spindle (dropFromList n s) m).state = (spindle s m).state := by
  rw [dropFromList, spindle_setPieceList, state_marked]

theorem pieceList_displaceEntry (e : Entry) (s : State) :
    pieceList (displaceEntry e s) (sideOf s e.spindle) = (pieceList s (sideOf s e.spindle)).filter fun f => f.spindle != e.spindle := by
  rw [displaceEntry, pieceList_updSpindle, dropFromList, setPieceList_same]

/-- R60: an entry displaced: its spindle is left unlisted, and its place is still to be taken. -/
theorem displaceEntry_lists {side : Side} {e : Entry} (h : ListsKept s) (he : e ∈ pieceList s side) :
    ListsHold ∅ (some side) (displaceEntry e s) := by
  obtain ⟨-, hs, hb, -⟩ := h.entries side e he
  have k := dropFromList_lists e.spindle h fun _ e => nomatch e
  have hd : sideOf (dropFromList e.spindle s) e.spindle = side := by rw [dropFromList, sideOf_setPieceList]; exact hs
  rw [hs] at k
  exact mark_lists k (Set.notMem_empty _) (by rw [state_dropFromList]; exact hb) fun hg => absurd (by rw [hd]) hg

/-- R60: an unlisted spindle takes the place of an entry. -/
theorem displaced_lists {e : Entry} (h : ListsKept s) (he : e ∈ pieceList s (sideOf s n)) (hb : (spindle s n).state.isBroken = true)
    (hl : listed s n = false) : ListsKept (makeEntry n true (displaceEntry e s)) := by
  have hu := h.unlisted_of_not_listed (Set.notMem_empty n) hb hl
  have hs : sideOf s e.spindle = sideOf s n := h.entry_side he
  have hlen := length_filter_ascending (h.order _) he
  rw [h.full_of_unlisted hu] at hlen
  have hside : sideOf (displaceEntry e s) n = sideOf s n := sideOf_displaceEntry e n s
  have hlist : (pieceList (displaceEntry e s) (sideOf s n)).length = 95 := by
    rw [← hs, pieceList_displaceEntry, hs]; omega
  have hne : n ≠ e.spindle := fun k => h.no_entry hu e he k.symm
  have hnb : (spindle (displaceEntry e s) n).state.isBroken = true := by
    rw [displaceEntry, state_marked, state_dropFromList]; exact hb
  have hnu : (spindle (displaceEntry e s) n).unlisted = true := by
    rw [displaceEntry, spindle_updSpindle_other _ _ _ _ hne, dropFromList, spindle_setPieceList,
      spindle_updSpindle_other _ _ _ _ hne]
    exact hu
  have k := displaceEntry_lists h he
  have r := makeEntry_lists true (unmark_lists k (k.no_entry hnu)) (Set.notMem_empty n) hnb (by rw [hside, hlist]; decide)
  refine r.closed (.inr ?_)
  have hm := pieceList_makeEntry true hnb
  rw [hside, hlist] at hm
  exact hm

theorem answerPiece_lists (n : Nat) (h : ListsKept s) : ListsKept (answerPiece n s).state := by
  unfold answerPiece; split
  · split
    · exact h
    · rename_i hst
      unfold pieceBroken; split
      · exact markUrgent_lists n h
      · rename_i hl
        split
        · rename_i e he
          exact displaced_lists h (List.mem_of_mem_filter (pick_mem he)) (by rw [hst]; rfl) (Bool.eq_false_iff.2 hl)
        · exact h
    · exact h
  · exact h

/-! ## Lock Spindle and Release Spindle (R66, R67) -/

theorem answerLock_lists (n : Nat) (h : ListsKept s) : ListsKept (answerLock n s).state := by
  unfold answerLock; split
  · split
    · exact h
    · exact h
    · rename_i hst
      exact h.stand (updSpindle_stands_at rfl (by rw [hst]; rfl))
    · exact leaveList_lists n rfl h
  · exact h

theorem answerRelease_lists (n : Nat) (h : ListsKept s) : ListsKept (answerRelease n s).state := by
  unfold answerRelease; split
  · split
    · exact h
    · rename_i hst
      have hn : hasSpindle s n = true := hasSpindle_of_state (by rw [hst]; exact nofun)
      have hp : (spindle (updSpindle n Spindle.pardoned s) n).state = (spindle s n).state := state_updSpindle fun _ => rfl
      refine takeIn_lists .yarn _ .none ?_ (by rw [hp, hst]; rfl) (updSpindle_lists n _ (fun _ => ⟨rfl, rfl⟩) h)
      exact hasSpindle_of_state (by rw [hp, hst]; exact nofun)
    · exact h
  · exact h

/-! ## The withheld set (R175) -/

/-- R175: a side's part of the withheld set names sectors of that side. -/
theorem side_of_mem_withheldOfSide {z : ZoneRecords} {sectors k : Nat} {side : Side} (h : k ∈ withheldOfSide z sectors side) :
    (if k ≤ sectors then Side.a else Side.b) = side := by
  obtain ⟨i, hi, rfl⟩ := List.mem_map.1 h
  obtain ⟨h1, h2⟩ := List.mem_range'_1.1 (List.mem_of_mem_filter hi)
  cases side
  · exact if_pos (by simp only; omega)
  · exact if_neg (by simp only; omega)

theorem mem_withheldSet {z : ZoneRecords} {sides sectors k : Nat} :
    k ∈ withheldSet z sides sectors ↔ k ∈ withheldOfSide z sectors .a ∨ sides = 2 ∧ k ∈ withheldOfSide z sectors .b := by
  rw [withheldSet, List.mem_append]
  split <;> rename_i h <;> simp [h]

/-- R174: a record of one side replaced leaves the other side's part. -/
theorem withheldOfSide_set_other (z : ZoneRecords) (r : RecordNo) (x : Zone) (sectors : Nat) {side other : Side} (h : other ≠ side) :
    withheldOfSide (z.set side r x) sectors other = withheldOfSide z sectors other := by
  have : (z.set side r x).ofSide other = z.ofSide other := by
    cases side <;> cases other
    · exact absurd rfl h
    · cases r <;> rfl
    · cases r <;> rfl
    · exact absurd rfl h
  simp only [withheldOfSide, this]

/-- R175: what differs between two withheld sets whose records differ on one side is of that side. -/
theorem side_of_withheld_differs {z z' : ZoneRecords} {sides sectors k : Nat} {side : Side}
    (hz : ∀ x, x ≠ side → withheldOfSide z' sectors x = withheldOfSide z sectors x) (hk : k ∈ withheldSet z' sides sectors)
    (hn : k ∉ withheldSet z sides sectors) : (if k ≤ sectors then Side.a else Side.b) = side := by
  rw [mem_withheldSet] at hk hn
  have part (x : Side) (hx : k ∈ withheldOfSide z' sectors x) (hnx : k ∉ withheldOfSide z sectors x) : x = side := by
    by_contra hne
    exact hnx (hz x hne ▸ hx)
  obtain ⟨hna, hnb⟩ := not_or.1 hn
  rcases hk with hk | ⟨h2, hk⟩
  · rw [side_of_mem_withheldOfSide hk]; exact part .a hk hna
  · rw [side_of_mem_withheldOfSide hk]; exact part .b hk fun h => hnb ⟨h2, h⟩

/-! ## Write Zone (R176 to R178) -/

theorem withholdSpindle_delivery (n : Nat) (s : State) : (withholdSpindle n s).delivery = s.delivery := by
  unfold withholdSpindle; split
  · rfl
  · exact (changeState_turn n _ _).delivery.trans (dropFromList_turn n s).delivery

theorem withholdSpindle_lists {side : Side} (hs : sideOf s n = side) (h : ListsHold loose (some side) s) :
    ListsHold loose (some side) (withholdSpindle n s) := by
  unfold withholdSpindle; split
  · exact updSpindle_lists n _ (fun _ => ⟨rfl, rfl⟩) h
  · subst hs
    exact changeState_fixes rfl (dropFromList_lists n h fun _ e => (Option.some.inj e).symm)

theorem unwithholdSpindle_lists (n : Nat) (h : ListsHold loose gap s) : ListsHold loose gap (unwithholdSpindle n s) := by
  unfold unwithholdSpindle; split
  · rename_i hst
    exact changeState_unbroken (by rw [hst]; rfl) (settlingOrIdle_unbroken s _) h
  · exact updSpindle_lists n _ (fun _ => ⟨rfl, rfl⟩) h
  · exact h

/-- R177: sectors of one side entering and leaving the withheld set leave a gap in its list alone. -/
theorem changeZone_lists {side : Side} {entered : List Nat} (left : List Nat) (h : ListsHold loose (some side) s)
    (he : ∀ k ∈ entered, sideOfSector s k = side) : ListsHold loose (some side) (changeZone entered left s) := by
  refine ListsHold.foldl (fun _ n => unwithholdSpindle_lists n) _ <| ListsHold.foldl_side (fun t n => withholdSpindle_delivery n t)
    (fun _ _ => withholdSpindle_lists) _ (fun n hn => ?_) h
  obtain ⟨k, hk, hnk⟩ := List.mem_flatMap.1 hn
  rw [sideOf_of_mem_spindlesOfSector h.table hnk, he k hk]

/-- R175: new zone records, with their withheld set. -/
theorem ListsHold.rezoned (h : ListsHold loose gap s) {z : Zones}
    (hz : z.withheld = withheldSet z.records s.delivery.sides s.delivery.sectors) : ListsHold loose gap { s with zones := z } :=
  ⟨h.table, h.order, h.room, h.entries, h.marked, h.placed, fun n hn => (h.apart n hn).of_same rfl rfl rfl, h.full, hz⟩

theorem writeZone_lists (side : Side) (record : RecordNo) (z : Zone) (h : ListsKept s) : ListsKept (writeZone side record z s) := by
  unfold writeZone; dsimp only
  have h0 := (h.opened side).rezoned (z :=
    { records := s.zones.records.set side record z
      withheld := withheldSet (s.zones.records.set side record z) s.delivery.sides s.delivery.sectors }) rfl
  have hin : ∀ k ∈ sectorsGone (withheldSet (s.zones.records.set side record z) s.delivery.sides s.delivery.sectors) s.zones.withheld,
      sideOfSector s k = side := fun k hk => by
    obtain ⟨hk, hn⟩ := List.mem_filter.1 hk
    rw [h.withheld] at hn
    exact side_of_withheld_differs (fun x => withheldOfSide_set_other _ _ _ _) hk (by simpa using hn)
  have h1 (left : List Nat) := refill_lists (changeZone_lists left h0 hin)
  have h2 (left gs : List Nat) := (h1 left).foldl (fun _ g => tellPlanner_lists g) gs
  exact askWrite_lists ((attemptSide_lists side (h2 _ _)).ite (h2 _ _))

theorem answerZone_lists (a b c d e f : Nat) (h : ListsKept s) : ListsKept (answerZone a b c d e f s).state := by
  unfold answerZone; split
  · split
    · exact h
    · exact writeZone_lists _ _ _ h
  · exact h

end

end Sys2Proof.Machine

/-! # The piecing lists kept by every step -/

namespace Sys2Proof.Machine

open Sys2Proof

section
variable {s : State}

/-! ## Lists started anew (R47, R48, R71) -/

/-- R31: a record of a spindle that is neither BROKEN nor left unlisted. -/
def Spindle.unconcerned (sp : Spindle) : Prop := sp.state.isBroken = false ∧ sp.unlisted = false

theorem spindle_unconcerned (h : ∀ sp ∈ s.spindles, sp.unconcerned) (n : Nat) : (spindle s n).unconcerned := by
  cases hn : hasSpindle s n
  · rw [spindle_of_none hn]; exact ⟨rfl, rfl⟩
  · exact h _ (spindle_mem s n hn)

/-- Empty lists hold what they should where no spindle is BROKEN. -/
theorem lists_of_unconcerned (ht : tableOk s) (ha : s.listA = []) (hb : s.listB = []) (h : ∀ sp ∈ s.spindles, sp.unconcerned)
    (hz : s.zones.withheld = withheldSet s.zones.records s.delivery.sides s.delivery.sectors) : ListsKept s := by
  have hl (side : Side) : pieceList s side = [] := by cases side <;> assumption
  have hu (n : Nat) : (spindle s n).unlisted = false := (spindle_unconcerned h n).2
  have hs (n : Nat) : (spindle s n).state.isBroken = false := (spindle_unconcerned h n).1
  refine ⟨ht, fun side => ?_, fun side => ?_, fun side e he => ?_, fun n hn => ?_, fun n hn => ?_, fun _ hn => (nomatch hn),
    fun side _ => .inl ?_, hz⟩
  · rw [hl]; exact List.Pairwise.nil
  · rw [hl]; exact Nat.zero_le _
  · rw [hl] at he; exact nomatch he
  · rw [hu] at hn; exact nomatch hn
  · rw [hs] at hn; exact nomatch hn
  · exact List.filter_eq_nil_iff.2 fun n _ => by rw [hu]; exact Bool.false_ne_true

theorem rebuiltState_unbroken (withheld : List Nat) (driving : Bool) (now n : Nat) :
    (rebuiltState withheld driving now n).isBroken = false := by
  unfold rebuiltState; split
  · rfl
  · split <;> rfl

/-! ## Restart (R207) -/

theorem refuseAtRestart_lists (r : RecordNo) (h : ListsKept s) : ListsKept (refuseAtRestart r s) := by
  unfold refuseAtRestart; split
  · exact h
  · exact updCarriage_lists r _ (emit_lists _ h)

theorem releaseAtRestart_lists (h : ListsKept s) : ListsKept (releaseAtRestart s) := by
  have h1 : ListsKept { s with locks := s.locks.map Lock.restarted } := h.of_parts rfl
  exact ((plannerGranted_onlyPlanner _).lists h1).ite h1

/-- R48, R71: the spindles rebuilt and the lists emptied. -/
theorem rebuilt_lists (h : ListsKept s) : ListsKept (resetSensing (rebuildSpindles s)) := by
  refine lists_of_unconcerned ?_ rfl rfl (fun sp hsp => ?_) h.withheld
  · obtain ⟨h1, h2, h3, h4⟩ := h.table
    exact ⟨h1, h2, h3, (by simp [resetSensing, rebuildSpindles] : _ = s.spindles.length).trans h4⟩
  · obtain ⟨⟨x, i⟩, -, rfl⟩ := List.mem_map.1 hsp
    exact ⟨rebuiltState_unbroken _ _ _ _, rfl⟩

theorem countRestart_lists (h : ListsKept s) : ListsKept (countRestart s) := h.of_parts rfl

theorem doffAtRestart_lists (h : ListsKept s) : ListsKept (doffAtRestart s) := by
  unfold doffAtRestart; split
  · exact ListsHold.ite h (enterParking_lists _ h)
  · exact testClear_lists h
  · exact h

theorem makeRestart_lists (h : ListsKept s) : ListsKept (makeRestart s) :=
  doffAtRestart_lists <| countRestart_lists <| (rebuildPoints_onlyPlanner _).lists <| rebuilt_lists <|
    releaseAtRestart_lists <| refuseAtRestart_lists _ <| refuseAtRestart_lists _ <| settleAll_lists h

/-! ## The line (chapter 11) -/

theorem updLine_lists (f : Line → Line) (h : ListsKept s) : ListsKept (updLine f s) := h.of_parts rfl

theorem countBadRequest_lists (h : ListsKept s) : ListsKept (countBadRequest s) := updLine_lists _ h

theorem restartOf_lists (effect : ReplyEffect) (h : ListsKept s) : ListsKept (restartOf effect s) := by
  unfold restartOf; split
  · exact makeRestart_lists h
  · exact h

theorem unmarkNotices_lists (h : ListsKept s) : ListsKept (unmarkNotices s) := h.of_parts rfl

theorem withholdReply_lists (h : ListsKept s) : ListsKept (withholdReply s) := by
  unfold withholdReply; split
  · exact h
  · exact restartOf_lists _ (updLine_lists _ (unmarkNotices_lists h))

theorem receive_lists {act : State → State} (hact : ∀ t, ListsKept t → ListsKept (act t)) (h : ListsKept s) :
    ListsKept (receive act s) := (hact _ (withholdReply_lists h)).ite h

theorem takeRequest_lists (kind : Nat) (lengthOk : Bool) {answer : State → Answer}
    (ha : ∀ t, ListsKept t → ListsKept (answer t).state) (h : ListsKept s) : ListsKept (takeRequest kind lengthOk answer s) :=
  receive_lists (fun t ht => (updLine_lists _ ht).ite
    ((updLine_lists _ (ha t ht)).ite (updLine_lists _ (countBadRequest_lists ht)))) h

/-- A request that its block answers without a change. -/
theorem takeReading_lists (kind : Nat) (lengthOk : Bool) {answer : State → Answer} (ha : ∀ t, (answer t).state = t)
    (h : ListsKept s) : ListsKept (takeRequest kind lengthOk answer s) :=
  takeRequest_lists kind lengthOk (fun t ht => by rw [ha]; exact ht) h

theorem takeBroadcast_lists (lengthOk : Bool) {act : State → State} (ha : ∀ t, ListsKept t → ListsKept (act t)) (h : ListsKept s) :
    ListsKept (takeBroadcast lengthOk act s) :=
  receive_lists (fun t ht => updLine_lists _ ((ha t ht).ite (updLine_lists _ ht))) h

theorem applySending_lists (effect : ReplyEffect) (h : ListsKept s) : ListsKept (applySending effect s) := by
  cases effect <;> exact h.of_parts rfl

theorem sendReply_lists (h : ListsKept s) : ListsKept (sendReply s) := by
  unfold sendReply; split
  · exact (updLine_lists _ (applySending_lists _ (emit_lists _ h))).ite h
  · exact h

theorem finishReply_lists (h : ListsKept s) : ListsKept (finishReply s) := by
  unfold finishReply; split
  · unfold endReply; dsimp only; split
    · exact updLine_lists _ h
    · exact restartOf_lists _ (updLine_lists _ h)
  · exact h

theorem endResync_lists (h : ListsKept s) : ListsKept (endResync s) := by
  unfold endResync; split
  · exact updLine_lists _ h
  · exact h

theorem takeUnknown_lists (kind : Byte) (h : ListsKept s) : ListsKept (takeUnknown kind s) :=
  (updLine_lists _ h).ite (updLine_lists _ (countBadRequest_lists h))

/-! ## The other requests -/

theorem answerCall_lists (g : Nat) (h : ListsKept s) : ListsKept (answerCall g s).state := by
  rw [answerCall_eq]
  split
  · exact h
  · split
    · exact h
    · split
      · exact h
      · exact (listGroup_onlyPlanner g .urgent .request s).lists h

theorem declaredGroup_lists (g used : Nat) (h : ListsKept s) : ListsKept (declaredGroup g used s) := by
  unfold declaredGroup
  refine (settleEach_lists _ h).foldl (fun t n k => ?_) _
  exact updSpindle_lists n _ (fun _ => ⟨rfl, rfl⟩) k

theorem answerDeclare_lists (g e : Nat) (h : ListsKept s) : ListsKept (answerDeclare g e s).state := by
  rw [answerDeclare_eq]
  split
  · exact h
  · split
    · exact h
    · rw [taken_state, declareGroup_eq]
      exact (evaluateGroup_onlyPlanner g _).lists (declaredGroup_lists g _ h)

theorem answerHold_lists (h : ListsKept s) : ListsKept (answerHold s).state := by
  unfold answerHold; split
  · exact h
  · rw [taken_state]; exact updDoff_lists _ h

theorem answerResume_lists (h : ListsKept s) : ListsKept (answerResume s).state := by
  unfold answerResume; split
  · exact h
  · exact ListsHold.ite (followProgress_lists (updDoff_lists _ h)) h

theorem answerDoffNow_lists (h : ListsKept s) : ListsKept (answerDoffNow s).state := by
  unfold answerDoffNow; split
  · exact enterCalled_lists _ _ h
  · exact enterCalled_lists _ _ h
  · exact h
  · exact h

theorem answerProgress_lists (percent : Nat) (h : ListsKept s) : ListsKept (answerProgress percent s).state := by
  unfold answerProgress; split
  · exact h
  · split
    · exact setProgress_lists _ h
    · exact setProgress_lists _ h
    · exact h

theorem answerReleaseCarriage_lists (code : Nat) (h : ListsKept s) : ListsKept (answerReleaseCarriage code s).state := by
  unfold answerReleaseCarriage; split
  · exact h
  · unfold taken releaseRecord; dsimp only; split
    · exact h
    · exact makeAbsent_lists _ _ (emit_lists _ h)

theorem answerClear_lists (set : Nat) (h : ListsKept s) : ListsKept (answerClear set s).state := by
  unfold answerClear; split
  · exact h
  · exact h.of_parts rfl

theorem storeItems_lists (retained : Bool) (items : List (Nat × Nat)) (h : ListsKept s) : ListsKept (storeItems retained items s) := by
  cases retained <;> exact h.of_parts rfl

theorem workOutAlarm_lists (h : ListsKept s) : ListsKept (workOutAlarm s) := h.of_parts rfl

theorem moveOverrun_lists (h : ListsKept s) : ListsKept (moveOverrun s) := followProgress_lists (updDoff_lists _ h)

theorem actOnWrite_lists (items : List (Nat × Nat)) (h : ListsKept s) : ListsKept (actOnWrite items s) := by
  have h1 : ListsKept (if names items [33, 34] then workOutAlarm s else s) := (workOutAlarm_lists h).ite h
  have h2 {t : State} (k : ListsKept t) : ListsKept (if names items [12, 13] then evaluateGroups (allGroups t) t else t) :=
    ((evaluateGroups_onlyPlanner _ _).lists k).ite k
  exact (moveOverrun_lists (h2 h1)).ite (h2 h1)

theorem answerSettings_lists (target : Nat) (items : List (Nat × Nat)) (h : ListsKept s) :
    ListsKept (answerSettings target items s).state := by
  unfold answerSettings; split
  · exact h
  · split
    · exact h
    · split
      · exact h
      · exact actOnWrite_lists _ (storeItems_lists _ _ h)

theorem answerLot_lists (items : List (Nat × Nat)) (h : ListsKept s) : ListsKept (answerLot items s).state := h.of_parts rfl

theorem answerFetch_lists (limit : Nat) (h : ListsKept s) : ListsKept (answerFetch limit s).state := by
  unfold answerFetch; split
  · exact h
  · exact h.of_parts rfl

end

/-! ## Every command -/

theorem live_lists {act : State → State} (hact : ∀ t, ListsKept t → ListsKept (act t)) {s t : State}
    (h : live act s = .next t) (hs : ListsKept s) : ListsKept t := by
  have h1 : ListsKept { s with emitted := [] } := hs.of_parts rfl
  rw [live_next h]
  exact (hact _ h1).ite hs

theorem exec_lists (c : Instr) (s t : State) (hon : ∀ a v d f, c ≠ .powerOnReset a v d f) (hoff : c ≠ .powerLoss)
    (hs : ListsKept s) (h : exec c s = .next t) : ListsKept t := by
  cases c
  case powerOnReset a v d f => exact absurd rfl (hon a v d f)
  case powerLoss => exact absurd rfl hoff
  case runSecond => exact live_lists (fun _ => updDelivery_lists Delivery.second rfl rfl) h hs
  case frontRollerPulse => exact live_lists (fun _ => rollerPulse_lists) h hs
  case driveRunningRise =>
    exact live_lists (act := fun t => if t.delivery.driving then t else driveRise t)
      (fun _ k => ListsHold.ite k (driveRise_lists k)) h hs
  case driveRunningFall =>
    exact live_lists (act := fun t => if t.delivery.driving then driveFall t else t)
      (fun _ k => (driveFall_lists k).ite k) h hs
  case pulseLoss => exact live_lists (fun _ => losePulses_lists) h hs
  case headPoll side => exact live_lists (fun _ => pollHead_lists side) h hs
  case pollAnswer side checkOk headOk present =>
    refine live_lists (act := finishPoll side fun h =>
      if checkOk && headOk then validAnswer side h present else missPoll side h)
      (fun _ => finishPoll_lists side fun n t k => ?_) h hs
    split
    · exact validAnswer_lists side n present k
    · exact missPoll_lists side n k
  case answerWaitExpiry side => exact live_lists (fun _ => finishPoll_lists side fun n _ => missPoll_lists side n) h hs
  case drowseDelayExpiry => exact live_lists (fun _ => drowseExpiry_lists) h hs
  case sleepPoll side => exact live_lists (fun _ => sleepPoll_lists side) h hs
  case settleLimitReached n => exact live_lists (fun _ => settleLimit_lists n) h hs
  case lampHoldExpiry n => exact live_lists (fun _ => lampExpiry_lists n) h hs
  case ability a side x d => exact live_lists (fun _ => takeAbility_lists a side x d) h hs
  case position a n d => exact live_lists (fun _ => fromStation_lists a fun r _ => takePosition_lists n d r) h hs
  case arrived a tag => exact live_lists (fun _ => fromStation_lists a fun r _ => takeArrived_lists tag r) h hs
  case result a tag x => exact live_lists (fun _ => fromStation_lists a fun r _ => takeResult_lists tag x r) h hs
  case parked a => exact live_lists (fun _ => fromStation_lists a fun r _ => takeParked_lists r) h hs
  case carriageStatus a => exact live_lists (fun _ => fromStation_lists a fun r _ => takeStatus_lists r) h hs
  case orderTimerExpiry r => exact live_lists (fun _ => orderExpiry_lists r) h hs
  case linkLossTimerExpiry r => exact live_lists (fun _ => linkLossExpiry_lists r) h hs
  case parkTimerExpiry r => exact live_lists (fun _ => parkExpiry_lists r) h hs
  case waitLimitExpiry n => exact live_lists (fun _ => waitExpiry_lists n) h hs
  case transportAccept tag => exact live_lists (fun t => (takeAccept_onlyPlanner tag t).lists) h hs
  case decline tag => exact live_lists (fun t => (takeDecline_onlyPlanner tag t).lists) h hs
  case atSector tag => exact live_lists (fun _ => takeAtSector_lists tag) h hs
  case changed tag => exact live_lists (fun _ => takeChanged_lists tag) h hs
  case aborted tag => exact live_lists (fun _ => takeAborted_lists tag) h hs
  case transportTimerExpiry => exact live_lists (fun _ => transportExpiry_lists) h hs
  case backOffExpiry => exact live_lists (fun t => (backOffExpiry_onlyPlanner t).lists) h hs
  case dofferActiveRise =>
    exact live_lists (act := fun t => if t.doff.dofferActive then t else dofferRise t)
      (fun _ k => ListsHold.ite k (dofferRise_lists k)) h hs
  case dofferActiveFall => exact live_lists (fun _ => updDoff_lists _) h hs
  case doffComplete => exact live_lists (fun _ => doffPulse_lists) h hs
  case storeWriteDone => exact live_lists (fun _ => writeDone_lists) h hs
  case storeWriteFailed => exact live_lists (fun _ => writeFailed_lists) h hs
  case frameSilenceTimeout => exact live_lists (fun _ => receive_lists fun _ => updLine_lists _) h hs
  case frameDiscarded => exact live_lists (fun _ => receive_lists fun _ => updLine_lists _) h hs
  case resyncSilence => exact live_lists (fun _ => endResync_lists) h hs
  case frameIgnored => exact live_lists (fun _ => receive_lists fun _ => updLine_lists _) h hs
  case unknownKind kind => exact live_lists (fun _ => receive_lists fun _ => takeUnknown_lists kind) h hs
  case broadcastIgnored => exact live_lists (fun _ => receive_lists fun _ k => updLine_lists _ (updLine_lists _ k)) h hs
  case replySend => exact live_lists (fun _ => sendReply_lists) h hs
  case replyWithheld => exact live_lists (fun _ => receive_lists fun _ k => k) h hs
  case identify => exact live_lists (fun _ => takeReading_lists _ _ fun _ => rfl) h hs
  case readStatus => exact live_lists (fun _ => takeRequest_lists _ _ fun _ k => k.of_parts rfl) h hs
  case fetchNotices => exact live_lists (fun _ => takeRequest_lists _ _ fun _ => answerFetch_lists _) h hs
  case readSpindles => exact live_lists (fun _ => takeReading_lists _ _ (answerSpindles_state _ _ _)) h hs
  case readPiecingList => exact live_lists (fun _ => takeReading_lists _ _ (answerPiecingList_state _ _)) h hs
  case readGroups => exact live_lists (fun _ => takeReading_lists _ _ (answerGroups_state _)) h hs
  case readRovingCalls => exact live_lists (fun _ => takeReading_lists _ _ fun _ => rfl) h hs
  case readCarriages => exact live_lists (fun _ => takeReading_lists _ _ fun _ => rfl) h hs
  case readDoffState => exact live_lists (fun _ => takeReading_lists _ _ fun _ => rfl) h hs
  case readDoffLog => exact live_lists (fun _ => takeReading_lists _ _ (answerDoffLog_state _)) h hs
  case readShift => exact live_lists (fun _ => takeReading_lists _ _ (answerShift_state _ _)) h hs
  case readFaults => exact live_lists (fun _ => takeReading_lists _ _ fun _ => rfl) h hs
  case clearFaults => exact live_lists (fun _ => takeRequest_lists _ _ fun _ => answerClear_lists _) h hs
  case readSettings => exact live_lists (fun _ => takeReading_lists _ _ (answerReadSettings_state _ _)) h hs
  case writeSettings => exact live_lists (fun _ => takeRequest_lists _ _ fun _ => answerSettings_lists _ _) h hs
  case writeLot => exact live_lists (fun _ => takeRequest_lists _ _ fun _ => answerLot_lists _) h hs
  case readZones => exact live_lists (fun _ => takeReading_lists _ _ (answerZones_state _)) h hs
  case writeZone => exact live_lists (fun _ => takeRequest_lists _ _ fun _ => answerZone_lists _ _ _ _ _ _) h hs
  case pieceSpindle => exact live_lists (fun _ => takeRequest_lists _ _ fun _ => answerPiece_lists _) h hs
  case lockSpindle => exact live_lists (fun _ => takeRequest_lists _ _ fun _ => answerLock_lists _) h hs
  case releaseSpindle => exact live_lists (fun _ => takeRequest_lists _ _ fun _ => answerRelease_lists _) h hs
  case callRoving => exact live_lists (fun _ => takeRequest_lists _ _ fun _ => answerCall_lists _) h hs
  case declareRoving => exact live_lists (fun _ => takeRequest_lists _ _ fun _ => answerDeclare_lists _ _) h hs
  case holdDoff => exact live_lists (fun _ => takeRequest_lists _ _ fun _ => answerHold_lists) h hs
  case resumeDoff => exact live_lists (fun _ => takeRequest_lists _ _ fun _ => answerResume_lists) h hs
  case doffNow => exact live_lists (fun _ => takeRequest_lists _ _ fun _ => answerDoffNow_lists) h hs
  case setDoffProgress => exact live_lists (fun _ => takeRequest_lists _ _ fun _ => answerProgress_lists _) h hs
  case releaseCarriage => exact live_lists (fun _ => takeRequest_lists _ _ fun _ => answerReleaseCarriage_lists _) h hs
  case closeShift broadcast body =>
    cases broadcast
    · exact live_lists (fun _ => takeRequest_lists _ _ fun _ => closeShiftNow_lists) h hs
    · exact live_lists (fun _ => takeBroadcast_lists _ fun _ => closeShiftNow_lists) h hs
  case setClock broadcast body =>
    have clock (t : State) (k : ListsKept t) := updDelivery_lists
      (fun dl => { dl with mill := bodyNumber body 0 4, clockSet := true }) rfl rfl k
    cases broadcast
    · exact live_lists (fun _ => takeRequest_lists _ _ clock) h hs
    · exact live_lists (fun _ => takeBroadcast_lists _ clock) h hs
  case restart => exact live_lists (fun _ => takeReading_lists _ _ fun _ => rfl) h hs
  case replyEnd => exact live_lists (fun _ => finishReply_lists) h hs
  case carriageLinkDiscard cause => exact live_lists (fun _ => takeDiscard_lists cause) h hs
  case transportLinkDiscard => exact live_lists (fun t => (discardTransport_onlyPlanner t).lists) h hs

/-! ## Power on (R47, R71, R186) -/

theorem powerOn_lists (st : Store) (a v : Nat) (d f : Bool) (q : List Instr) (hs : storeOk st) : ListsKept (powerOn st a v d f q) := by
  have hf := framed_blocksAtPowerOn _ _ a v d f q (storeOk_cutOff hs) (loadedImage_geometryOk (storeOk_cutOff hs))
  have h : ListsKept (blocksAtPowerOn (loadedImage st.cutOff) st.cutOff a v d f q) := by
    refine lists_of_unconcerned hf.1 rfl rfl (fun sp hsp => ?_) rfl
    obtain ⟨n, rfl⟩ := mem_blocksAtPowerOn hsp
    exact ⟨rebuiltState_unbroken _ _ _ _, rfl⟩
  unfold powerOn; dsimp only; split
  · exact h
  · exact beginWrite_lists (raiseFault_lists _ _ _ h)

/-! ## The invariant of the step -/

/-- R52: what the lists hold, said of one spindle. -/
theorem ListsHold.listedSound {s : State} (h : ListsKept s) (n : Nat) : listedSound s n := by
  unfold Machine.listedSound; split
  · rename_i hb
    refine ⟨fun hl => ?_, fun hu => h.placed n hb hu (Set.notMem_empty n)⟩
    obtain ⟨e, he, rfl⟩ := listed_iff.1 hl
    obtain ⟨-, -, -, hu⟩ := h.entries _ e he
    exact hu
  · rename_i hb
    exact (h.apart_of_state (Bool.eq_false_iff.2 hb)).unlisted

theorem mem_allSpindles_of_hasSpindle {s : State} {n : Nat} (ht : tableOk s) (hn : hasSpindle s n = true) : n ∈ allSpindles s := by
  obtain ⟨h1, h2⟩ : 1 ≤ n ∧ n ≤ spindleCount s := by simpa [isSpindle] using isSpindle_of_hasSpindle ht hn
  exact List.mem_range'_1.2 ⟨h1, by omega⟩

theorem sideOf_mem_configuredSides {s : State} {n : Nat} (ht : tableOk s) (hn : hasSpindle s n = true) :
    sideOf s n ∈ configuredSides s := by
  obtain ⟨hs, hk, -⟩ := id ht
  obtain ⟨h1, h2⟩ : 1 ≤ n ∧ n ≤ spindleCount s := by simpa [isSpindle] using isSpindle_of_hasSpindle ht hn
  rcases hs with hs | hs
  · have hc : spindleCount s = 24 * (s.delivery.sides * s.delivery.sectors) := rfl
    rw [hs] at hc
    have hle : sectorOf n ≤ s.delivery.sectors := by simp only [sectorOf, Config.sectorSpindles]; omega
    simp [configuredSides, hs, sideOf, sideOfSector, hle]
  · cases sideOf s n <;> simp [configuredSides, hs]

/-- R49 to R55, R175: the statement's invariant, with the geometry of a powered board. -/
theorem listsSound_iff (s : State) : listsSound s ↔ storeOk s.store ∧ (s.powered = true → framed s ∧ ListsKept s) := by
  constructor
  · rintro ⟨⟨hst, hg⟩, hl⟩
    refine ⟨hst, fun hp => ?_⟩
    obtain ⟨ht, hr⟩ := hg hp
    obtain ⟨hoa, hob, hra, hrb, hea, heb, hls, hov, hz⟩ := hl hp
    have entries (side : Side) (e : Entry) (he : e ∈ pieceList s side) : entrySound s side e := by
      cases side
      · exact hea e he
      · exact heb e he
    have marked (n : Nat) (hu : (spindle s n).unlisted = true) : (spindle s n).state.isBroken = true := by
      by_contra hb
      cases hn : hasSpindle s n
      · rw [spindle_of_none hn] at hu; cases hu
      · have := hls n (mem_allSpindles_of_hasSpindle ht hn)
        rw [listedSound, if_neg hb, hu] at this; cases this
    refine ⟨⟨ht, hst, hr⟩, ht, fun side => by cases side <;> assumption, fun side => by cases side <;> assumption, entries, marked,
      fun n hb hu _ => ?_, fun _ hn => (nomatch hn), fun side _ => ?_, hz⟩
    · have := hls n (mem_allSpindles_of_hasSpindle ht (hasSpindle_of_broken hb))
      rw [listedSound, if_pos hb] at this
      exact this.2 hu
    · by_cases hside : side ∈ configuredSides s
      · exact hov side hside
      · refine .inl (List.eq_nil_iff_forall_not_mem.2 fun n hn => hside ?_)
        obtain ⟨hn, hu⟩ := mem_unlistedOf.1 hn
        rw [← sideOf_of_mem_spindlesOfSide hn]
        exact sideOf_mem_configuredSides ht (hasSpindle_of_broken (marked n hu))
  · rintro ⟨hst, h⟩
    refine ⟨⟨hst, fun hp => ⟨(h hp).1.1, (h hp).1.2.2⟩⟩, fun hp => ?_⟩
    obtain ⟨-, k⟩ := h hp
    exact ⟨k.order .a, k.order .b, k.room .a, k.room .b, k.entries .a, k.entries .b, fun n _ => k.listedSound n,
      fun side _ => k.full side nofun, k.withheld⟩

/-- Settles O8: every command keeps the lists (`exec_lists`), power-on sets up empty ones (`powerOn_lists`), and the geometry they
rest on is kept with them. -/
theorem stepKeepsTheLists : Obligations.StepKeepsTheLists := by
  intro s t hs h
  refine step_cases hs (fun _ _ hb => hb) (fun s a v d f hb => ?_) (fun s hb => ?_) (fun c s t hon hoff hp hb hx => ?_) h
  · obtain ⟨hst, -⟩ := (listsSound_iff s).1 hb
    have hf := framed_powerOn s.store a v d f s.pending hst
    exact (listsSound_iff _).2 ⟨hf.2.1, fun _ => ⟨hf, powerOn_lists _ a v d f _ hst⟩⟩
  · obtain ⟨hst, -⟩ := (listsSound_iff s).1 hb
    exact (listsSound_iff _).2 ⟨storeOk_cutOff hst, fun hp => nomatch hp⟩
  · obtain ⟨-, hk⟩ := (listsSound_iff s).1 hb
    obtain ⟨hf, -⟩ := exec_keeps (fun _ => True) (fun _ _ _ _ _ => trivial) (fun _ _ => trivial) (fun _ _ => trivial)
      (fun _ _ _ => trivial) (fun _ _ => trivial) (fun _ _ _ => trivial) c s t hon hoff hp (hk hp).1 trivial hx
    exact (listsSound_iff _).2 ⟨hf.2.1, fun _ => ⟨hf, exec_lists c s t hon hoff (hk hp).2 hx⟩⟩

end Sys2Proof.Machine

/-! # Piece Spindle (R59, R60) -/

namespace Sys2Proof.Machine

open Sys2Proof

/-! ## The best of a list -/

/-- R82: the one of a list that is better than every other is picked. -/
theorem pick_eq_of_best {α : Type} {better : α → α → Bool} (hasym : ∀ a b, better a b = true → better b a = false) {e : α} :
    ∀ {l : List α}, e ∈ l → (∀ f ∈ l, f = e ∨ better e f = true) → pick better l = some e
  | x :: l, he, hb => by
    have hbl : ∀ f ∈ l, f = e ∨ better e f = true := fun f hf => hb f (List.mem_cons_of_mem x hf)
    unfold pick
    rcases List.mem_cons.1 he with rfl | he
    · split
      · rfl
      · rename_i y hy
        rcases hbl y (pick_mem hy) with rfl | h
        · exact ite_self _
        · rw [if_neg (by rw [hasym _ _ h]; exact Bool.false_ne_true)]
    · rw [pick_eq_of_best hasym he hbl]
      rcases hb x List.mem_cons_self with rfl | h
      · exact ite_self _
      · exact if_pos h

theorem youngerEntry_iff (a b : Entry) :
    youngerEntry a b = true ↔ b.time < a.time ∨ b.time = a.time ∧ b.spindle < a.spindle := by simp [youngerEntry]

theorem youngerEntry_asymm (a b : Entry) (h : youngerEntry a b = true) : youngerEntry b a = false := by
  rw [Bool.eq_false_iff, ne_eq, youngerEntry_iff]
  rw [youngerEntry_iff] at h
  omega

/-- R60: the youngest entry that is not urgent. -/
theorem youngestEntry_eq {s : State} {side : Side} {e : Entry} (he : e ∈ pieceList s side) (hu : e.urgent = false)
    (hy : ∀ f ∈ pieceList s side, f.urgent = false → f = e ∨ f.time < e.time ∨ (f.time = e.time ∧ f.spindle < e.spindle)) :
    youngestEntry s side = some e := by
  refine pick_eq_of_best youngerEntry_asymm (List.mem_filter.2 ⟨he, by rw [hu]; rfl⟩) fun f hf => ?_
  obtain ⟨hf, hfu⟩ := List.mem_filter.1 hf
  exact (hy f hf (by simpa using hfu)).imp_right (youngerEntry_iff e f).2

/-- R60: with every entry urgent there is none. -/
theorem youngestEntry_none {s : State} {side : Side} (h : ∀ e ∈ pieceList s side, e.urgent = true) :
    youngestEntry s side = none := by
  have : (pieceList s side).filter (fun e => !e.urgent) = [] := List.filter_eq_nil_iff.2 fun e he => by rw [h e he]; exact nofun
  rw [youngestEntry, this]; rfl

/-! ## An entry displaced -/

/-- R60: the state in which an urgent entry has taken the place of another. -/
theorem makeEntry_displaceEntry {s : State} {n : Nat} {e : Entry} {c : BreakCause} {t : Nat}
    (hst : (spindle s n).state = .broken c t) (hs : sideOf s e.spindle = sideOf s n) :
    makeEntry n true (displaceEntry e s) =
      setPieceList (sideOf s n)
        (insertEntry { spindle := n, cause := c, time := t, urgent := true }
          ((pieceList s (sideOf s n)).filter fun f => f.spindle != e.spindle))
        (updSpindle n (fun x => { x with unlisted := false }) (updSpindle e.spindle (fun x => { x with unlisted := true }) s)) := by
  have hst' : (spindle (displaceEntry e s) n).state = .broken c t := by
    rw [displaceEntry, state_marked, state_dropFromList]; exact hst
  rw [makeEntry_eq true hst', sideOf_displaceEntry, ← hs, pieceList_displaceEntry, displaceEntry, dropFromList]
  cases sideOf s e.spindle <;> simp only [setPieceList, updSpindle, modifyNth_modifyNth]

/-! ## The request -/

theorem exec_pieceSpindle {s : State} (hi lo : Byte) (h : lineReady s) :
    exec (.pieceSpindle [hi, lo]) s = .next (hold 0x13 (answerPiece (hi.toNat * 256 + lo.toNat) { s with emitted := [] })) := by
  refine (takeRequest_ready 0x13 _ _ s h).trans ?_
  rw [show bodyNumber [hi, lo] 0 2 = hi.toNat * 256 + lo.toNat from numberOf_two hi lo]
  rfl

theorem answerPiece_of_state {s : State} {n : Nat} {st : SpindleState} (hi : isSpindle s n = true) :
    (spindle s n).state = st → answerPiece n s =
      match st with
      | .withheld => refuse .withheld s
      | .broken _ _ => pieceBroken n s
      | _ => refuse .wrongState s := by
  rintro rfl
  refine (if_pos hi).trans ?_
  cases (spindle s n).state <;> rfl

section
variable {s : State} {n : Nat} {c : BreakCause} {t : Nat}

theorem answerPiece_listed (hi : isSpindle s n = true) (hst : (spindle s n).state = .broken c t) (hl : listed s n = true) :
    answerPiece n s =
      taken (setPieceList (sideOf s n)
        ((pieceList s (sideOf s n)).map fun e => if e.spindle = n then { e with urgent := true } else e) s) :=
  (answerPiece_of_state hi hst).trans (if_pos hl)

theorem answerPiece_unlisted (hi : isSpindle s n = true) (hst : (spindle s n).state = .broken c t) (hl : ¬ listed s n = true) :
    answerPiece n s =
      match youngestEntry s (sideOf s n) with
      | some e => taken (makeEntry n true (displaceEntry e s))
      | none => refuse .wrongState s := (answerPiece_of_state hi hst).trans (if_neg hl)

theorem answerPiece_displaces {e : Entry} (hi : isSpindle s n = true) (hst : (spindle s n).state = .broken c t)
    (hl : ¬ listed s n = true) (hy : youngestEntry s (sideOf s n) = some e) (hs : sideOf s e.spindle = sideOf s n) :
    answerPiece n s =
      taken (setPieceList (sideOf s n)
        (insertEntry { spindle := n, cause := c, time := t, urgent := true }
          ((pieceList s (sideOf s n)).filter fun f => f.spindle != e.spindle))
        (updSpindle n (fun x => { x with unlisted := false }) (updSpindle e.spindle (fun x => { x with unlisted := true }) s))) := by
  rw [answerPiece_unlisted hi hst hl, hy]
  exact congrArg taken (makeEntry_displaceEntry hst hs)

theorem answerPiece_all_urgent (hi : isSpindle s n = true) (hst : (spindle s n).state = .broken c t)
    (hl : ¬ listed s n = true) (hy : youngestEntry s (sideOf s n) = none) : answerPiece n s = refuse .wrongState s := by
  rw [answerPiece_unlisted hi hst hl, hy]

end

theorem hold_setPieceList (kind : Nat) (side : Side) (l : List Entry) (s : State) :
    hold kind (taken (setPieceList side l { s with emitted := [] })) = withReply kind okBody .none (setPieceList side l s) := by
  cases side <;> rfl

/-- Settles O23: the answer follows the spindle's state; an unlisted spindle takes the place of the youngest entry that is not urgent
(`youngestEntry_eq`, `makeEntry_displaceEntry`). -/
theorem pieceSpindleHurriesOrDisplaces : Obligations.PieceSpindleHurriesOrDisplaces := by
  unfold Obligations.PieceSpindleHurriesOrDisplaces
  intro s hi lo h hside n side answers
  have answered {a : Answer} {t : State} (ha : answerPiece n { s with emitted := [] } = a) (ht : hold 0x13 a = t) : answers t := by
    rw [← ht, ← ha]; exact exec_pieceSpindle hi lo h
  split
  · rename_i hno
    exact answered (if_neg (Bool.eq_false_iff.1 hno)) rfl
  · rename_i hno
    have hn : isSpindle { s with emitted := [] } n = true := (Bool.not_eq_false _).mp hno
    cases hst : (spindle s n).state with
    | broken c t =>
      dsimp only; split
      · rename_i hl
        exact answered (answerPiece_listed hn hst hl) (hold_setPieceList _ _ _ s)
      · rename_i hl
        refine ⟨fun e he hu hy => ?_, fun hu => ?_⟩
        · exact answered (answerPiece_displaces hn hst hl (youngestEntry_eq (s := s) he hu hy) (hside e he))
            (hold_setPieceList _ _ _ (updSpindle n _ (updSpindle e.spindle _ s)))
        · exact answered (answerPiece_all_urgent hn hst hl (youngestEntry_none (s := s) hu)) rfl
    | _ => exact answered (answerPiece_of_state hn hst) rfl

end Sys2Proof.Machine

/-! # The plain readings (R68, R96, R130, R131, R146, R155, R170, R174, R183, R193, R206) -/

namespace Sys2Proof.Machine

open Sys2Proof

/-! ## A reading and its two answers -/

/-- R202: the request is answered OK and changes nothing. -/
def Answer.Reads (a : Answer) (s : State) : Prop := ∃ body, a = reading body s ∧ body.head? = some 0

/-- R201, R202: a reading that refuses the operands of which `p` holds as OUT_OF_RANGE, and takes every other. -/
structure RefusesWhen (p : Prop) (a : Answer) (s : State) : Prop where
  refuses : p → a = refuse .outOfRange s
  reads : ¬ p → a.Reads s

section
variable {s : State} {c : Instr} {kind : Nat} {a : Answer} {p : Prop}

/-- R201: a reading's answer waits as the reply, and all else stands. -/
theorem answered_of_reads (hx : exec c s = .next (hold kind a)) (h : a.Reads { s with emitted := [] }) :
    ∃ body, exec c s = .next (withReply kind body .none s) ∧ body.head? = some 0 := by
  obtain ⟨body, rfl, hb⟩ := h
  exact ⟨body, hx, hb⟩

theorem answered_of_refuses (hx : exec c s = .next (hold kind a)) (h : RefusesWhen p a { s with emitted := [] }) :
    ∃ body, exec c s = .next (withReply kind body .none s) ∧ (body.head? = some 0 ∨ body = [4]) := by
  by_cases hp : p
  · obtain rfl := h.refuses hp
    exact ⟨[4], hx, .inr rfl⟩
  · obtain ⟨body, hb, h0⟩ := answered_of_reads hx (h.reads hp)
    exact ⟨body, hb, .inl h0⟩

theorem refused_iff (hx : exec c s = .next (hold kind a)) (h : RefusesWhen p a { s with emitted := [] }) :
    exec c s = .next (withReply kind [4] .none s) ↔ p := by
  constructor
  · intro hr
    by_contra hp
    obtain ⟨body, hb, h0⟩ := answered_of_reads hx (h.reads hp)
    rw [hb] at hr
    injection hr with hr
    have hbody : (withReply kind body .none s).line.reply = (withReply kind [4] .none s).line.reply := by rw [hr]
    simp only [withReply, Option.some.injEq, Reply.mk.injEq] at hbody
    rw [hbody.2.1] at h0
    exact absurd h0 (by decide)
  · intro hp
    obtain rfl := h.refuses hp
    exact hx

end

/-! ## What each reading refuses -/

section
variable {s : State}

theorem RefusesWhen.congr {p q : Prop} {a : Answer} (h : RefusesWhen p a s) (hpq : p ↔ q) : RefusesWhen q a s :=
  ⟨fun k => h.refuses (hpq.2 k), fun k => h.reads fun hp => k (hpq.1 hp)⟩

/-- A block that answers by one test of its operands. -/
theorem refusesWhen_ite {p : Prop} [Decidable p] {body : List Byte} (hb : body.head? = some 0) :
    RefusesWhen p (if p then refuse .outOfRange s else reading body s) s :=
  ⟨fun hp => if_pos hp, fun hp => ⟨body, if_neg hp, hb⟩⟩

theorem head?_pagedBody (s : State) (before : List Byte) (items : List (List Byte)) : (pagedBody s before items).head? = some 0 := rfl

theorem answerGroups_refuses (g : Nat) : RefusesWhen (g ≠ 0 ∧ isGroup s g = false) (answerGroups g s) s where
  refuses := fun ⟨h0, hg⟩ => if_neg (by simp [h0, hg])
  reads h := ⟨_, if_pos (by simpa [or_iff_not_imp_left] using h), head?_pagedBody _ _ _⟩

theorem answerDoffLog_refuses (first : Nat) : RefusesWhen (16 ≤ first) (answerDoffLog first s) s := refusesWhen_ite (head?_pagedBody _ _ _)

theorem answerReadSettings_refuses (source first : Nat) :
    RefusesWhen (1 < source ∨ first = 0 ∨ 34 < first) (answerReadSettings source first s) s :=
  (refusesWhen_ite (head?_pagedBody _ _ _)).congr (by simp [or_assoc])

theorem shiftView_eq_none (index : Nat) : shiftView s index = none ↔ s.ring.length < index := by
  cases index with
  | zero => simp [shiftView]
  | succ k => simp [shiftView]

theorem answerShift_refuses (index first : Nat) :
    RefusesWhen (3 < index ∨ s.ring.length < index ∨ first = 0 ∨ 9 < first) (answerShift index first s) s := by
  unfold answerShift
  split
  · rename_i h
    refine ⟨fun _ => rfl, fun k => absurd ?_ k⟩
    simp only [Bool.or_eq_true, decide_eq_true_eq] at h
    tauto
  · rename_i h
    simp only [Bool.or_eq_true, decide_eq_true_eq] at h
    split
    · rename_i v hv
      refine ⟨fun k => ?_, fun _ => ⟨_, rfl, rfl⟩⟩
      have hn : ¬ s.ring.length < index := fun k => by rw [(shiftView_eq_none index).2 k] at hv; cases hv
      tauto
    · rename_i hv
      exact ⟨fun _ => rfl, fun k => absurd (.inr (.inl ((shiftView_eq_none index).1 hv))) k⟩

theorem answerZones_refuses (code : Nat) : RefusesWhen (configuredSideOfCode s code = none) (answerZones code s) s := by
  unfold answerZones
  split
  · rename_i h
    exact ⟨fun _ => rfl, fun k => absurd h k⟩
  · rename_i side h
    exact ⟨fun k => absurd (h.symm.trans k) nofun, fun _ => ⟨_, rfl, rfl⟩⟩

theorem configuredSideOfCode_some {code : Nat} {side : Side} (h : configuredSideOfCode s code = some side) :
    sideOfCode code = some side ∧ sideConfigured s side = true := by
  unfold configuredSideOfCode at h
  split at h
  · rename_i x hx
    split at h
    · rename_i hc; cases h; exact ⟨hx, hc⟩
    · cases h
  · cases h

/-- R1: the range of a configured side is that of its spindles. -/
theorem side_range_iff {side : Side} {n : Nat} (ht : tableOk s) (hc : sideConfigured s side = true) :
    firstSpindle s side ≤ n ∧ n ≤ lastSpindle s side ↔ isSpindle s n = true ∧ sideOf s n = side := by
  obtain ⟨-, hk, -⟩ := id ht
  have hmem : firstSpindle s side ≤ n ∧ n ≤ lastSpindle s side ↔ n ∈ spindlesOfSide s side := by
    rw [spindlesOfSide, List.mem_range'_1, lastSpindle, Config.sectorSpindles]
    omega
  rw [hmem]
  refine ⟨fun h => ⟨?_, sideOf_of_mem_spindlesOfSide h⟩, fun ⟨hn, hs⟩ => hs ▸ mem_spindlesOfSide ht hn⟩
  obtain ⟨h1, h2⟩ := List.mem_range'_1.1 h
  have hcount : spindleCount s = 24 * (s.delivery.sides * s.delivery.sectors) := rfl
  simp only [firstSpindle, Config.sectorSpindles] at h1 h2
  rw [isSpindle, Bool.and_eq_true, decide_eq_true_eq, decide_eq_true_eq, hcount]
  cases side with
  | a =>
    simp only [firstSector] at h1 h2
    have : s.delivery.sectors ≤ s.delivery.sides * s.delivery.sectors := Nat.le_mul_of_pos_left _ (by obtain ⟨h, -⟩ := ht; omega)
    omega
  | b =>
    have h2s : s.delivery.sides = 2 := by simpa [sideConfigured] using hc
    simp only [firstSector] at h1 h2
    rw [h2s]; omega

/-- R68: a first spindle outside the range of the side that is read. -/
def outsideSide (s : State) (code first : Nat) : Prop :=
  ∀ side, configuredSideOfCode s code = some side → first ≠ 0 ∧ ¬ (firstSpindle s side ≤ first ∧ first ≤ lastSpindle s side)

theorem answerPiecingList_refuses (code first : Nat) : RefusesWhen (outsideSide s code first) (answerPiecingList code first s) s := by
  unfold answerPiecingList
  split
  · rename_i h
    have hout : outsideSide s code first := fun side e => nomatch h.symm.trans e
    exact ⟨fun _ => rfl, fun k => absurd hout k⟩
  · rename_i side h
    have hout : outsideSide s code first ↔ first ≠ 0 ∧ ¬ (firstSpindle s side ≤ first ∧ first ≤ lastSpindle s side) :=
      ⟨fun k => k side h, fun k x e => by cases h.symm.trans e; exact k⟩
    refine RefusesWhen.congr ?_ hout.symm
    refine ⟨fun ⟨h0, hr⟩ => if_neg (by simpa [h0] using hr), fun k => ⟨_, if_pos ?_, head?_pagedBody _ _ _⟩⟩
    simpa [or_iff_not_imp_left] using k

theorem outsideSide_iff {code first : Nat} (ht : tableOk s) :
    outsideSide s code first ↔
      configuredSideOfCode s code = none ∨
        (first ≠ 0 ∧ (isSpindle s first = false ∨ some (sideOf s first) ≠ sideOfCode code)) := by
  cases h : configuredSideOfCode s code with
  | none => exact ⟨fun _ => .inl rfl, fun _ side e => nomatch h.symm.trans e⟩
  | some side =>
    obtain ⟨hcode, hc⟩ := configuredSideOfCode_some h
    have hout : outsideSide s code first ↔ first ≠ 0 ∧ ¬ (isSpindle s first = true ∧ sideOf s first = side) := by
      rw [← side_range_iff ht hc]
      exact ⟨fun k => k side h, fun k x e => by cases h.symm.trans e; exact k⟩
    rw [hout, hcode, not_and_or, Bool.not_eq_true]
    simp

end

/-! ## The requests -/

theorem bodyNumber_first (a : Byte) (l : List Byte) : bodyNumber (a :: l) 0 1 = a.toNat := by
  simp [bodyNumber, numberOf]

theorem bodyNumber_second (a b : Byte) (l : List Byte) : bodyNumber (a :: b :: l) 1 1 = b.toNat := by
  simp [bodyNumber, numberOf]

theorem bodyNumber_pair (a hi lo : Byte) : bodyNumber [a, hi, lo] 1 2 = hi.toNat * 256 + lo.toNat := by
  simp [bodyNumber, numberOf]

/-- The answer of the requests that read alone, and of Fetch Notices and Read Spindles, by kind. -/
def readingOf (kind : Nat) (body : List Byte) (s : State) : Answer :=
  match kind with
  | 0x01 => reading (identifyBody s) s
  | 0x03 => answerFetch (bodyNumber body 0 1) s
  | 0x04 => answerSpindles (bodyNumber body 0 2) (bodyNumber body 2 1) (bodyNumber body 3 1) s
  | 0x05 => answerPiecingList (bodyNumber body 0 1) (bodyNumber body 1 2) s
  | 0x06 => answerGroups (bodyNumber body 0 1) s
  | 0x07 => reading (rovingCallsBody s (bodyNumber body 0 1)) s
  | 0x08 => reading (carriagesBody s) s
  | 0x09 => reading (doffStateBody s) s
  | 0x0A => answerDoffLog (bodyNumber body 0 1) s
  | 0x0B => answerShift (bodyNumber body 0 1) (bodyNumber body 1 1) s
  | 0x0C => reading (faultsBody s) s
  | 0x0E => answerReadSettings (bodyNumber body 0 1) (bodyNumber body 1 1) s
  | _ => answerZones (bodyNumber body 0 1) s

/-- R201: such a request of a fitting length is answered by its block, and of another length refused. -/
theorem exec_reading {c : Instr} {kind : Nat} {s : State} (h : lineReady s) (hc : kindOfRequest c = some kind)
    (hk : kind ∈ [0x01, 0x03, 0x04, 0x05, 0x06, 0x07, 0x08, 0x09, 0x0A, 0x0B, 0x0C, 0x0E, 0x11]) :
    exec c s =
      .next (hold kind
        (if lengthSuits kind (bodyOfRequest c) then readingOf kind (bodyOfRequest c) { s with emitted := [] }
         else refuse .badLength (countBadRequest { s with emitted := [] }))) := by
  cases c
  case identify => cases hc; exact takeRequest_ready 0x01 _ _ s h
  case fetchNotices => cases hc; exact takeRequest_ready 0x03 _ _ s h
  case readSpindles => cases hc; exact takeRequest_ready 0x04 _ _ s h
  case readPiecingList => cases hc; exact takeRequest_ready 0x05 _ _ s h
  case readGroups => cases hc; exact takeRequest_ready 0x06 _ _ s h
  case readRovingCalls => cases hc; exact takeRequest_ready 0x07 _ _ s h
  case readCarriages => cases hc; exact takeRequest_ready 0x08 _ _ s h
  case readDoffState => cases hc; exact takeRequest_ready 0x09 _ _ s h
  case readDoffLog => cases hc; exact takeRequest_ready 0x0A _ _ s h
  case readShift => cases hc; exact takeRequest_ready 0x0B _ _ s h
  case readFaults => cases hc; exact takeRequest_ready 0x0C _ _ s h
  case readSettings => cases hc; exact takeRequest_ready 0x0E _ _ s h
  case readZones => cases hc; exact takeRequest_ready 0x11 _ _ s h
  case closeShift b _ => cases b <;> cases hc; exact absurd hk (by decide)
  case setClock b _ => cases b <;> cases hc; exact absurd hk (by decide)
  all_goals cases hc
  all_goals exact absurd hk (by decide)

/-! ## The readings that are never refused -/

theorem head?_append_of_head? {l : List Byte} {x : Byte} (h : l.head? = some x) (r : List Byte) : (l ++ r).head? = some x := by
  simp [h]

theorem head?_identifyBody (s : State) : (identifyBody s).head? = some 0 := by
  unfold identifyBody
  repeat refine head?_append_of_head? ?_ _
  rfl

theorem head?_carriagesBody (s : State) : (carriagesBody s).head? = some 0 := by
  unfold carriagesBody
  repeat refine head?_append_of_head? ?_ _
  rfl

theorem head?_doffStateBody (s : State) : (doffStateBody s).head? = some 0 := by
  unfold doffStateBody; dsimp only
  repeat refine head?_append_of_head? ?_ _
  rfl

theorem head?_faultsBody (s : State) : (faultsBody s).head? = some 0 := by
  unfold faultsBody
  repeat refine head?_append_of_head? ?_ _
  rfl

theorem readingOf_reads {kind : Nat} (body : List Byte) (s : State) (hk : kind ∈ [0x01, 0x07, 0x08, 0x09, 0x0C]) :
    (readingOf kind body s).Reads s := by
  simp only [List.mem_cons, List.not_mem_nil, or_false] at hk
  rcases hk with rfl | rfl | rfl | rfl | rfl
  · exact ⟨identifyBody s, rfl, head?_identifyBody s⟩
  · exact ⟨_, rfl, head?_pagedBody _ _ _⟩
  · exact ⟨carriagesBody s, rfl, head?_carriagesBody s⟩
  · exact ⟨doffStateBody s, rfl, head?_doffStateBody s⟩
  · exact ⟨faultsBody s, rfl, head?_faultsBody s⟩

theorem readingOf_refuses {kind : Nat} (body : List Byte) (s : State) (hk : kind ∈ [0x05, 0x06, 0x0A, 0x0B, 0x0E, 0x11]) :
    ∃ p, RefusesWhen p (readingOf kind body s) s := by
  simp only [List.mem_cons, List.not_mem_nil, or_false] at hk
  rcases hk with rfl | rfl | rfl | rfl | rfl | rfl
  · exact ⟨_, answerPiecingList_refuses _ _⟩
  · exact ⟨_, answerGroups_refuses _⟩
  · exact ⟨_, answerDoffLog_refuses _⟩
  · exact ⟨_, answerShift_refuses _ _⟩
  · exact ⟨_, answerReadSettings_refuses _ _⟩
  · exact ⟨_, answerZones_refuses _⟩

/-- R201: a reading of a fitting length is answered, OK or OUT_OF_RANGE, and changes nothing. -/
theorem reading_answers (c : Instr) (kind : Nat) (s : State) (h : lineReady s) (hc : kindOfRequest c = some kind)
    (hk : kind ∈ [0x01, 0x05, 0x06, 0x07, 0x08, 0x09, 0x0A, 0x0B, 0x0C, 0x0E, 0x11]) (hl : lengthSuits kind (bodyOfRequest c) = true) :
    ∃ body, exec c s = .next (withReply kind body .none s) ∧
      if kind ∈ [0x01, 0x07, 0x08, 0x09, 0x0C] then body.head? = some 0 else body.head? = some 0 ∨ body = [4] := by
  have hall : kind ∈ [0x01, 0x03, 0x04, 0x05, 0x06, 0x07, 0x08, 0x09, 0x0A, 0x0B, 0x0C, 0x0E, 0x11] := by
    simp only [List.mem_cons, List.not_mem_nil, or_false] at hk ⊢
    omega
  have hx := exec_reading h hc hall
  rw [if_pos hl] at hx
  split
  · rename_i hp
    exact answered_of_reads hx (readingOf_reads _ _ hp)
  · rename_i hp
    have hr : kind ∈ [0x05, 0x06, 0x0A, 0x0B, 0x0E, 0x11] := by
      simp only [List.mem_cons, List.not_mem_nil, or_false] at hk hp ⊢
      omega
    obtain ⟨p, hr⟩ := readingOf_refuses (bodyOfRequest c) { s with emitted := [] } hr
    exact answered_of_refuses hx hr

/-- Settles O51: every reading's answer is a reading or one refusal (`reading_answers`), and each block's test of its operands is read
off (`refused_iff`). -/
theorem readingsChangeNothing : Obligations.ReadingsChangeNothing := by
  unfold Obligations.ReadingsChangeNothing
  refine ⟨reading_answers, ?_⟩
  intro s a b hi lo h ht first refused
  have exec_of (c : Instr) (kind : Nat) (hc : kindOfRequest c = some kind)
      (hk : kind ∈ [0x01, 0x03, 0x04, 0x05, 0x06, 0x07, 0x08, 0x09, 0x0A, 0x0B, 0x0C, 0x0E, 0x11])
      (hl : lengthSuits kind (bodyOfRequest c) = true) :
      exec c s = .next (hold kind (readingOf kind (bodyOfRequest c) { s with emitted := [] })) := by
    rw [exec_reading h hc hk, if_pos hl]
  have hzero (x : Byte) : x.toNat = 0 ↔ x = 0 := by bv_omega
  refine ⟨?_, ?_, ?_, ?_, ?_, ?_⟩
  · rw [← outsideSide_iff ht, ← bodyNumber_first a [hi, lo], show first = _ from (bodyNumber_pair a hi lo).symm]
    exact refused_iff (exec_of _ 0x05 rfl (by decide) rfl) (answerPiecingList_refuses (s := { s with emitted := [] }) _ _)
  · rw [ne_eq, ← hzero, ← bodyNumber_first a []]
    exact refused_iff (exec_of _ 0x06 rfl (by decide) rfl) (answerGroups_refuses (s := { s with emitted := [] }) _)
  · rw [← bodyNumber_first a []]
    exact refused_iff (exec_of _ 0x0A rfl (by decide) rfl) (answerDoffLog_refuses (s := { s with emitted := [] }) _)
  · rw [← hzero, ← bodyNumber_first a [b], ← bodyNumber_second a b []]
    exact refused_iff (exec_of _ 0x0B rfl (by decide) rfl) (answerShift_refuses (s := { s with emitted := [] }) _ _)
  · rw [← hzero, ← bodyNumber_first a [b], ← bodyNumber_second a b []]
    exact refused_iff (exec_of _ 0x0E rfl (by decide) rfl) (answerReadSettings_refuses (s := { s with emitted := [] }) _ _)
  · rw [← bodyNumber_first a []]
    exact refused_iff (exec_of _ 0x11 rfl (by decide) rfl) (answerZones_refuses (s := { s with emitted := [] }) _)

end Sys2Proof.Machine

/-! # The sizes of replies and of the records in them (R198, R201, R204, R209 to R211) -/

namespace Sys2Proof.Machine

open Sys2Proof

/-! ## Fields (R208) -/

@[simp] theorem length_bytesOf : ∀ k n : Nat, (bytesOf k n).length = k
  | 0, _ => rfl
  | k + 1, n => congrArg (· + 1) (length_bytesOf k n)

@[simp] theorem length_field (k n : Nat) : (field k n).length = k := length_bytesOf k _

@[simp] theorem length_flag (b : Bool) : (flag b).length = 1 := length_field 1 _

@[simp] theorem length_outcomeByte (o : RequestOutcome) : (outcomeByte o).length = 1 := length_field 1 _

theorem length_optional_le {α : Type} {f : α → List Byte} {k : Nat} (hf : ∀ x, (f x).length ≤ k) (o : Option α) :
    (optional o f).length ≤ k + 1 := by
  cases o with
  | none => exact Nat.le_add_left 1 k
  | some x => exact Nat.succ_le_succ (hf x)

theorem length_flatMap_of_length {α : Type} {f : α → List Byte} {k : Nat} : ∀ {l : List α}, (∀ x ∈ l, (f x).length = k) →
    (l.flatMap f).length = k * l.length
  | [], _ => rfl
  | x :: l, h => by
    rw [List.flatMap_cons, List.length_append, h x List.mem_cons_self,
      length_flatMap_of_length fun y hy => h y (List.mem_cons_of_mem x hy), List.length_cons]
    ring

/-! ## Records (R209 to R211) -/

@[simp] theorem length_subjectBytes (x : Subject) : (subjectBytes x).length = 3 := by
  cases x <;> simp [subjectBytes]

theorem length_detailUsed_le (d : Detail) : (detailUsed d).length ≤ 6 := by
  cases d
  case shiftClosed m e => cases e <;> simp [detailUsed]
  all_goals simp [detailUsed]

@[simp] theorem length_detailBytes (d : Detail) : (detailBytes d).length = 6 := by
  have := length_detailUsed_le d
  simp only [detailBytes, List.length_append, List.length_replicate]
  omega

theorem length_noticeBytes (n : Notice) : (noticeBytes n).length = 15 := by simp [noticeBytes]

theorem length_spindleBytes {s : State} {n : Nat} (h : (spindle s n).breakRing.length ≤ 4) : (spindleBytes s n).length = 40 := by
  have hring : ((((spindle s n).breakRing.map fun x => min 65534 (s.delivery.now - x)) ++
      List.replicate (Config.breakRingSize - ((spindle s n).breakRing.map fun x => min 65534 (s.delivery.now - x)).length)
        0xFFFF).flatMap (field 2)).length = 8 := by
    rw [length_flatMap_of_length fun x _ => length_field 2 x, List.length_append, List.length_replicate, List.length_map,
      Config.breakRingSize]
    omega
  simp only [spindleBytes, List.length_append, length_field, hring]

theorem length_shiftRecord (v : ShiftView) (i : Nat) (g : Segment) :
    (partIdentity v).length = 20 ∧ (partTimes v).length = 48 ∧ (partBreaks v).length = 48 ∧ (partOutput v).length = 20 ∧
      (partDerived v).length = 21 ∧ (partSegment v i g).length = 22 := by
  simp [partIdentity, partTimes, partBreaks, partOutput, partDerived, partSegment]

/-! ## Replies that give as many items as fit (R201) -/

theorem length_fitCount_le : ∀ (room : Nat) (l : List (List Byte)), (l.take (fitCount room l)).flatten.length ≤ room
  | _, [] => Nat.zero_le _
  | room, x :: l => by
    unfold fitCount; split
    · rename_i hx
      have := length_fitCount_le (room - x.length) l
      rw [Nat.add_comm, List.take_succ_cons, List.flatten_cons, List.length_append]
      omega
    · exact Nat.zero_le _

theorem length_pagedBody_le {s : State} {before : List Byte} (items : List (List Byte))
    (h : before.length + 2 ≤ s.settings.working.replyLimit) : (pagedBody s before items).length ≤ s.settings.working.replyLimit := by
  have hfit := length_fitCount_le (s.settings.working.replyLimit - ((outcomeByte .ok ++ before).length + 1)) items
  simp only [pagedBody, List.length_append, length_outcomeByte, length_flag] at hfit ⊢
  omega

section
variable {s : State} (hlim : 64 ≤ s.settings.working.replyLimit)
include hlim

theorem length_piecingListBody_le (side : Side) (first : Nat) :
    (piecingListBody s side first).length ≤ s.settings.working.replyLimit := by
  refine length_pagedBody_le _ ?_
  have := length_optional_le (f := field 4) (fun x => (length_field 4 x).le)
    ((oldestUnlisted s side).map fun n => s.delivery.now - breakTimeOf s n)
  simp only [List.length_append, length_field]
  omega

theorem length_rovingCallsBody_le (first : Nat) : (rovingCallsBody s first).length ≤ s.settings.working.replyLimit := by
  refine length_pagedBody_le _ ?_
  have hchange := length_optional_le (f := changeBytes s) (k := 9) (fun c => by simp [changeBytes]) s.planner.transport.change
  have hoff := length_optional_le (f := fun deadline => field 4 (deadline - s.delivery.now)) (fun x => (length_field 4 _).le)
    s.planner.backOff
  have hlast := length_optional_le (f := fun x : Nat × Nat => field 1 x.1 ++ field 1 x.2) (k := 2) (fun x => by simp)
    s.planner.lastTimedOut
  simp only [List.length_append, length_field]
  omega

theorem length_readShiftBody_le (index first : Nat) (v : ShiftView) :
    (readShiftBody s index first v).length ≤ s.settings.working.replyLimit := by
  have hfit := length_fitCount_le (s.settings.working.replyLimit - 5) (shiftParts v first)
  simp only [readShiftBody, List.length_append, length_outcomeByte, length_field, length_flag]
  omega

theorem length_fetchBody_le (limit : Nat) : (fetchBody s limit).length ≤ s.settings.working.replyLimit := by
  have hk : fetchCount s limit ≤ (s.settings.working.replyLimit - 4) / 15 := by
    refine (Nat.min_le_right _ _).trans ?_
    split
    · exact le_rfl
    · exact Nat.min_le_right _ _
  have htake := List.length_take_le (fetchCount s limit) (fetchOrder s.notices.queue)
  simp only [fetchBody, List.length_append, length_outcomeByte, length_field,
    length_flatMap_of_length fun n _ => length_noticeBytes n]
  omega

theorem length_readSpindlesBody_le (start limit scope : Nat) (hring : ∀ sp ∈ s.spindles, sp.breakRing.length ≤ 4) :
    (readSpindlesBody s start limit scope).length ≤ s.settings.working.replyLimit := by
  have hk : readCount s start limit scope ≤ (s.settings.working.replyLimit - 6) / 40 := by
    refine (Nat.min_le_right _ _).trans ?_
    split
    · exact le_rfl
    · exact Nat.min_le_right _ _
  have hsp (n : Nat) : (spindleBytes s n).length = 40 := length_spindleBytes <| by
    cases hn : hasSpindle s n
    · rw [spindle_of_none hn]; exact Nat.zero_le _
    · exact hring _ (spindle_mem s n hn)
  have htake := List.length_take_le (readCount s start limit scope) (readOrder s start scope)
  simp only [readSpindlesBody, List.length_append, length_outcomeByte, length_field, length_flag,
    length_flatMap_of_length fun n _ => hsp n]
  omega

/-- R201: a refusal is one byte. -/
theorem length_refuse_le (o : RequestOutcome) (t : State) : (refuse o t).body.length ≤ s.settings.working.replyLimit := by
  rw [refuse, length_outcomeByte]; omega

theorem readingOf_fits {kind : Nat} (body : List Byte) (hk : kind ∈ [0x03, 0x04, 0x05, 0x06, 0x07, 0x0A, 0x0B, 0x0E])
    (hring : ∀ sp ∈ s.spindles, sp.breakRing.length ≤ 4) : (readingOf kind body s).body.length ≤ s.settings.working.replyLimit := by
  have refusal (o : RequestOutcome) := length_refuse_le hlim o s
  have alone (items : List (List Byte)) : (pagedBody s [] items).length ≤ s.settings.working.replyLimit :=
    length_pagedBody_le items (by simp only [List.length_nil]; omega)
  simp only [List.mem_cons, List.not_mem_nil, or_false] at hk
  rcases hk with rfl | rfl | rfl | rfl | rfl | rfl | rfl | rfl
  · show (answerFetch _ s).body.length ≤ _
    unfold answerFetch; split
    · exact refusal _
    · exact length_fetchBody_le hlim _
  · show (answerSpindles _ _ _ s).body.length ≤ _
    unfold answerSpindles; split
    · exact refusal _
    · exact length_readSpindlesBody_le hlim _ _ _ hring
  · show (answerPiecingList _ _ s).body.length ≤ _
    unfold answerPiecingList; split
    · exact refusal _
    · split
      · exact length_piecingListBody_le hlim _ _
      · exact refusal _
  · show (answerGroups _ s).body.length ≤ _
    unfold answerGroups; split
    · exact alone _
    · exact refusal _
  · exact length_rovingCallsBody_le hlim _
  · show (answerDoffLog _ s).body.length ≤ _
    unfold answerDoffLog; split
    · exact refusal _
    · exact alone _
  · show (answerShift _ _ s).body.length ≤ _
    unfold answerShift; split
    · exact refusal _
    · split
      · exact length_readShiftBody_le hlim _ _ _
      · exact refusal _
  · show (answerReadSettings _ _ s).body.length ≤ _
    unfold answerReadSettings; split
    · exact refusal _
    · exact alone _

end

/-- Settles O55: every reply that gives items as they fit is within the limit (`readingOf_fits`), and the records have their sizes. -/
theorem pagedRepliesFit : Obligations.PagedRepliesFit := by
  unfold Obligations.PagedRepliesFit
  refine ⟨fun c kind s t r h hc hk hring hlim _ hx hr => ?_, fun s n => length_spindleBytes, length_noticeBytes, length_shiftRecord⟩
  have hall : kind ∈ [0x01, 0x03, 0x04, 0x05, 0x06, 0x07, 0x08, 0x09, 0x0A, 0x0B, 0x0C, 0x0E, 0x11] := by
    simp only [List.mem_cons, List.not_mem_nil, or_false] at hk ⊢
    omega
  rw [exec_reading h hc hall] at hx
  cases hx
  cases hr
  dsimp only
  split
  · exact readingOf_fits (s := { s with emitted := [] }) hlim _ hk hring
  · exact length_refuse_le hlim _ _

end Sys2Proof.Machine

/-! # Messages are added, a change in progress stands, and the faults that the dispatcher's work may raise (R57, R73, R121, R123, R189) -/

namespace Sys2Proof.Machine

open Sys2Proof

/-! ## Messages added, and the transport (R73, R121 to R123) -/

/-- The messages sent before stand at the head of those sent, and a transport that is not IDLE is where it was. -/
structure Continues (s t : State) : Prop where
  sent : s.emitted <+: t.emitted
  transport : s.planner.transport ≠ .idle → t.planner.transport = s.planner.transport

namespace Continues

variable {s t u : State}

theorem of_eq (he : t.emitted = s.emitted) (hp : t.planner.transport = s.planner.transport) : Continues s t :=
  ⟨he ▸ List.prefix_rfl, fun _ => hp⟩

theorem refl (s : State) : Continues s s := of_eq rfl rfl

theorem after (k : Continues t u) (h : Continues s t) : Continues s u where
  sent := h.sent.trans k.sent
  transport hi := (k.transport (by rw [h.transport hi]; exact hi)).trans (h.transport hi)

end Continues

theorem updLock_continues (k : Nat) (f : Lock → Lock) (s : State) : Continues s (updLock k f s) := .of_eq rfl rfl

theorem emit_continues (o : Output) (s : State) : Continues s (emit o s) := ⟨List.prefix_append _ _, fun _ => rfl⟩

/-- R123: a call is issued from an IDLE transport alone. -/
theorem callTest_continues (s : State) : Continues s (callTest s) := by
  unfold callTest; split
  · rename_i hi _ _; exact ⟨List.prefix_append _ _, fun h => absurd hi h⟩
  · exact .refl s

theorem listGroup_continues (g : Nat) (urgency : CallUrgency) (origin : CallOrigin) (s : State) :
    Continues s (listGroup g urgency origin s) := by
  unfold listGroup; split
  · exact .refl s
  · split
    · exact .refl s
    · exact (callTest_continues _).after (.of_eq rfl rfl)
    · split
      · split
        · exact (callTest_continues _).after (.of_eq rfl rfl)
        · exact .refl s
      · exact .refl s

theorem evaluateGroup_continues (g : Nat) (s : State) : Continues s (evaluateGroup g s) := by
  have h : Continues s (removePoint g s) := .of_eq rfl rfl
  unfold evaluateGroup; dsimp only; split
  · split
    · exact (listGroup_continues _ _ _ _).after h
    · split
      · exact h
      · split
        · exact (listGroup_continues _ _ _ _).after h
        · exact .of_eq rfl rfl
  · exact h

theorem tellPlanner_continues (g : Nat) (s : State) : Continues s (tellPlanner g s) := by
  unfold tellPlanner; split
  · exact (evaluateGroup_continues _ _).after (.of_eq rfl rfl)
  · exact evaluateGroup_continues _ _

theorem changeState_continues (n : Nat) (st : SpindleState) (s : State) : Continues s (changeState n st s) := by
  unfold changeState; dsimp only; split <;> exact .of_eq rfl rfl

theorem enterState_continues (n : Nat) (st : SpindleState) (s : State) : Continues s (enterState n st s) :=
  (tellPlanner_continues _ _).after (changeState_continues n st s)

theorem setPieceList_continues (side : Side) (l : List Entry) (s : State) : Continues s (setPieceList side l s) := by
  cases side <;> exact .of_eq rfl rfl

theorem updCarriage_continues (r : RecordNo) (f : Carriage → Carriage) (s : State) : Continues s (updCarriage r f s) := by
  cases r <;> exact .of_eq rfl rfl

theorem raiseFault_continues (c : FaultClass) (x : Subject) (d : Detail) (s : State) : Continues s (raiseFault c x d s) := by
  rw [raiseFault_eq]; exact .of_eq rfl rfl

theorem raiseNotice_continues (k : NoticeKind) (l : NoticeLevel) (x : Subject) (d : Detail) (s : State) :
    Continues s (raiseNotice k l x d s) := .of_eq rfl rfl

theorem makeEntry_continues (n : Nat) (urgent : Bool) (s : State) : Continues s (makeEntry n urgent s) := by
  unfold makeEntry; split
  · exact (setPieceList_continues _ _ _).after (.of_eq rfl rfl)
  · exact .refl s

theorem dropFromList_continues (n : Nat) (s : State) : Continues s (dropFromList n s) :=
  (setPieceList_continues _ _ _).after (.of_eq rfl rfl)

theorem refillUpTo_continues : ∀ (fuel : Nat) (side : Side) (s : State), Continues s (refillUpTo fuel side s)
  | 0, _, s => .refl s
  | k + 1, side, s => by
    unfold refillUpTo; split
    · exact .refl s
    · split
      · exact (refillUpTo_continues k side _).after (makeEntry_continues _ _ _)
      · exact .refl s

/-! ### The issue of an order in its stages (R83, R101) -/

/-- R76: the number of the station that holds a record, 0 where none does. -/
def CarriageLink.stationNumber (l : CarriageLink) : Nat :=
  match l with
  | .enrolled st _ _ _ _ => st.number
  | .rejected st _ => st.number
  | .absent => 0

/-- R83: the order that a record is given for an entry. -/
def orderFor (r : RecordNo) (e : Entry) (s : State) : Order :=
  { spindle := e.spindle, tag := ((carriage s r).tag + 1) % 16, issued := s.delivery.now,
    deadline := s.delivery.now + orderTimeoutOf s.settings.working.orderTimeoutCode, arrived := false, parkPending := false }

/-- R101: a lock at the issue of an order in its sector. -/
def Lock.atOrder (r : RecordNo) (carried : Bool) (l : Lock) : Lock :=
  if carried then { l with carryOver := satAdd Config.top8 l.carryOver 1 } else l.pass (.carriage r none)

/-- R83: a record given an order. -/
def Carriage.given (o : Order) (c : Carriage) : Carriage :=
  { c with
    link := c.link.withWork (.busy o), tag := o.tag
    counters := { c.counters with orders := satAdd Config.top32 c.counters.orders 1 } }

/-- R83, R101: the lock taken and PIECE sent. -/
def orderSent (r : RecordNo) (e : Entry) (carried : Bool) (s : State) : State :=
  emit (.carriage (carriage s r).link.stationNumber (.piece e.spindle (orderFor r e s).tag))
    (updLock (sectorOf e.spindle) (Lock.atOrder r carried) s)

/-- R83, R55: the entry dropped and its place refilled. -/
def orderDelisted (r : RecordNo) (e : Entry) (carried : Bool) (s : State) : State :=
  refill (sideOf s e.spindle) (dropFromList e.spindle (orderSent r e carried s))

/-- R44, R83: the spindle in PIECING. -/
def orderPlaced (r : RecordNo) (e : Entry) (carried : Bool) (s : State) : State :=
  enterState e.spindle (spindle (orderDelisted r e carried s) e.spindle).state.toPiecing (orderDelisted r e carried s)

theorem issueOrder_eq (r : RecordNo) (e : Entry) (carried : Bool) (s : State) :
    issueOrder r e carried s = countIssued (updCarriage r (Carriage.given (orderFor r e s)) (orderPlaced r e carried s)) := rfl

theorem countIssued_continues (s : State) : Continues s (countIssued s) := .of_eq rfl rfl

theorem orderSent_issued_continues (r : RecordNo) (e : Entry) (carried : Bool) (s : State) :
    Continues (orderSent r e carried s) (issueOrder r e carried s) := by
  rw [issueOrder_eq]
  exact (countIssued_continues _).after <| (updCarriage_continues _ _ _).after <| (enterState_continues _ _ _).after <|
    (refillUpTo_continues _ _ _).after (dropFromList_continues _ _)

theorem issueOrder_continues (r : RecordNo) (e : Entry) (carried : Bool) (s : State) : Continues s (issueOrder r e carried s) :=
  (orderSent_issued_continues r e carried s).after ((emit_continues _ _).after (updLock_continues _ _ s))

/-- R83: PIECE is the first message that the issue of an order adds. -/
theorem issueOrder_says_piece {r : RecordNo} {st : Station} {side : Side} {pos : Nat} {dir : Direction} {w : CarriageWork}
    {s : State} (e : Entry) (carried : Bool) (hl : (carriage s r).link = .enrolled st side pos dir w) :
    s.emitted ++ [.carriage st.number (.piece e.spindle (((carriage s r).tag + 1) % 16))] <+: (issueOrder r e carried s).emitted := by
  have h := (orderSent_issued_continues r e carried s).sent
  rw [orderSent, hl] at h
  exact h

theorem dispatchAmong_continues (allowed : Entry → Bool) (carried : Bool) (r : RecordNo) (s : State) :
    Continues s (dispatchAmong allowed carried r s) := by
  unfold dispatchAmong; split
  · split
    · split
      · exact issueOrder_continues _ _ _ _
      · exact .refl s
    · exact .refl s
  · exact .refl s

theorem attemptSide_continues (side : Side) (s : State) : Continues s (attemptSide side s) := by
  unfold attemptSide; split
  · exact .refl s
  · exact dispatchAmong_continues _ _ _ _

theorem attemptIfListed_continues (n : Nat) (s : State) : Continues s (attemptIfListed n s) := by
  unfold attemptIfListed; split
  · exact attemptSide_continues _ _
  · exact .refl s

theorem listSpindle_continues (n : Nat) (s : State) : Continues s (listSpindle n s) := by
  unfold listSpindle; dsimp only; split
  · exact makeEntry_continues _ _ _
  · split
    · exact (raiseFault_continues _ _ _ _).after (.of_eq rfl rfl)
    · exact .of_eq rfl rfl

theorem enlist_continues (n : Nat) (check : LockCheck) (s : State) : Continues s (enlist n check s) := by
  unfold enlist; split
  · exact (tellPlanner_continues _ _).after ((raiseNotice_continues _ _ _ _ _).after (changeState_continues n _ s))
  · exact (tellPlanner_continues _ _).after (listSpindle_continues n s)

theorem returnToBroken_continues (n : Nat) (check : LockCheck) (s : State) : Continues s (returnToBroken n check s) := by
  unfold returnToBroken; split
  · split
    · exact enterState_continues _ _ _
    · exact (attemptIfListed_continues n _).after ((enlist_continues n check _).after (changeState_continues n _ s))
  · exact .refl s

/-- R102: a grant sends PROCEED and puts the transport in CHANGING. -/
theorem plannerGranted_of_change {s : State} {c : ActiveChange} (h : s.planner.transport.change = some c) :
    plannerGranted s = updPlanner (fun p => { p with transport := .changing c }) (emit (.transport (.proceed c.tag)) s) := by
  simp only [plannerGranted, h]

theorem plannerGranted_sent (s : State) : s.emitted <+: (plannerGranted s).emitted := by
  unfold plannerGranted; split
  · exact List.prefix_rfl
  · exact List.prefix_append _ _

theorem releaseLock_sent (k : Nat) (s : State) : s.emitted <+: (releaseLock k s).emitted := by
  unfold releaseLock; split
  · exact plannerGranted_sent (updLock k _ s)
  · exact ((attemptSide_continues _ _).after (updLock_continues k _ s)).sent
  · exact List.prefix_rfl

theorem dropOrder_sent (o : Option Order) (s : State) : s.emitted <+: (dropOrder o s).emitted := by
  unfold dropOrder; split
  · exact List.prefix_rfl
  · exact (returnToBroken_continues _ _ _).sent.trans (releaseLock_sent _ _)

theorem head?_of_prefix {α : Type} {l m : List α} {x : α} (h : l <+: m) (hx : l.head? = some x) : m.head? = some x := by
  obtain ⟨u, rfl⟩ := h
  rw [List.head?_append, hx]; rfl

/-! ## Faults (R57, R188, R189) -/

theorem getLsbD_bitOf {w i j : Nat} (hi : i < w) : (bitOf w i).getLsbD j = decide (j = i) := by
  rw [bitOf, BitVec.getLsbD_ofNat, Nat.testBit_two_pow]
  by_cases h : i = j
  · subst h; simp [hi]
  · simp [h, Ne.symm h]

theorem raiseFault_status (c : FaultClass) (x : Subject) (d : Detail) (s : State) :
    (raiseFault c x d s).faults.status = s.faults.status ||| bitOf 11 c.bit := by
  unfold raiseFault; dsimp only; split <;> rfl

/-- R189: the status of a fault's class is set, and that of the others stands. -/
theorem raiseFault_getLsbD (c : FaultClass) (x : Subject) (d : Detail) (s : State) (i : Nat) :
    (raiseFault c x d s).faults.status.getLsbD i = (s.faults.status.getLsbD i || decide (i = c.bit)) := by
  rw [raiseFault_status, BitVec.getLsbD_or, getLsbD_bitOf (by cases c <;> decide)]

/-- R189, R190: what a fault leaves in the faults depends on the faults, the clock and the settings alone. -/
theorem raiseFault_faults_congr {s t : State} (c : FaultClass) (x : Subject) (d : Detail) (hf : t.faults = s.faults)
    (hd : t.delivery = s.delivery) (hs : t.settings = s.settings) :
    (raiseFault c x d t).faults = (raiseFault c x d s).faults := by
  have h (u : State) : (raiseFault c x d u).faults =
      { recordFault c x d u.delivery.mill u.faults with
        alarm := alarmLevel (recordFault c x d u.delivery.mill u.faults).status u.settings.working.masks
          u.settings.working.severities } := by
    unfold raiseFault; dsimp only; split <;> rfl
  rw [h, h, hf, hd, hs]

/-- The status of every class but LIST_OVERFLOW stands. -/
def OverflowAtMost (s t : State) : Prop := ∀ i, i ≠ 0 → t.faults.status.getLsbD i = s.faults.status.getLsbD i

theorem OverflowAtMost.of_eq {s t : State} (h : t.faults = s.faults) : OverflowAtMost s t := fun _ _ => by rw [h]

theorem OverflowAtMost.after {s t u : State} (k : OverflowAtMost t u) (h : OverflowAtMost s t) : OverflowAtMost s u :=
  fun i hi => (k i hi).trans (h i hi)

theorem onlyTables.overflow {s t : State} (h : onlyTables s t) : OverflowAtMost s t := .of_eq h.keepsReports.1

theorem listSpindle_overflow (n : Nat) (s : State) : OverflowAtMost s (listSpindle n s) := by
  unfold listSpindle; dsimp only; split
  · exact (makeEntry_onlyTables n false s).overflow
  · split
    · intro i hi
      rw [raiseFault_getLsbD, decide_eq_false (by exact hi), Bool.or_false]; rfl
    · exact .of_eq rfl

theorem enlist_overflow (n : Nat) (check : LockCheck) (s : State) : OverflowAtMost s (enlist n check s) := by
  unfold enlist; split
  · exact (tellPlanner_onlyPlanner _ _).toTables.overflow.after
      ((OverflowAtMost.of_eq rfl).after (changeState_onlyTables n _ s).overflow)
  · exact (tellPlanner_onlyPlanner _ _).toTables.overflow.after (listSpindle_overflow n s)

/-- R57: a spindle that waits again may find its list full. -/
theorem returnToBroken_overflow (n : Nat) (check : LockCheck) (s : State) : OverflowAtMost s (returnToBroken n check s) := by
  unfold returnToBroken; split
  · split
    · exact (enterState_onlyTables _ _ _).overflow
    · exact (attemptIfListed_onlyTables n _).overflow.after
        ((enlist_overflow n check _).after (changeState_onlyTables n _ s).overflow)
  · exact .of_eq rfl

theorem dropOrder_overflow (o : Option Order) (s : State) : OverflowAtMost s (dropOrder o s) := by
  unfold dropOrder; split
  · exact .of_eq rfl
  · exact (releaseLock_onlyTables _ _).overflow.after (returnToBroken_overflow _ _ s)

/-! ## The test for a clear frame (R142) -/

/-- R142: the test touches the doff sequencer alone. -/
theorem testClear_eq (s : State) : testClear s = { s with doff := (testClear s).doff } := by
  unfold testClear; split
  · split
    · rw [enterDoffing_eq]; rfl
    · rfl
  · rfl

/-- R142: outside PARKING nothing is tested. -/
theorem testClear_outside {s : State} (h : ∀ call, s.doff.phase ≠ .parking call) : testClear s = s := by
  unfold testClear; split
  · rename_i call hph; exact absurd hph (h call)
  · rfl

/-- R142: in PARKING a clear frame brings DOFFING. -/
theorem testClear_clear {s : State} {call : CallInfo} (hph : s.doff.phase = .parking call) (hc : frameClear s = true) :
    ∃ record, (testClear s).doff.phase = .doffing call record := by
  have h : testClear s = enterDoffing call s := by simp only [testClear, hph, hc, if_true]
  rw [h, enterDoffing_eq]
  exact ⟨_, rfl⟩

/-! ## The spindle of an order that is given up (R44, R57) -/

/-- R44, R57: a spindle whose order has been given up is WITHHELD where a zone has taken its sector, and otherwise waits again with its
old break, or is ordered anew; no attempt is counted. -/
structure Spindle.GivenBack (sp : Spindle) (cause : BreakCause) (time : Nat) (y : Spindle) : Prop where
  state : if sp.withholdPending then y.state = .withheld else y.state = .broken cause time ∨ y.state = .piecing cause time
  attempts : y.attempts ≤ sp.attempts

theorem changed_attempts_le (sp : Spindle) (driving : Bool) (now phi : Nat) (st : SpindleState) :
    (sp.changed driving now phi st).attempts ≤ sp.attempts := by
  cases st with
  | running => exact Nat.zero_le _
  | withheld => exact Nat.zero_le _
  | _ => exact Nat.le_refl _

theorem Spindle.Passes.attempts_le {dl : Delivery} {sp x : Spindle} (h : sp.Passes dl x) : x.attempts ≤ sp.attempts := by
  induction h with
  | refl => exact Nat.le_refl _
  | unmark _ ih => exact ih
  | ordered _ ih => exact (changed_attempts_le _ _ _ _ _).trans ih

theorem Spindle.GivenBack.passes {dl : Delivery} {sp y z : Spindle} {c : BreakCause} {time : Nat} (h : sp.GivenBack c time y)
    (k : y.Passes dl z) : sp.GivenBack c time z := by
  refine ⟨?_, k.attempts_le.trans h.attempts⟩
  have hst := h.state
  by_cases hw : sp.withholdPending = true
  · rw [if_pos hw] at hst ⊢
    rcases k.state with hz | ⟨_, _, hy, -⟩
    · exact hz.trans hst
    · rw [hst] at hy; cases hy
  · rw [if_neg hw] at hst ⊢
    rcases k.state with hz | ⟨_, _, hy, hz⟩
    · rw [hz]; exact hst
    · rcases hst with hst | hst <;> rw [hst] at hy <;> cases hy
      exact .inr hz

theorem returnToBroken_givenBack {n time : Nat} {c : BreakCause} {s : State} (hn : hasSpindle s n = true)
    (hs : (spindle s n).state = .piecing c time) :
    (spindle s n).GivenBack c time (spindle (returnToBroken n .none s) n) := by
  cases hw : (spindle s n).withholdPending
  · have h := returned_outcome hn hs (Spindle.Passes.refl (dl := s.delivery))
    rw [if_neg (by rw [hw]; decide)] at h
    obtain ⟨ha, -, hst⟩ := h
    exact ⟨by rw [if_neg (by rw [hw]; decide)]; exact hst, ha.le⟩
  · rw [returnToBroken_withheld .none hs hw]
    obtain ⟨hst, ha, -⟩ := withheld_outcome hn Spindle.Passes.refl
    exact ⟨by rw [if_pos hw]; exact hst, by rw [ha]; exact Nat.zero_le _⟩

/-! ## An order dropped (R88, R91) -/

theorem dropOrder_cars (o : Option Order) (s : State) : CarsOrdered s (dropOrder o s) := by
  unfold dropOrder; split
  · exact .refl s
  · exact (releaseLock_cars _ _).after (returnToBroken_cars _ _ s)

theorem dropOrder_sums (o : Option Order) (s : State) : SumsStand s (dropOrder o s) := by
  unfold dropOrder; split
  · exact .of_eq rfl
  · exact (releaseLock_sums _ _).after (returnToBroken_sums _ _ s)

theorem dropOrder_givenBack {o : Order} {time : Nat} {c : BreakCause} {s : State} (hn : hasSpindle s o.spindle = true)
    (hs : (spindle s o.spindle).state = .piecing c time) :
    (spindle s o.spindle).GivenBack c time (spindle (dropOrder (some o) s) o.spindle) :=
  (returnToBroken_givenBack hn hs).passes ((releaseLock_any _ _).passes _)

end Sys2Proof.Machine

/-! # Carriage messages that change neither spindle nor order (R72, R77, R84, R89, R91, R121) -/

namespace Sys2Proof.Machine

open Sys2Proof

theorem heard_eq (s : State) (station : Nat) :
    heard station { s with emitted := [] } =
      match recordOfStation s station with
      | some r => heardFrom r s
      | none => { s with emitted := [] } := by
  have h : recordOfStation { s with emitted := [] } station = recordOfStation s station := rfl
  unfold heard
  rw [h]
  cases recordOfStation s station <;> rfl

theorem fromStation_none {s : State} {station : Nat} (act : RecordNo → State → State) (h : recordOfStation s station = none) :
    fromStation station act { s with emitted := [] } =
      { s with emitted := [], carDiscards := min 65535 (s.carDiscards + 1) } := by
  have h' : recordOfStation { s with emitted := [] } station = none := h
  simp only [fromStation, h']
  rfl

/-- R72: a message heard and discarded. -/
theorem discardCarriage_heardFrom (r : RecordNo) (s : State) :
    discardCarriage (heardFrom r s) = { heardFrom r s with carDiscards := min 65535 (s.carDiscards + 1) } := by
  cases r <;> rfl

section
variable {s : State} {r : RecordNo}

/-! ## What a record makes of each message, by its link (R77) -/

/-- R77: a record that is not enrolled discards every message. -/
theorem discarded_unenrolled (h : (carriage s r).link.isEnrolled = false) (n tag : Nat) (d : Direction) (x : OrderOutcome) :
    takeParked r s = discardCarriage s ∧ takeStatus r s = discardCarriage s ∧ takePosition n d r s = discardCarriage s ∧
      takeArrived tag r s = discardCarriage s ∧ takeResult tag x r s = discardCarriage s := by
  unfold takeParked takeStatus takePosition takeArrived takeResult
  cases hl : (carriage s r).link with
  | enrolled => rw [hl] at h; cases h
  | absent => exact ⟨rfl, rfl, rfl, rfl, rfl⟩
  | rejected => exact ⟨rfl, rfl, rfl, rfl, rfl⟩

/-- R89: an ARRIVED or a RESULT whose tag is not that of the order. -/
theorem stale_of_other_tag {tag : Nat} (x : OrderOutcome) (he : (carriage s r).link.isEnrolled = true)
    (ho : ∀ o, (carriage s r).link.order? = some o → o.tag ≠ tag) :
    takeArrived tag r s = staleTag tag r s ∧ takeResult tag x r s = staleTag tag r s := by
  unfold takeArrived takeResult
  cases hl : (carriage s r).link with
  | absent => rw [hl] at he; cases he
  | rejected => rw [hl] at he; cases he
  | enrolled st side pos dir w =>
    cases w with
    | busy o =>
      have hne := ho o (by rw [hl]; rfl)
      exact ⟨if_neg hne, if_neg hne⟩
    | _ => exact ⟨rfl, rfl⟩

variable {st : Station} {side : Side} {pos : Nat} {dir : Direction} {w : CarriageWork}

theorem leaveSuspect_of_ne (hl : (carriage s r).link = .enrolled st side pos dir w) (hw : w ≠ .suspect) : leaveSuspect r s = s := by
  unfold leaveSuspect
  rw [hl]
  cases w with
  | suspect => exact absurd rfl hw
  | _ => rfl

theorem takeStatus_of_ne (hl : (carriage s r).link = .enrolled st side pos dir w) (hw : w ≠ .suspect) : takeStatus r s = s := by
  simp only [takeStatus, hl, leaveSuspect_of_ne hl hw]

/-- R84: a POSITION that is not on the record's side. -/
theorem takePosition_elsewhere {n : Nat} (d : Direction) (hl : (carriage s r).link = .enrolled st side pos dir w)
    (h : ¬ (isSpindle s n = true ∧ sideOf s n = side)) : takePosition n d r s = discardCarriage s := by
  have h' : ¬ (isSpindle s n && sideOf s n == side) = true := by simpa using h
  simp only [takePosition, hl, if_neg h']

/-- R84: a POSITION on the record's side outside SUSPECT is the record's place and direction. -/
theorem takePosition_moves {n : Nat} (d : Direction) (hl : (carriage s r).link = .enrolled st side pos dir w) (hw : w ≠ .suspect)
    (hi : isSpindle s n = true) (hs : sideOf s n = side) :
    takePosition n d r s = updCarriage r (fun c => { c with link := .enrolled st side n d w }) s := by
  have hm : (carriage s r).link.moved n d = .enrolled st side n d w := by rw [hl]; rfl
  have hu : updCarriage r (fun c => { c with link := c.link.moved n d }) s =
      updCarriage r (fun c => { c with link := .enrolled st side n d w }) s := updCarriage_congr (by rw [hm])
  rw [takePosition_own d hl hi hs, hu]
  exact leaveSuspect_of_ne (by rw [updCarriage_same]) hw

/-- R94: a PARKED from a record that neither parks nor has its park pending. -/
theorem takeParked_of_other (hl : (carriage s r).link = .enrolled st side pos dir w) (hb : ∀ o, w = .busy o → o.parkPending = false)
    (hp : w ≠ .parking) : takeParked r s = if w = .parked then s else discardCarriage s := by
  unfold takeParked
  rw [hl]
  cases w with
  | parking => exact absurd rfl hp
  | busy o => dsimp only; rw [hb o rfl]; rfl
  | _ => rfl

end

/-! ## The messages -/

theorem exec_unrecorded {s : State} {station : Nat} (n tag : Nat) (d : Direction) (x : OrderOutcome) (hp : s.powered = true)
    (hr : recordOfStation s station = none) :
    ∀ c ∈ [Instr.parked station, .carriageStatus station, .position station n d, .arrived station tag, .result station tag x],
      exec c s = .next { s with emitted := [], carDiscards := min 65535 (s.carDiscards + 1) } := by
  have h (act : RecordNo → State → State) := (live_powered (fromStation station act) s hp).trans (congrArg _ (fromStation_none act hr))
  simp only [List.mem_cons, List.not_mem_nil, or_false]
  rintro c (rfl | rfl | rfl | rfl | rfl) <;> exact h _

section
variable {s : State} {station : Nat} {r : RecordNo}

/-- R72, R91: a message of a station with a record is a sign of life that the record takes. -/
theorem live_fromStation (act : RecordNo → State → State) (hp : s.powered = true) (hr : recordOfStation s station = some r) :
    live (fromStation station act) s = .next (act r (heardFrom r s)) :=
  (live_powered _ s hp).trans (congrArg _ (fromStation_record act hr))

theorem exec_unenrolled (n tag : Nat) (d : Direction) (x : OrderOutcome) (hp : s.powered = true)
    (hr : recordOfStation s station = some r) (he : (carriage s r).link.isEnrolled = false) :
    ∀ c ∈ [Instr.parked station, .carriageStatus station, .position station n d, .arrived station tag, .result station tag x],
      exec c s = .next { heardFrom r s with carDiscards := min 65535 (s.carDiscards + 1) } := by
  obtain ⟨h1, h2, h3, h4, h5⟩ := discarded_unenrolled (by rw [link_heardFrom]; exact he) n tag d x
  have h {act : RecordNo → State → State} (ha : act r (heardFrom r s) = discardCarriage (heardFrom r s)) :=
    (live_fromStation act hp hr).trans (congrArg _ (ha.trans (discardCarriage_heardFrom r s)))
  simp only [List.mem_cons, List.not_mem_nil, or_false]
  rintro c (rfl | rfl | rfl | rfl | rfl)
  exacts [h h1, h h2, h h3, h h4, h h5]

theorem exec_stale {tag : Nat} (x : OrderOutcome) (hp : s.powered = true) (hr : recordOfStation s station = some r)
    (he : (carriage s r).link.isEnrolled = true) (ho : ∀ o, (carriage s r).link.order? = some o → o.tag ≠ tag) :
    ∀ c ∈ [Instr.arrived station tag, .result station tag x],
      exec c s =
        .next
          (if tag ≤ 15 then
             updCarriage r (fun c => { c with counters := { c.counters with late := min 4294967295 (c.counters.late + 1) } })
               (heardFrom r s)
           else { heardFrom r s with carDiscards := min 65535 (s.carDiscards + 1) }) := by
  rw [← link_heardFrom r s] at he ho
  obtain ⟨h1, h2⟩ := stale_of_other_tag x he ho
  have h {act : RecordNo → State → State} (ha : act r (heardFrom r s) = staleTag tag r (heardFrom r s)) :=
    (live_fromStation act hp hr).trans (congrArg _ ha)
  rw [← discardCarriage_heardFrom r s]
  simp only [List.mem_cons, List.not_mem_nil, or_false]
  rintro c (rfl | rfl)
  exacts [h h1, h h2]

variable {st : Station} {side : Side} {pos : Nat} {dir : Direction} {w : CarriageWork}

theorem isSpindle_sideOf_heardFrom (n : Nat) :
    (isSpindle (heardFrom r s) n = true ∧ sideOf (heardFrom r s) n = side) ↔ (isSpindle s n = true ∧ sideOf s n = side) := by
  rw [(isSpindle_heardFrom r s n).1, (isSpindle_heardFrom r s n).2]

theorem exec_position_elsewhere {n : Nat} (d : Direction) (hp : s.powered = true) (hr : recordOfStation s station = some r)
    (hl : (carriage s r).link = .enrolled st side pos dir w) (h : ¬ (isSpindle s n = true ∧ sideOf s n = side)) :
    exec (.position station n d) s = .next { heardFrom r s with carDiscards := min 65535 (s.carDiscards + 1) } := by
  rw [exec_position n d hp hr, takePosition_elsewhere d ((link_heardFrom r s).trans hl) (mt (isSpindle_sideOf_heardFrom n).1 h),
    discardCarriage_heardFrom]

/-- R84: a POSITION outside SUSPECT. -/
theorem exec_position_outside_suspect (n : Nat) (d : Direction) (hp : s.powered = true) (hr : recordOfStation s station = some r)
    (hl : (carriage s r).link = .enrolled st side pos dir w) (hw : w ≠ .suspect) :
    exec (.position station n d) s =
      .next
        (if isSpindle s n = true ∧ sideOf s n = side then
           updCarriage r (fun c => { c with link := .enrolled st side n d w }) (heardFrom r s)
         else { heardFrom r s with carDiscards := min 65535 (s.carDiscards + 1) }) := by
  split
  · rename_i h
    obtain ⟨hi, hs⟩ := (isSpindle_sideOf_heardFrom (r := r) n).2 h
    rw [exec_position n d hp hr, takePosition_moves d ((link_heardFrom r s).trans hl) hw hi hs]
  · rename_i h; exact exec_position_elsewhere d hp hr hl h

theorem exec_parked_of_other (hp : s.powered = true) (hr : recordOfStation s station = some r)
    (hl : (carriage s r).link = .enrolled st side pos dir w) (hb : ∀ o, w = .busy o → o.parkPending = false) (hw : w ≠ .parking) :
    exec (.parked station) s =
      .next (if w = .parked then heardFrom r s else { heardFrom r s with carDiscards := min 65535 (s.carDiscards + 1) }) := by
  rw [exec_parked hp hr, takeParked_of_other ((link_heardFrom r s).trans hl) hb hw, discardCarriage_heardFrom]

end

/-- R91: a discarded message whose check passes is a sign of life (entry 23). -/
theorem exec_discard_heard {s : State} {station : Nat} (hp : s.powered = true) :
    ∀ cause ∈ [LinkDiscard.unknownKind station, .badField station],
      exec (.carriageLinkDiscard cause) s =
        .next
          (match recordOfStation s station with
           | some r => { heardFrom r s with carDiscards := min 65535 (s.carDiscards + 1) }
           | none => { s with emitted := [], carDiscards := min 65535 (s.carDiscards + 1) }) := by
  have h : discardCarriage (heard station { s with emitted := [] }) =
      match recordOfStation s station with
      | some r => { heardFrom r s with carDiscards := min 65535 (s.carDiscards + 1) }
      | none => { s with emitted := [], carDiscards := min 65535 (s.carDiscards + 1) } := by
    rw [heard_eq]
    cases recordOfStation s station with
    | none => rfl
    | some r => exact discardCarriage_heardFrom r s
  simp only [List.mem_cons, List.not_mem_nil, or_false]
  rintro cause (rfl | rfl) <;> exact (live_powered (takeDiscard _) s hp).trans (congrArg _ h)

/-- Settles O26: each message by the link it finds, after its sign of life. -/
theorem linkMessagesByTheStateTable : Obligations.LinkMessagesByTheStateTable := by
  refine ⟨⟨fun s station n tag d x => exec_unrecorded n tag d x, fun s station n tag d x r => exec_unenrolled n tag d x,
    fun s station tag x r => exec_stale x, fun s station n pos dir d st side r hp hr hl => ?_,
    fun s station n pos dir d st side w r hp hr hl hw => ⟨?_, exec_position_outside_suspect n d hp hr hl hw,
      exec_parked_of_other hp hr hl⟩⟩, fun s hp => live_powered _ s hp, fun s station hp => exec_discard_heard hp,
    fun s hp => live_powered _ s hp⟩
  · simp only [List.mem_cons, List.not_mem_nil, or_false]
    rintro c (rfl | rfl) h
    · exact exec_parked_of_other hp hr hl (fun _ e => nomatch e) (fun e => nomatch e)
    · refine exec_position_elsewhere d hp hr hl fun ⟨hi, hs⟩ => ?_
      rcases h rfl with h | h
      · rw [h] at hi; cases hi
      · exact h hs
  · rw [exec_carriageStatus hp hr, takeStatus_of_ne ((link_heardFrom r s).trans hl) hw]

end Sys2Proof.Machine

/-! # Doff Now (R93, R140 to R143, R151) -/

namespace Sys2Proof.Machine

open Sys2Proof

theorem exec_doffNow {s : State} (h : lineReady s) :
    exec (.doffNow []) s = .next (hold 0x1A (answerDoffNow { s with emitted := [] })) :=
  takeRequest_ready 0x1A true answerDoffNow s h

/-- R140: the call flags and the call stamp of a Doff Now. -/
def doffNowCall (s : State) : CallInfo :=
  { early := decide (s.delivery.phi - s.doff.phiD < s.doff.dPulses), forced := false, held := s.doff.overdue
    stamp := s.delivery.mill }

/-- R140: CALLED entered, before the drive is tested. -/
def calledState (call : CallInfo) (s : State) : State :=
  updDoff (fun d => { d with hold := false, overdue := false }.toPhase (.called call)) s

theorem enterCalled_eq (early : Bool) (s : State) :
    enterCalled early false s =
      let call : CallInfo := { early := early, forced := false, held := s.doff.overdue, stamp := s.delivery.mill }
      if s.delivery.driving then calledState call s else enterParking call (calledState call s) := by
  unfold enterCalled; dsimp only
  rw [enterPhase_inDoff _ _ rfl]
  rfl

/-- R135, R141: entry to PARKING, and on to DOFFING, asserts the doff request and keeps the two flags. -/
theorem enterParking_flags (call : CallInfo) (s : State) :
    (enterParking call s).doff.request = true ∧ (enterParking call s).doff.hold = s.doff.hold ∧
      (enterParking call s).doff.overdue = s.doff.overdue := by
  obtain ⟨v, hv⟩ := parkBoth_carriages_only (updDoff (fun d => d.toPhase (.parking call)) s)
  rw [enterParking_eq, enterDoffing_eq, hv]
  split <;> exact ⟨rfl, rfl, rfl⟩

/-- R151: what a Doff Now does in SPINNING and WARNED. -/
theorem doffNow_calls {s : State} (h : lineReady s)
    (ha : ∀ t : State, t.doff.phase = s.doff.phase → answerDoffNow t = taken (enterCalled (doffProgress t < t.doff.dPulses) false t)) :
    ∃ t, exec (.doffNow []) s = .next t ∧ t.line = (withReply 0x1A okBody .none s).line ∧
      t.doff.request = true ∧ t.doff.hold = false ∧ t.doff.overdue = false ∧
      (if s.delivery.driving then t.doff.phase = .called (doffNowCall s) ∧ t.car1 = s.car1 ∧ t.car2 = s.car2 else parkSent s t) ∧
      (if s.delivery.driving then t.doff.number = s.doff.number
       else if frameClear s then
         t.doff.phase = .doffing (doffNowCall s) (doffRecordOf s s (doffNowCall s)) ∧ t.doff.number = (s.doff.number + 1) % 65536
       else t.doff.phase = .parking (doffNowCall s) ∧ t.doff.number = s.doff.number) ∧
      t.delivery = s.delivery ∧ t.spindles = s.spindles ∧ t.listA = s.listA ∧ t.listB = s.listB ∧ t.locks = s.locks ∧
      t.shift = s.shift ∧ t.settings = s.settings ∧ t.store = s.store ∧ t.faults = s.faults ∧ t.notices = s.notices := by
  have hx : exec (.doffNow []) s = .next (hold 0x1A (taken
      (if s.delivery.driving then calledState (doffNowCall s) { s with emitted := [] }
       else enterParking (doffNowCall s) (calledState (doffNowCall s) { s with emitted := [] })))) := by
    rw [exec_doffNow h, ha { s with emitted := [] } rfl, enterCalled_eq]
    rfl
  cases hd : s.delivery.driving <;> rw [hd] at hx
  · obtain ⟨hreq, hhold, hover⟩ := enterParking_flags (doffNowCall s) (calledState (doffNowCall s) { s with emitted := [] })
    obtain ⟨u, hu, hc, hm, hdoff⟩ := enterParking_changes (doffNowCall s) (calledState (doffNowCall s) { s with emitted := [] })
    rw [hu] at hreq hhold hover
    rw [if_neg Bool.false_ne_true, hu] at hx
    exact ⟨_, hx, rfl, hreq, hhold, hover, parkSent_of_told hc hm, hdoff, rfl, rfl, rfl, rfl, rfl, rfl, rfl, rfl, rfl, rfl⟩
  · exact ⟨_, hx, rfl, rfl, rfl, rfl, ⟨rfl, rfl, rfl⟩, rfl, rfl, rfl, rfl, rfl, rfl, rfl, rfl, rfl, rfl, rfl⟩

/-- Settles O41: the call of R140, and on a stopped frame the entry to PARKING that follows it. -/
theorem doffNowCallsTheDoff : Obligations.DoffNowCallsTheDoff := by
  intro s h
  have refused (o : RequestOutcome) (ho : answerDoffNow { s with emitted := [] } = refuse o { s with emitted := [] }) :
      exec (.doffNow []) s = .next (withReply 0x1A (outcomeByte o) .none s) := by
    rw [exec_doffNow h, ho, hold_refuse]
  cases hph : s.doff.phase with
  | spinning => exact doffNow_calls h fun t ht => by simp only [answerDoffNow, ht, hph]
  | warned => exact doffNow_calls h fun t ht => by simp only [answerDoffNow, ht, hph]
  | restarting => exact refused .wrongState (by simp only [answerDoffNow, hph])
  | _ => exact refused .doffInProgress (by simp only [answerDoffNow, hph])

end Sys2Proof.Machine

/-! # The order timer and the park timer (R88, R94) -/

namespace Sys2Proof.Machine

open Sys2Proof

/-! ## An order timed out (R88) -/

/-- R88: the fault raised and the timeout counted, before the order is given up. -/
def timeoutCounted (r : RecordNo) (side : Side) (o : Order) (s : State) : State :=
  updPiecing (fun p => { p with timedOut := satAdd Config.top32 p.timedOut 1 })
    (updCounters r (fun c => { c with timeouts := satAdd Config.top32 c.timeouts 1 })
      (raiseFault .orderTimeout (.side side) (.spindle o.spindle) s))

theorem timeOutOrder_eq (r : RecordNo) (st : Station) (side : Side) (o : Order) (s : State) :
    timeOutOrder r st side o s =
      testClear (emit (.carriage st.number (if o.parkPending then .park else .poll))
        (updCarriage r (fun c => { c with link := c.link.withWork (if o.parkPending then .parking else .suspect) })
          (dropOrder (some o) (timeoutCounted r side o s)))) := rfl

theorem timeoutCounted_frame (r : RecordNo) (side : Side) (o : Order) (s : State) :
    (timeoutCounted r side o s).spindles = s.spindles ∧
      (timeoutCounted r side o s).shift.piecing.timedOut = min 4294967295 (s.shift.piecing.timedOut + 1) ∧
      carriage (timeoutCounted r side o s) r =
        { carriage s r with
          counters := { (carriage s r).counters with timeouts := min 4294967295 ((carriage s r).counters.timeouts + 1) } } ∧
      (timeoutCounted r side o s).faults.status.getLsbD 1 = true := by
  have hf := raiseFault_getLsbD .orderTimeout (.side side) (.spindle o.spindle) s 1
  rw [timeoutCounted, raiseFault_eq]
  cases r <;> exact ⟨rfl, rfl, rfl, hf.trans (Bool.or_true _)⟩

section
variable {s : State} {r : RecordNo} {st : Station} {side : Side} {pos : Nat} {dir : Direction} {o : Order}

theorem link_timedOut (hl : (carriage s r).link = .enrolled st side pos dir (.busy o)) (w : CarriageWork) :
    carriage (updCarriage r (fun c => { c with link := c.link.withWork w }) (dropOrder (some o) (timeoutCounted r side o s))) r =
      { carriage s r with
        link := .enrolled st side pos dir w
        counters := { (carriage s r).counters with timeouts := min 4294967295 ((carriage s r).counters.timeouts + 1) } } := by
  obtain ⟨-, -, hc, -⟩ := timeoutCounted_frame r side o s
  have hd := (dropOrder_cars (some o) (timeoutCounted r side o s) r).eq_of_not_ready (by rw [hc, hl]; rfl)
  rw [updCarriage_same, hd, hc]
  dsimp only
  rw [hl]; rfl

/-- R88, R142: a record that has timed out is SUSPECT or PARKING, so the frame is not clear. -/
theorem timeOutOrder_enrolled (hl : (carriage s r).link = .enrolled st side pos dir (.busy o)) :
    timeOutOrder r st side o s =
      emit (.carriage st.number (if o.parkPending then .park else .poll))
        (updCarriage r (fun c => { c with link := c.link.withWork (if o.parkPending then .parking else .suspect) })
          (dropOrder (some o) (timeoutCounted r side o s))) := by
  rw [timeOutOrder_eq]
  refine testClear_of_not_clear (r := r) ?_
  have h := link_timedOut hl (if o.parkPending then .parking else .suspect)
  rw [show carriage (emit _ _) r = _ from h]
  cases o.parkPending <;> rfl

theorem orderExpiry_due (hl : (carriage s r).link = .enrolled st side pos dir (.busy o)) (hd : o.deadline ≤ s.delivery.now) :
    orderExpiry r s = timeOutOrder r st side o s := by
  simp only [orderExpiry, hl, if_pos hd]

theorem orderExpiry_not_due (h : ∀ o, (carriage s r).link.order? = some o → s.delivery.now < o.deadline) : orderExpiry r s = s := by
  unfold orderExpiry
  split
  · rename_i o hl
    exact if_neg (Nat.not_le.2 (h o (by rw [hl]; rfl)))
  · rfl

/-- R88: the record, the counts, the messages, the fault and the spindle after an order timeout. -/
theorem orderTimeout_taken {cause : BreakCause} {time : Nat} (hp : s.powered = true)
    (hl : (carriage s r).link = .enrolled st side pos dir (.busy o)) (hd : o.deadline ≤ s.delivery.now)
    (hs : (spindle s o.spindle).state = .piecing cause time) (hn : hasSpindle s o.spindle = true) :
    ∃ t, exec (.orderTimerExpiry r) s = .next t ∧ keepsBoard s t ∧
      (carriage t r).link = .enrolled st side pos dir (if o.parkPending then .parking else .suspect) ∧
      (carriage t r).counters.timeouts = min 4294967295 ((carriage s r).counters.timeouts + 1) ∧
      t.shift.piecing.timedOut = min 4294967295 (s.shift.piecing.timedOut + 1) ∧
      t.emitted.getLast? = some (.carriage st.number (if o.parkPending then .park else .poll)) ∧
      t.faults.status.getLsbD 1 = true ∧ (spindle t o.spindle).attempts ≤ (spindle s o.spindle).attempts ∧
      if (spindle s o.spindle).withholdPending then (spindle t o.spindle).state = .withheld
      else (spindle t o.spindle).state = .broken cause time ∨ (spindle t o.spindle).state = .piecing cause time := by
  have hl0 : (carriage { s with emitted := [] } r).link = .enrolled st side pos dir (.busy o) := by cases r <;> exact hl
  have hx : exec (.orderTimerExpiry r) s = .next (timeOutOrder r st side o { s with emitted := [] }) :=
    (live_powered _ s hp).trans (congrArg _ (orderExpiry_due hl0 hd))
  have hboard := (timeOutOrder_onlyFrameAndDoff r st side o { s with emitted := [] }).keepsBoard
  obtain ⟨hsp, hsum, -, hfault⟩ := timeoutCounted_frame r side o { s with emitted := [] }
  have hcar := link_timedOut hl0 (if o.parkPending then .parking else .suspect)
  have hsame (n : Nat) : spindle (timeoutCounted r side o { s with emitted := [] }) n = spindle s n := by rw [spindle, hsp]; rfl
  have hgiven := dropOrder_givenBack (o := o) (c := cause) (time := time) (s := timeoutCounted r side o { s with emitted := [] })
    (by rw [hasSpindle, hsp]; exact hn) (by rw [hsame]; exact hs)
  rw [hsame] at hgiven
  obtain ⟨k, hk⟩ := dropOrder_sums (some o) (timeoutCounted r side o { s with emitted := [] })
  have hover := dropOrder_overflow (some o) (timeoutCounted r side o { s with emitted := [] }) 1 (by decide)
  rw [timeOutOrder_enrolled hl0] at hx hboard
  obtain ⟨v, hv⟩ := updCarriage_frame r (fun c => { c with link := c.link.withWork (if o.parkPending then .parking else .suspect) })
    (dropOrder (some o) (timeoutCounted r side o { s with emitted := [] }))
  refine ⟨_, hx, hboard, ?_⟩
  rw [hv] at hcar ⊢
  exact ⟨congrArg Carriage.link hcar, (congrArg (·.counters.timeouts) hcar).trans (by cases r <;> rfl),
    (congrArg PiecingCounts.timedOut hk).trans hsum, List.getLast?_concat, hover.trans hfault, hgiven.attempts, hgiven.state⟩

end

/-! ## The park timer (R94) -/

theorem awaitsPark_iff {l : CarriageLink} {st : Station} {side : Side} {pos : Nat} {dir : Direction} {w : CarriageWork}
    (hl : l = .enrolled st side pos dir w) :
    l.awaitsPark = true ↔ w = .parking ∨ (l.order?.map (·.parkPending)) = some true := by
  subst hl
  cases w <;> simp [CarriageLink.awaitsPark, CarriageLink.order?]

theorem parkExpiry_eq (r : RecordNo) (s : State) :
    parkExpiry r s =
      match (carriage s r).link with
      | .enrolled st side _ _ w =>
        if expired (carriage s r).parkTimer s.delivery.now = true ∧
            (w = .parking ∨ ((carriage s r).link.order?.map (·.parkPending)) = some true) then
          raiseFault .parkTimeout (.side side) (.station st.number) (updCarriage r (fun c => { c with parkTimer := none }) s)
        else s
      | _ => s := by
  unfold parkExpiry
  cases hl : (carriage s r).link with
  | enrolled st side pos dir w => simp only [Bool.and_eq_true, awaitsPark_iff rfl]
  | _ => rfl

/-- Settles O29: the order given up after its timeout is counted; the park timer by the record's work. -/
theorem carriageTimersExpire : Obligations.CarriageTimersExpire := by
  refine ⟨fun s pos dir st side r o cause time hp hl hd hs h1 hle => ?_, fun s r hp h => ?_, fun s r hp => ?_⟩
  · exact orderTimeout_taken hp hl hd hs ((hasSpindle_iff _ _).2 ⟨h1, hle⟩)
  · refine (live_powered _ s hp).trans (congrArg _ (orderExpiry_not_due ?_))
    cases r <;> exact h
  · refine (live_powered _ s hp).trans (congrArg _ ((parkExpiry_eq r _).trans ?_))
    cases r <;> rfl

end Sys2Proof.Machine

/-! # A record made ABSENT, and what its dropped order leaves (R77, R91, R142) -/

namespace Sys2Proof.Machine

open Sys2Proof

/-- R83: an order given leaves a record its side. -/
theorem Carriage.Ordered.side? {c d : Carriage} (h : c.Ordered d) : d.link.side? = c.link.side? := by
  cases h with
  | stands => rfl
  | given _ _ hl _ => rw [hl]; rfl

/-! ## The doff sequencer told of a record (R77, R142) -/

/-- R142: in PARKING a clear frame has brought DOFFING; otherwise the doff sequencer stands. -/
def DoffTested (s : State) (clear : Bool) (t : State) : Prop :=
  match s.doff.phase with
  | .parking call => if clear = true then ∃ record, t.doff.phase = .doffing call record else t.doff = s.doff
  | _ => t.doff = s.doff

theorem testClear_tested (s : State) : DoffTested s (frameClear s) (testClear s) := by
  unfold DoffTested
  split
  · rename_i call hph
    split
    · rename_i hc; exact testClear_clear hph hc
    · rename_i hc; simp only [testClear, hph, if_neg hc]
  · rename_i hph; rw [testClear_outside hph]

theorem DoffTested.congr {s u t : State} {clear : Bool} (h : DoffTested u clear t) (hd : u.doff = s.doff) :
    DoffTested s clear t := by
  rw [DoffTested, hd] at h; exact h

theorem DoffTested.parking {s t : State} {clear : Bool} {call : CallInfo} (h : DoffTested s clear t)
    (hph : s.doff.phase = .parking call) :
    if clear = true then ∃ record, t.doff.phase = .doffing call record else t.doff = s.doff := by
  rw [DoffTested, hph] at h; exact h

theorem DoffTested.stands {s t : State} {clear : Bool} (h : DoffTested s clear t)
    (hph : ∀ call, s.doff.phase = .parking call → clear = false) : t.doff = s.doff := by
  unfold DoffTested at h
  split at h
  · rename_i call hc
    rw [hph call hc, if_neg Bool.false_ne_true] at h; exact h
  · exact h

theorem DoffTested.after {s t u : State} {clear : Bool} (k : DoffTested t clear u) (h : DoffTested s clear t) :
    DoffTested s clear u := by
  by_cases hph : ∃ call, s.doff.phase = .parking call ∧ clear = true
  · obtain ⟨call, hph, rfl⟩ := hph
    obtain ⟨record, ht⟩ := h.parking hph
    have hu : u.doff = t.doff := k.stands fun _ hc => by rw [ht] at hc; cases hc
    rw [DoffTested, hph]
    exact ⟨record, by rw [hu]; exact ht⟩
  · have ht : t.doff = s.doff := h.stands fun call hc => by
      rw [← Bool.not_eq_true]; exact fun hcl => hph ⟨call, hc, hcl⟩
    exact k.congr ht

/-! ## The spindle of the order (R44, R91) -/

/-- R91: the spindle that was PIECING under the order has been given back. -/
def OrderGivenBack (w : CarriageWork) (s t : State) : Prop :=
  ∀ (o : Order) (cause : BreakCause) (time : Nat), w = .busy o → (spindle s o.spindle).state = .piecing cause time →
    hasSpindle s o.spindle = true → (spindle s o.spindle).GivenBack cause time (spindle t o.spindle)

namespace OrderGivenBack

variable {w : CarriageWork} {s t u v : State}

theorem congr (h : OrderGivenBack w u t) (hs : u.spindles = s.spindles) (ht : v.spindles = t.spindles) : OrderGivenBack w s v := by
  intro o cause time hw hst hn
  have hu : spindle u o.spindle = spindle s o.spindle := by rw [spindle, hs]; rfl
  have hv : spindle v o.spindle = spindle t o.spindle := by rw [spindle, ht]; rfl
  have k := h o cause time hw (by rw [hu]; exact hst) (by rw [hasSpindle, hs]; exact hn)
  rw [hu] at k; rw [hv]
  exact k

theorem passes (h : OrderGivenBack w s t) (k : DispatchesAny t u) : OrderGivenBack w s u :=
  fun o cause time hw hst hn => (h o cause time hw hst hn).passes (k.passes _)

/-- R44, R91: the state of the spindle, in the words of the statements. -/
theorem outcome (h : OrderGivenBack w s t) (o : Order) (cause : BreakCause) (time : Nat) (hw : w = .busy o)
    (hst : (spindle s o.spindle).state = .piecing cause time) (h1 : 1 ≤ o.spindle) (hle : o.spindle ≤ s.spindles.length) :
    if (spindle s o.spindle).withholdPending then (spindle t o.spindle).state = .withheld
    else (spindle t o.spindle).state = .broken cause time ∨ (spindle t o.spindle).state = .piecing cause time :=
  (h o cause time hw hst ((hasSpindle_iff _ _).2 ⟨h1, hle⟩)).state

end OrderGivenBack

theorem dropOrder_ordersBack (st : Station) (side : Side) (pos : Nat) (dir : Direction) (w : CarriageWork) (s : State) :
    OrderGivenBack w s (dropOrder (CarriageLink.enrolled st side pos dir w).order? s) := by
  rintro o cause time rfl hst hn
  exact dropOrder_givenBack hn hst

theorem dropOrder_doff (o : Option Order) (s : State) : (dropOrder o s).doff = s.doff := (dropOrder_onlyFrame o s).keepsOuter.2.1

/-! ## The record ABSENT (R91) -/

/-- R91: the record is ABSENT, and CARRIAGE_LOST is raised where its link is lost; its order is not dropped yet. -/
def absentedFirst (r : RecordNo) (lost : Bool) (s : State) : State :=
  match (carriage s r).link with
  | .enrolled st side _ _ _ =>
    if lost then raiseFault .carriageLost (.side side) (.station st.number) (updCarriage r Carriage.absented s)
    else updCarriage r Carriage.absented s
  | _ => updCarriage r Carriage.absented s

theorem makeAbsent_eq (r : RecordNo) (lost : Bool) (s : State) :
    makeAbsent r lost s = testClear (dropOrder (carriage s r).link.order? (absentedFirst r lost s)) := rfl

theorem absentedFirst_onlyRecords (r : RecordNo) (lost : Bool) (s : State) :
    ∃ f ns, absentedFirst r lost s = { updCarriage r Carriage.absented s with faults := f, notices := ns } := by
  unfold absentedFirst
  split
  · split
    · exact ⟨_, _, raiseFault_eq _ _ _ _⟩
    · exact ⟨_, _, rfl⟩
  · exact ⟨_, _, rfl⟩

theorem absentedFirst_frame (r : RecordNo) (lost : Bool) (s : State) :
    carriage (absentedFirst r lost s) r = (carriage s r).absented ∧
      carriage (absentedFirst r lost s) (otherRecord r) = carriage s (otherRecord r) ∧
      (absentedFirst r lost s).spindles = s.spindles ∧ (absentedFirst r lost s).shift = s.shift ∧
      (absentedFirst r lost s).emitted = s.emitted ∧ (absentedFirst r lost s).doff = s.doff := by
  obtain ⟨f, ns, h⟩ := absentedFirst_onlyRecords r lost s
  rw [h]
  cases r <;> exact ⟨rfl, rfl, rfl, rfl, rfl, rfl⟩

/-- What is left of an enrolled record with this work once it has been made ABSENT. -/
structure MadeAbsent (r : RecordNo) (w : CarriageWork) (s t : State) : Prop where
  frame : onlyFrameAndDoff s t
  record : carriage t r = (carriage s r).absented
  other : (carriage s (otherRecord r)).Ordered (carriage t (otherRecord r))
  sums : SumsStand s t
  sent : s.emitted <+: t.emitted
  back : OrderGivenBack w s t
  doff : DoffTested s (carriage s (otherRecord r)).link.isClear t

section
variable {s : State} {r : RecordNo} {st : Station} {side : Side} {pos : Nat} {dir : Direction} {w : CarriageWork}

theorem makeAbsent_made (lost : Bool) (hl : (carriage s r).link = .enrolled st side pos dir w) :
    MadeAbsent r w s (makeAbsent r lost s) := by
  obtain ⟨hrec, hother, hsp, hshift, hsent, hdoff⟩ := absentedFirst_frame r lost s
  have hcars := dropOrder_cars (carriage s r).link.order? (absentedFirst r lost s)
  have hr := (hcars r).eq_of_not_ready (by rw [hrec]; rfl)
  have ho := hcars (otherRecord r)
  have hsums := dropOrder_sums (carriage s r).link.order? (absentedFirst r lost s)
  have hpre := dropOrder_sent (carriage s r).link.order? (absentedFirst r lost s)
  have hback : OrderGivenBack w (absentedFirst r lost s) (dropOrder (carriage s r).link.order? (absentedFirst r lost s)) := by
    rw [hl]; exact dropOrder_ordersBack _ _ _ _ _ _
  have htest := testClear_tested (dropOrder (carriage s r).link.order? (absentedFirst r lost s))
  rw [hrec] at hr
  rw [hother] at ho
  rw [hsent] at hpre
  rw [frameClear_eq _ r, hr, ho.isClear] at htest
  have hframe := makeAbsent_onlyFrameAndDoff r lost s
  rw [makeAbsent_eq] at hframe ⊢
  have hd := htest.congr ((dropOrder_doff _ _).trans hdoff)
  rw [testClear_eq] at hframe hd ⊢
  exact
    { frame := hframe, record := hr, other := ho, sums := SumsStand.after hsums (.of_eq (by rw [hshift])), sent := hpre
      back := hback.congr hsp rfl, doff := hd }

/-- R80, R92: without a loss no fault but a full list's is raised. -/
theorem makeAbsent_overflow (r : RecordNo) (s : State) : OverflowAtMost s (makeAbsent r false s) := by
  have h0 : OverflowAtMost s (absentedFirst r false s) := by
    unfold absentedFirst
    cases (carriage s r).link <;> cases r <;> exact .of_eq rfl
  have h := (dropOrder_overflow (carriage s r).link.order? (absentedFirst r false s)).after h0
  rw [makeAbsent_eq, testClear_eq]
  exact h

/-- R80, R92: with no order to drop no fault is raised. -/
theorem makeAbsent_faults (h : (carriage s r).link.order? = none) :
    (makeAbsent r false s).faults = s.faults ∧ (makeAbsent r false s).notices = s.notices := by
  rw [makeAbsent_eq, h, dropOrder, testClear_eq, absentedFirst]
  cases (carriage s r).link <;> cases r <;> exact ⟨rfl, rfl⟩

/-- R91: the fault of a lost link. -/
theorem makeAbsent_lost (hl : (carriage s r).link = .enrolled st side pos dir w) :
    (makeAbsent r true s).faults.status.getLsbD 2 = true := by
  have h0 : (absentedFirst r true s).faults.status.getLsbD 2 = true := by
    simp only [absentedFirst, hl, if_true]
    exact (raiseFault_getLsbD .carriageLost (.side side) (.station st.number) _ 2).trans (Bool.or_true _)
  have h := dropOrder_overflow (carriage s r).link.order? (absentedFirst r true s) 2 (by decide)
  rw [makeAbsent_eq, testClear_eq]
  exact h.trans h0

end

end Sys2Proof.Machine

/-! # The checks of an enrolment, and its two ends (R78, R79) -/

namespace Sys2Proof.Machine

open Sys2Proof

/-- R79: the first reason that refuses a claim of a side at a record. -/
def refusalOf (r : RecordNo) (st : Station) (claimed : Side) (s : State) : Option RefuseReason :=
  if sideConfigured s claimed = false then some .noSide
  else if st.abilities.pieces = false ∨ st.abilities.parks = false then some .noAbility
  else if (carriage s (otherRecord r)).link.side? = some claimed then some .sideHeld
  else none

section
variable {s t : State} {r : RecordNo} {st : Station} {claimed : Side} {reason : RefuseReason}

theorem sideConfigured_congr (hd : t.delivery = s.delivery) (side : Side) : sideConfigured t side = sideConfigured s side := by
  unfold sideConfigured; rw [hd]

theorem refusalOf_congr (hd : t.delivery = s.delivery)
    (ho : (carriage t (otherRecord r)).link.side? = (carriage s (otherRecord r)).link.side?) :
    refusalOf r st claimed t = refusalOf r st claimed s := by
  rw [refusalOf, refusalOf, sideConfigured_congr hd, ho]

theorem carriage_emit (o : Output) (s : State) (r : RecordNo) : carriage (emit o s) r = carriage s r := by cases r <;> rfl

/-- R79: which of the checks fail decides whether a claim is refused. -/
theorem refusalOf_eq_none (r : RecordNo) (st : Station) (claimed : Side) (s : State) :
    refusalOf r st claimed s = none ↔
      sideConfigured s claimed = true ∧ st.abilities.pieces = true ∧ st.abilities.parks = true ∧
        (carriage s (otherRecord r)).link.side? ≠ some claimed := by
  unfold refusalOf
  cases sideConfigured s claimed <;> cases st.abilities.pieces <;> cases st.abilities.parks <;> simp

theorem enrol_eq (r : RecordNo) (st : Station) (claimed : Side) (s : State) :
    enrol r st claimed s =
      match refusalOf r st claimed s with
      | some reason => rejectEnrolment r st claimed reason s
      | none =>
        match s.doff.phase with
        | .doffing _ _ => updCarriage r Carriage.absented (emit (.carriage st.number .wait) s)
        | .parking _ => acceptEnrolment r st claimed .parking s
        | .called _ => acceptEnrolment r st claimed .parked s
        | _ => acceptEnrolment r st claimed .ready s := by
  unfold enrol refusalOf
  cases sideConfigured s claimed
  · rfl
  · cases st.abilities.pieces
    · rfl
    · cases st.abilities.parks
      · rfl
      · by_cases ho : (carriage s (otherRecord r)).link.side? = some claimed
        · simp [ho]
        · simp only [Bool.not_true, Bool.and_self, Bool.false_eq_true, if_false, if_neg ho, or_self, Bool.true_eq_false]
          cases s.doff.phase <;> rfl

theorem enrol_refused (h : refusalOf r st claimed s = some reason) : enrol r st claimed s = rejectEnrolment r st claimed reason s := by
  rw [enrol_eq, h]

theorem enrol_doffing {call : CallInfo} {record : DoffRecord} (h : refusalOf r st claimed s = none)
    (hph : s.doff.phase = .doffing call record) :
    enrol r st claimed s = updCarriage r Carriage.absented (emit (.carriage st.number .wait) s) := by
  rw [enrol_eq, h]; simp only [hph]

theorem enrol_parking {call : CallInfo} (h : refusalOf r st claimed s = none) (hph : s.doff.phase = .parking call) :
    enrol r st claimed s = acceptEnrolment r st claimed .parking s := by
  rw [enrol_eq, h]; simp only [hph]

theorem enrol_called {call : CallInfo} (h : refusalOf r st claimed s = none) (hph : s.doff.phase = .called call) :
    enrol r st claimed s = acceptEnrolment r st claimed .parked s := by
  rw [enrol_eq, h]; simp only [hph]

/-- R79: outside CALLED, PARKING and DOFFING an accepted record is READY. -/
theorem enrol_ready (h : refusalOf r st claimed s = none) (hc : s.doff.phase.callInfo = none) :
    enrol r st claimed s = acceptEnrolment r st claimed .ready s := by
  rw [enrol_eq, h]
  cases hph : s.doff.phase with
  | called => rw [hph] at hc; cases hc
  | parking => rw [hph] at hc; cases hc
  | doffing => rw [hph] at hc; cases hc
  | _ => rfl

/-! ## A claim refused -/

/-- R79: REFUSE sent and the record REJECTED, before the fault. -/
def refusalSent (r : RecordNo) (st : Station) (claimed : Side) (reason : RefuseReason) (s : State) : State :=
  signOfLife r (updCarriage r (fun c => { c with link := .rejected st claimed }) (emit (.carriage st.number (.refuse reason)) s))

theorem rejectEnrolment_eq (r : RecordNo) (st : Station) (claimed : Side) (reason : RefuseReason) (s : State) :
    rejectEnrolment r st claimed reason s =
      testClear (raiseFault .carriageConflict (.side claimed) (.conflict st.number reason) (refusalSent r st claimed reason s)) := rfl

/-- R79: what a refusal leaves. -/
structure EnrolmentRefused (r : RecordNo) (st : Station) (claimed : Side) (reason : RefuseReason) (s t : State) : Prop where
  frame : onlyFrameAndDoff s t
  record : carriage t r = { carriage s r with link := .rejected st claimed, linkTimer := some (s.delivery.now + 5) }
  sent : t.emitted = s.emitted ++ [.carriage st.number (.refuse reason)]
  faults : t.faults = (raiseFault .carriageConflict (.side claimed) (.conflict st.number reason) s).faults
  spindles : t.spindles = s.spindles
  doff : DoffTested s (carriage s (otherRecord r)).link.isClear t

theorem rejectEnrolment_refused (r : RecordNo) (st : Station) (claimed : Side) (reason : RefuseReason) (s : State) :
    EnrolmentRefused r st claimed reason s (rejectEnrolment r st claimed reason s) := by
  have hframe := rejectEnrolment_onlyFrameAndDoff r st claimed reason s
  have hfault : (raiseFault .carriageConflict (.side claimed) (.conflict st.number reason) (refusalSent r st claimed reason s)).faults =
      (raiseFault .carriageConflict (.side claimed) (.conflict st.number reason) s).faults :=
    raiseFault_faults_congr _ _ _ (by cases r <;> rfl) (by cases r <;> rfl) (by cases r <;> rfl)
  have htest := testClear_tested
    (raiseFault .carriageConflict (.side claimed) (.conflict st.number reason) (refusalSent r st claimed reason s))
  rw [frameClear_eq _ r] at htest
  rw [rejectEnrolment_eq] at hframe ⊢
  rw [testClear_eq] at hframe htest ⊢
  rw [raiseFault_eq] at hframe htest ⊢
  cases r <;> exact ⟨hframe, rfl, rfl, hfault, rfl, htest⟩

/-! ## A claim accepted -/

/-- R79: ACCEPT (and PARK) sent, the record in the state of work given, and the notice raised, before the dispatch. -/
def acceptanceSent (r : RecordNo) (st : Station) (side : Side) (w : CarriageWork) (s : State) : State :=
  let accepted := emit (.carriage st.number (.accept side (firstSpindle s side) (lastSpindle s side))) s
  let told := if w = .ready then accepted else emit (.carriage st.number .park) accepted
  raiseNotice .carriageEnrolled .info (.side side) (.station st.number) <|
    signOfLife r <|
      updCarriage r (fun c =>
        { c with
          link := .enrolled st side (firstSpindle s side) .up w
          parkTimer := if w = .parking then some (s.delivery.now + s.settings.working.parkTimeout) else none }) told

theorem acceptEnrolment_eq (r : RecordNo) (st : Station) (side : Side) (w : CarriageWork) (s : State) :
    acceptEnrolment r st side w s = testClear (dispatch r (acceptanceSent r st side w s)) := rfl

/-- R79: the messages of an acceptance. -/
def acceptanceOf (st : Station) (side : Side) (w : CarriageWork) (s : State) : List Output :=
  .carriage st.number (.accept side (firstSpindle s side) (lastSpindle s side)) ::
    if w = .ready then [] else [.carriage st.number .park]

theorem acceptanceSent_frame (r : RecordNo) (st : Station) (side : Side) (w : CarriageWork) (s : State) :
    carriage (acceptanceSent r st side w s) r =
        { carriage s r with
          link := .enrolled st side (firstSpindle s side) .up w
          parkTimer := if w = .parking then some (s.delivery.now + s.settings.working.parkTimeout) else none
          linkTimer := some (s.delivery.now + 5) } ∧
      (acceptanceSent r st side w s).emitted = s.emitted ++ acceptanceOf st side w s ∧
      (acceptanceSent r st side w s).faults = s.faults ∧ (acceptanceSent r st side w s).doff = s.doff ∧
      (acceptanceSent r st side w s).spindles = s.spindles := by
  by_cases hw : w = .ready
  · subst hw
    cases r <;> exact ⟨rfl, rfl, rfl, rfl, rfl⟩
  · simp only [acceptanceSent, acceptanceOf, if_neg hw]
    cases r <;> exact ⟨rfl, (List.append_assoc _ _ _), rfl, rfl, rfl⟩

/-- R81: orders are dispatched to READY records alone. -/
theorem dispatch_of_not_ready (h : (carriage s r).link.isReady = false) : dispatch r s = s := by
  unfold dispatch dispatchAmong
  split
  · rename_i hl; rw [hl] at h; cases h
  · rfl

/-- R79: what an acceptance leaves of a record given this work. -/
structure EnrolmentAccepted (r : RecordNo) (st : Station) (side : Side) (w : CarriageWork) (s t : State) : Prop where
  frame : onlyFrameAndDoff s t
  record : Carriage.Ordered
    { carriage s r with
      link := .enrolled st side (firstSpindle s side) .up w
      parkTimer := if w = .parking then some (s.delivery.now + s.settings.working.parkTimeout) else none
      linkTimer := some (s.delivery.now + 5) }
    (carriage t r)
  sent : s.emitted ++ acceptanceOf st side w s <+: t.emitted
  sentAlone : w ≠ .ready → t.emitted = s.emitted ++ acceptanceOf st side w s
  faults : t.faults = s.faults
  doff : t.doff = s.doff
  back : ∀ {work : CarriageWork} {s0 : State}, OrderGivenBack work s0 s → OrderGivenBack work s0 t

/-- R79: a record READY or PARKING is not clear, and one told to park where the doff is called is not tested for. -/
theorem acceptEnrolment_accepted {w : CarriageWork}
    (hw : (CarriageLink.enrolled st claimed (firstSpindle s claimed) .up w).isClear = false ∨ ∀ call, s.doff.phase ≠ .parking call) :
    EnrolmentAccepted r st claimed w s (acceptEnrolment r st claimed w s) := by
  have hframe := acceptEnrolment_onlyFrameAndDoff r st claimed w s
  obtain ⟨hrec, hsent, hfault, hdoff, hsp⟩ := acceptanceSent_frame r st claimed w s
  have hcar := dispatchAmong_cars (fun e => sectorFree (acceptanceSent r st claimed w s) (sectorOf e.spindle)) false r
    (acceptanceSent r st claimed w s) r
  rw [hrec] at hcar
  have hany := dispatch_any r (acceptanceSent r st claimed w s)
  have htest : acceptEnrolment r st claimed w s = dispatch r (acceptanceSent r st claimed w s) := by
    rw [acceptEnrolment_eq]
    rcases hw with hw | hw
    · exact testClear_of_not_clear (hcar.isClear.trans hw)
    · exact testClear_outside fun call => by rw [hany.doff, hdoff]; exact hw call
  rw [htest] at hframe ⊢
  refine
    { frame := hframe, record := hcar, sent := ?_, sentAlone := fun hr => ?_, faults := ?_, doff := hany.doff.trans hdoff
      back := fun h => (h.congr rfl hsp).passes hany }
  · rw [← hsent]; exact (dispatchAmong_continues _ _ _ _).sent
  · rw [← hsent, dispatch_of_not_ready]
    rw [hrec]
    cases w with
    | ready => exact absurd rfl hr
    | _ => rfl
  · exact (dispatch_onlyTables r _).keepsReports.1.trans hfault

/-- R83: a record that was READY is READY or BUSY, its timers as they were. -/
theorem Carriage.Ordered.ready_or_busy {c d : Carriage} {side : Side} {pos : Nat} {dir : Direction} (h : c.Ordered d)
    (hl : c.link = .enrolled st side pos dir .ready) :
    (d.link = .enrolled st side pos dir .ready ∨ ∃ o, d.link = .enrolled st side pos dir (.busy o)) ∧ d.linkTimer = c.linkTimer := by
  cases h with
  | stands => exact ⟨.inl hl, rfl⟩
  | given o k hl' _ => rw [hl] at hl'; cases hl'; exact ⟨.inr ⟨o, rfl⟩, rfl⟩

end

/-! ## An ABILITY as it arrives (R72, R78, R80, R91) -/

/-- The state in which a station's claim is judged: nothing sent, and the link-loss timer of the record as the sign of life left it. -/
def heardAs (r : RecordNo) (x : Option Nat) (s : State) : State :=
  updCarriage r (fun c => { c with linkTimer := x }) { s with emitted := [] }

theorem heardAs_self (r : RecordNo) (s : State) : heardAs r (carriage s r).linkTimer s = { s with emitted := [] } := by cases r <;> rfl

theorem carriage_heardAs (r : RecordNo) (x : Option Nat) (s : State) :
    carriage (heardAs r x s) r = { carriage s r with linkTimer := x } ∧
      carriage (heardAs r x s) (otherRecord r) = carriage s (otherRecord r) := by cases r <;> exact ⟨rfl, rfl⟩

theorem refusalOf_heardAs (r : RecordNo) (x : Option Nat) (st : Station) (claimed : Side) (s : State) :
    refusalOf r st claimed (heardAs r x s) = refusalOf r st claimed s :=
  refusalOf_congr (by cases r <;> rfl) (by rw [(carriage_heardAs r x s).2])

section
variable {s : State} {r : RecordNo} {station revision : Nat} {abilities : AbilitySet}

theorem exec_ability (claimed : Side) (hp : s.powered = true) (h1 : 1 ≤ station) (h15 : station ≤ 15) (hv : revision ≤ 255) :
    exec (.ability station claimed abilities revision) s =
      .next (enrolStation { number := station, abilities := abilities, revision := revision } claimed
        (heard station { s with emitted := [] })) := by
  have hok : (stationOk station && decide (revision ≤ 255)) = true := by simp [stationOk, h1, h15, hv]
  exact (live_powered _ s hp).trans (congrArg _ (if_pos hok))

theorem recordOfStation_heardFrom (r : RecordNo) (s : State) (n : Nat) : recordOfStation (heardFrom r s) n = recordOfStation s n := by
  cases r <;> rfl

/-- R78: the record that a station not enrolled holds, or else is given. -/
theorem exec_ability_unenrolled (claimed : Side) (hp : s.powered = true) (h1 : 1 ≤ station) (h15 : station ≤ 15) (hv : revision ≤ 255)
    (hr : (recordOfStation s station = some r ∧ (carriage s r).link.isEnrolled = false) ∨
      (recordOfStation s station = none ∧ absentRecord s = some r)) :
    ∃ x, exec (.ability station claimed abilities revision) s =
      .next (enrol r { number := station, abilities := abilities, revision := revision } claimed (heardAs r x s)) := by
  rw [exec_ability claimed hp h1 h15 hv, heard_eq, enrolStation]
  rcases hr with ⟨hr, he⟩ | ⟨hr, ha⟩
  · refine ⟨some (s.delivery.now + 5), ?_⟩
    rw [hr]
    dsimp only
    rw [recordOfStation_heardFrom, hr]
    dsimp only
    rw [link_heardFrom, he]
    rfl
  · refine ⟨(carriage s r).linkTimer, ?_⟩
    rw [heardAs_self, hr]
    dsimp only
    rw [show recordOfStation { s with emitted := [] } station = none from hr,
      show absentRecord { s with emitted := [] } = some r from ha]

/-- R80: an enrolled station's record is made ABSENT before the checks. -/
theorem exec_ability_enrolled {st : Station} {side : Side} {pos : Nat} {dir : Direction} {w : CarriageWork} (claimed : Side)
    (hp : s.powered = true) (hl : (carriage s r).link = .enrolled st side pos dir w) (hr : recordOfStation s st.number = some r)
    (h1 : 1 ≤ st.number) (h15 : st.number ≤ 15) (hv : revision ≤ 255) :
    exec (.ability st.number claimed abilities revision) s =
      .next (enrol r { number := st.number, abilities := abilities, revision := revision } claimed
        (makeAbsent r false (heardFrom r s))) := by
  rw [exec_ability claimed hp h1 h15 hv, heard_eq, hr, enrolStation]
  dsimp only
  rw [recordOfStation_heardFrom, hr]
  dsimp only
  rw [link_heardFrom, hl]
  rfl

/-! ## An enrolled record made ABSENT before the checks (R80) -/

theorem heardFrom_doff_faults (r : RecordNo) (s : State) :
    (heardFrom r s).doff = s.doff ∧ (heardFrom r s).faults = s.faults ∧ (heardFrom r s).spindles = s.spindles := by
  cases r <;> exact ⟨rfl, rfl, rfl⟩

theorem makeAbsent_made_heardFrom {st : Station} {side : Side} {pos : Nat} {dir : Direction} {w : CarriageWork}
    (hl : (carriage s r).link = .enrolled st side pos dir w) : MadeAbsent r w (heardFrom r s) (makeAbsent r false (heardFrom r s)) :=
  makeAbsent_made false (by rw [link_heardFrom]; exact hl)

/-- R79, R80: the claim is judged as it would have been before. -/
theorem refusalOf_makeAbsent {u : State} {w : CarriageWork} (hm : MadeAbsent r w (heardFrom r s) u) (st : Station) (claimed : Side) :
    refusalOf r st claimed u = refusalOf r st claimed s := by
  obtain ⟨-, -, hd, -⟩ := hm.frame.keepsBoard
  have ho := hm.other.side?
  rw [carriage_heardFrom_other] at ho
  exact refusalOf_congr (hd.trans (delivery_heardFrom r s)) ho

end

end Sys2Proof.Machine

/-! # Link loss, release and re-enrolment in DOFFING (R79, R80, R91, R92) -/

namespace Sys2Proof.Machine

open Sys2Proof

/-- R91: the record gone, its tag and counters kept, no order counted as ended, and the spindle given back. -/
structure Gone (r : RecordNo) (w : CarriageWork) (s t : State) : Prop where
  record : carriage t r = (carriage s r).absented
  timedOut : t.shift.piecing.timedOut = s.shift.piecing.timedOut
  cancelled : t.shift.piecing.cancelled = s.shift.piecing.cancelled
  back : OrderGivenBack w s t

/-- The same in the words of O30. -/
theorem Gone.stated {r : RecordNo} {w : CarriageWork} {s t : State} (h : Gone r w s t) :
    carriage t r = { carriage s r with link := .absent, parkTimer := none, linkTimer := none } ∧
      t.shift.piecing.timedOut = s.shift.piecing.timedOut ∧ t.shift.piecing.cancelled = s.shift.piecing.cancelled ∧
      ∀ (o : Order) (cause : BreakCause) (time : Nat), w = .busy o → (spindle s o.spindle).state = .piecing cause time →
        1 ≤ o.spindle → o.spindle ≤ s.spindles.length →
        if (spindle s o.spindle).withholdPending then (spindle t o.spindle).state = .withheld
        else (spindle t o.spindle).state = .broken cause time ∨ (spindle t o.spindle).state = .piecing cause time :=
  ⟨h.record, h.timedOut, h.cancelled, h.back.outcome⟩

/-- What is left of a record that was made ABSENT after messages and signs of life alone. -/
theorem MadeAbsent.gone {r : RecordNo} {w : CarriageWork} {s u t : State} (h : MadeAbsent r w u t)
    (hc : (carriage u r).absented = (carriage s r).absented) (hp : u.shift = s.shift) (hs : u.spindles = s.spindles) :
    Gone r w s t := by
  obtain ⟨k, hk⟩ := h.sums
  rw [hp] at hk
  exact ⟨h.record.trans hc, by rw [hk], by rw [hk], h.back.congr hs rfl⟩

section
variable {s : State} {r : RecordNo} {st : Station} {side : Side} {pos : Nat} {dir : Direction} {w : CarriageWork}

/-! ## A link lost (R91) -/

theorem linkLossExpiry_due {deadline : Nat} (ht : (carriage s r).linkTimer = some deadline) (hd : deadline ≤ s.delivery.now) :
    linkLossExpiry r s = makeAbsent r true s := by
  have h : expired (carriage s r).linkTimer s.delivery.now = true := by rw [ht]; exact decide_eq_true hd
  rw [linkLossExpiry, if_pos h]

theorem exec_linkLoss {deadline : Nat} (hp : s.powered = true) (ht : (carriage s r).linkTimer = some deadline)
    (hd : deadline ≤ s.delivery.now) :
    exec (.linkLossTimerExpiry r) s = .next (makeAbsent r true { s with emitted := [] }) := by
  refine (live_powered _ s hp).trans (congrArg _ (linkLossExpiry_due (deadline := deadline) ?_ hd))
  cases r <;> exact ht

/-! ## A record released (R92) -/

theorem recordOfCode_recordCode (r : RecordNo) : recordOfCode (bodyNumber [BitVec.ofNat 8 (recordCode r)] 0 1) = some r := by
  cases r <;> rfl

theorem recordOfCode_other {code : Byte} (h1 : code ≠ 1) (h2 : code ≠ 2) : recordOfCode (bodyNumber [code] 0 1) = none := by
  have hb : bodyNumber [code] 0 1 = code.toNat := Nat.zero_add _
  rw [hb]
  unfold recordOfCode
  split
  · rename_i h; exact absurd (BitVec.eq_of_toNat_eq h) h1
  · rename_i h; exact absurd (BitVec.eq_of_toNat_eq h) h2
  · rfl

theorem exec_release (h : lineReady s) (code : Byte) :
    exec (.releaseCarriage [code]) s =
      .next (hold 0x1C (answerReleaseCarriage (bodyNumber [code] 0 1) { s with emitted := [] })) :=
  takeRequest_ready 0x1C true (answerReleaseCarriage (bodyNumber [code] 0 1)) s h

/-- R92: the record of the code is released. -/
theorem exec_release_record (h : lineReady s) (r : RecordNo) :
    exec (.releaseCarriage [BitVec.ofNat 8 (recordCode r)]) s =
      .next (hold 0x1C (taken (releaseRecord r { s with emitted := [] }))) := by
  rw [exec_release h, answerReleaseCarriage, recordOfCode_recordCode]

theorem hold_taken_keepsBoard {kind : Nat} {t : State} (h : onlyFrameAndDoff s t) :
    keepsBoard (withReply kind okBody .none s) (hold kind (taken t)) := by
  obtain ⟨u, rfl⟩ := h
  exact ⟨rfl, rfl, rfl, rfl, rfl, rfl, rfl, rfl, rfl, rfl, rfl⟩

/-- R92: REFUSE with reason RELEASED to the record's station, and then the effects of link loss without its fault. -/
theorem exec_release_station (h : lineReady s) (hs : (carriage s r).link.station? = some st) :
    exec (.releaseCarriage [BitVec.ofNat 8 (recordCode r)]) s =
      .next (hold 0x1C (taken (makeAbsent r false (sending [.carriage st.number (.refuse .released)] s)))) := by
  have hs0 : (carriage { s with emitted := [] } r).link.station? = some st := by cases r <;> exact hs
  rw [exec_release_record h]
  simp only [releaseRecord, hs0]
  rfl

theorem sending_onlyPlanner (l : List Output) (s : State) : onlyPlanner s (sending l s) := ⟨sending l s, rfl⟩

theorem carriage_sending (l : List Output) (s : State) (q : RecordNo) : carriage (sending l s) q = carriage s q := by cases q <;> rfl

theorem released_enrolled (h : lineReady s) (hl : (carriage s r).link = .enrolled st side pos dir w) :
    ∃ t, exec (.releaseCarriage [BitVec.ofNat 8 (recordCode r)]) s = .next t ∧ keepsBoard (withReply 0x1C okBody .none s) t ∧
      Gone r w s t ∧ t.emitted.head? = some (.carriage st.number (.refuse .released)) ∧
      t.faults.status.getLsbD 2 = s.faults.status.getLsbD 2 := by
  have hm := makeAbsent_made (s := sending [.carriage st.number (.refuse .released)] s) false (by rw [carriage_sending]; exact hl)
  have hf := makeAbsent_overflow r (sending [.carriage st.number (.refuse .released)] s) 2 (by decide)
  obtain ⟨hrec, htimed, hcancelled, hback⟩ := hm.gone (s := s) (by rw [carriage_sending]) rfl rfl
  exact ⟨_, exec_release_station h (by rw [hl]; rfl),
    hold_taken_keepsBoard (hm.frame.after (sending_onlyPlanner _ s).toTables.toFrame.toDoff),
    ⟨by cases r <;> exact hrec, htimed, hcancelled, hback.congr rfl rfl⟩, head?_of_prefix hm.sent rfl, hf⟩

/-- R77: a REJECTED record has no order, so it is ABSENT and the doff sequencer is told. -/
theorem makeAbsent_rejected (lost : Bool) (hl : (carriage s r).link = .rejected st side) :
    makeAbsent r lost s = testClear (updCarriage r Carriage.absented s) := by
  rw [makeAbsent_eq, absentedFirst, hl]; rfl

/-- R91, R92: a REJECTED record made ABSENT sends nothing and raises nothing. -/
theorem rejected_made_absent (lost : Bool) (hl : (carriage s r).link = .rejected st side) :
    ∃ t, makeAbsent r lost s = t ∧ onlyFrameAndDoff s t ∧ keepsReports s t ∧ t.emitted = s.emitted ∧
      carriage t r = { carriage s r with link := .absent, parkTimer := none, linkTimer := none } ∧
      carriage t (otherRecord r) = carriage s (otherRecord r) := by
  have hf := makeAbsent_onlyFrameAndDoff r lost s
  rw [makeAbsent_rejected lost hl, testClear_eq] at hf ⊢
  refine ⟨_, rfl, hf, ?_⟩
  cases r <;> exact ⟨⟨rfl, rfl⟩, rfl, rfl, rfl⟩

theorem released_rejected (h : lineReady s) (hl : (carriage s r).link = .rejected st side) :
    ∃ t, exec (.releaseCarriage [BitVec.ofNat 8 (recordCode r)]) s = .next t ∧ keepsBoard (withReply 0x1C okBody .none s) t ∧
      keepsReports s t ∧ t.emitted = [.carriage st.number (.refuse .released)] ∧
      carriage t r = { carriage s r with link := .absent, parkTimer := none, linkTimer := none } ∧
      carriage t (otherRecord r) = carriage s (otherRecord r) := by
  obtain ⟨t, ht, hframe, hrep, hsent, hrec, hother⟩ :=
    rejected_made_absent (s := sending [.carriage st.number (.refuse .released)] s) (r := r) false (by rw [carriage_sending]; exact hl)
  rw [carriage_sending] at hrec hother
  refine ⟨_, exec_release_station h (by rw [hl]; rfl), ?_⟩
  rw [ht]
  refine ⟨hold_taken_keepsBoard (hframe.after (sending_onlyPlanner _ s).toTables.toFrame.toDoff), hrep, hsent, ?_⟩
  cases r <;> exact ⟨hrec, hother⟩

/-! ## A station enrolled that claims again in DOFFING (R79, R80) -/

/-- R79, R80: the record is ABSENT, with WAIT the last message. -/
theorem reenrolled_doffing {call : CallInfo} {record : DoffRecord} {abilities : AbilitySet} {revision : Nat} (hp : s.powered = true)
    (hl : (carriage s r).link = .enrolled st side pos dir w) (hph : s.doff.phase = .doffing call record)
    (hr : recordOfStation s st.number = some r) (h1 : 1 ≤ st.number) (h15 : st.number ≤ 15) (hv : revision ≤ 255)
    (hok : refusalOf r { number := st.number, abilities := abilities, revision := revision } side s = none) :
    ∃ t, exec (.ability st.number side abilities revision) s = .next t ∧ Gone r w s t ∧
      t.emitted.getLast? = some (.carriage st.number .wait) ∧ t.faults.status.getLsbD 2 = s.faults.status.getLsbD 2 := by
  have hm := makeAbsent_made_heardFrom hl
  have hf := makeAbsent_overflow r (heardFrom r s) 2 (by decide)
  have hdoff := hm.doff.stands fun c hc => by rw [(heardFrom_doff_faults r s).1, hph] at hc; cases hc
  have hx := exec_ability_enrolled (abilities := abilities) side hp hl hr h1 h15 hv
  rw [enrol_doffing (call := call) (record := record) ((refusalOf_makeAbsent hm _ _).trans hok)
    (by rw [hdoff, (heardFrom_doff_faults r s).1, hph])] at hx
  obtain ⟨hrec, htimed, hcancelled, hback⟩ :=
    hm.gone (s := s) (by rw [carriage_heardFrom, if_pos rfl]; rfl) (shift_heardFrom r s) (heardFrom_doff_faults r s).2.2
  have hcar : carriage (updCarriage r Carriage.absented (emit (.carriage st.number .wait) (makeAbsent r false (heardFrom r s)))) r =
      (carriage s r).absented := by
    rw [updCarriage_same, carriage_emit, hrec]; rfl
  obtain ⟨v, hv⟩ := updCarriage_frame r Carriage.absented (emit (.carriage st.number .wait) (makeAbsent r false (heardFrom r s)))
  rw [hv] at hx hcar
  refine ⟨_, hx, ⟨hcar, htimed, hcancelled, hback.congr rfl rfl⟩, List.getLast?_concat, hf.trans ?_⟩
  rw [(heardFrom_doff_faults r s).2.1]

end

/-- Settles O30: an enrolled record by `makeAbsent_made`, a REJECTED one by `rejected_made_absent`. -/
theorem carriageBecomesAbsent : Obligations.CarriageBecomesAbsent := by
  refine ⟨fun s r pos dir st side w hp hl => ⟨fun deadline ht hd => ?_, fun h => ?_, ?_⟩,
    fun s r h hl => ?_, fun s code h h1 h2 => ?_, fun s r st side h hl => released_rejected h hl, fun s r st side deadline hp hl ht hd => ?_⟩
  · have hl0 : (carriage { s with emitted := [] } r).link = .enrolled st side pos dir w := by cases r <;> exact hl
    have hm := makeAbsent_made true hl0
    exact ⟨_, exec_linkLoss hp ht hd, hm.frame.keepsBoard, (hm.gone (s := s) (by cases r <;> rfl) rfl rfl).stated, makeAbsent_lost hl0⟩
  · obtain ⟨t, hx, hboard, hgone, h⟩ := released_enrolled h hl
    exact ⟨t, hx, hboard, hgone.stated, h⟩
  · rintro ⟨call, record, hph⟩ hr h1 h15 abilities revision hv hpieces hparks hheld hside
    obtain ⟨t, hx, hgone, h⟩ := reenrolled_doffing hp hl hph hr h1 h15 hv
      ((refusalOf_eq_none r { number := st.number, abilities := abilities, revision := revision } side s).2
        ⟨hside, hpieces, hparks, hheld⟩)
    exact ⟨t, hx, hgone.stated, h⟩
  · have hs : releaseRecord r { s with emitted := [] } = { s with emitted := [] } := by
      have h0 : (carriage { s with emitted := [] } r).link = .absent := by cases r <;> exact hl
      simp only [releaseRecord, h0, CarriageLink.station?]
    rw [exec_release_record h, hs]
    rfl
  · rw [exec_release h, answerReleaseCarriage, recordOfCode_other h1 h2]
    exact congrArg _ (hold_refuse _ _ _)
  · obtain ⟨t, ht, hframe, hrep, -, hrec, hother⟩ :=
      rejected_made_absent (s := { s with emitted := [] }) (r := r) true (by cases r <;> exact hl)
    refine ⟨t, (exec_linkLoss hp ‹_› hd).trans (congrArg _ ht), hrep, hframe.keepsBoard, congrArg Carriage.link hrec,
      congrArg Carriage.linkTimer hrec, hother.trans ?_⟩
    cases r <;> rfl

end Sys2Proof.Machine

/-! # An ABILITY judged (R78 to R80, R91) -/

namespace Sys2Proof.Machine

open Sys2Proof

section
variable {s : State} {r : RecordNo} {st : Station} {claimed : Side}

/-! ## The checks in order (R79) -/

theorem refusalOf_noSide (h1 : sideConfigured s claimed = false) : refusalOf r st claimed s = some .noSide := if_pos h1

theorem refusalOf_noAbility (h1 : ¬ sideConfigured s claimed = false) (h2 : st.abilities.pieces = false ∨ st.abilities.parks = false) :
    refusalOf r st claimed s = some .noAbility := (if_neg h1).trans (if_pos h2)

theorem refusalOf_sideHeld (h1 : ¬ sideConfigured s claimed = false)
    (h2 : ¬ (st.abilities.pieces = false ∨ st.abilities.parks = false))
    (h3 : (carriage s (otherRecord r)).link.side? = some claimed) : refusalOf r st claimed s = some .sideHeld :=
  (if_neg h1).trans ((if_neg h2).trans (if_pos h3))

/-- R79: a claim is refused where one of the checks fails. -/
theorem refusalOf_ne_none (r : RecordNo) (st : Station) (claimed : Side) (s : State) :
    refusalOf r st claimed s ≠ none ↔
      sideConfigured s claimed = false ∨ st.abilities.pieces = false ∨ st.abilities.parks = false ∨
        (carriage s (otherRecord r)).link.side? = some claimed := by
  rw [Ne, refusalOf_eq_none]
  cases sideConfigured s claimed <;> cases st.abilities.pieces <;> cases st.abilities.parks <;> simp

theorem refusalOf_nothing (h1 : ¬ sideConfigured s claimed = false)
    (h2 : ¬ (st.abilities.pieces = false ∨ st.abilities.parks = false))
    (h3 : ¬ (carriage s (otherRecord r)).link.side? = some claimed) : refusalOf r st claimed s = none :=
  (if_neg h1).trans ((if_neg h2).trans (if_neg h3))

end

section
variable {s : State} {r : RecordNo} {station revision : Nat} {abilities : AbilitySet} {side : Side} {x : Option Nat}

/-! ## A record that is not enrolled -/

theorem heardAs_frame (r : RecordNo) (x : Option Nat) (s : State) :
    (heardAs r x s).emitted = [] ∧ (heardAs r x s).doff = s.doff ∧ (heardAs r x s).delivery = s.delivery ∧
      (heardAs r x s).settings = s.settings ∧ (heardAs r x s).faults = s.faults ∧ (heardAs r x s).notices = s.notices := by
  cases r <;> exact ⟨rfl, rfl, rfl, rfl, rfl, rfl⟩

theorem keepsBoard_heardAs {t : State} (h : keepsBoard (heardAs r x s) t) : keepsBoard s t := by cases r <;> exact h

/-- R79: the claim refused. -/
theorem unenrolled_refused (st : Station) (reason : RefuseReason) (r : RecordNo) (x : Option Nat) (s : State) :
    let t := rejectEnrolment r st side reason (heardAs r x s)
    t.emitted.head? = some (.carriage st.number (.refuse reason)) ∧
      carriage t r = { carriage s r with link := .rejected st side, linkTimer := some (s.delivery.now + 5) } ∧
      t.faults = (raiseFault .carriageConflict (.side side) (.conflict st.number reason) s).faults := by
  obtain ⟨he, -, hd, hset, hf, -⟩ := heardAs_frame r x s
  have h := rejectEnrolment_refused r st side reason (heardAs r x s)
  have hrec := h.record
  rw [(carriage_heardAs r x s).1, hd] at hrec
  exact ⟨by rw [h.sent, he]; rfl, hrec, h.faults.trans (raiseFault_faults_congr _ _ _ hf hd hset)⟩

theorem sideEnds_heardAs (r : RecordNo) (x : Option Nat) (side : Side) (s : State) :
    firstSpindle (heardAs r x s) side = firstSpindle s side ∧ lastSpindle (heardAs r x s) side = lastSpindle s side := by
  cases r <;> exact ⟨rfl, rfl⟩

/-- R79: the claim accepted where a dispatch may follow. -/
theorem unenrolled_ready (st : Station) (side : Side) (r : RecordNo) (x : Option Nat) (s : State) :
    let t := acceptEnrolment r st side .ready (heardAs r x s)
    let stands := fun work => (carriage t r).link = .enrolled st side (firstSpindle s side) .up work
    t.emitted.head? = some (.carriage st.number (.accept side (firstSpindle s side) (lastSpindle s side))) ∧
      (stands .ready ∨ ∃ o, stands (.busy o)) ∧ (carriage t r).linkTimer = some (s.delivery.now + 5) ∧ t.faults = s.faults := by
  obtain ⟨he, -, hd, -, hf, -⟩ := heardAs_frame r x s
  obtain ⟨hfirst, hlast⟩ := sideEnds_heardAs r x side s
  have ha := acceptEnrolment_accepted (r := r) (st := st) (claimed := side) (s := heardAs r x s) (w := .ready) (.inl rfl)
  obtain ⟨hl, htimer⟩ := ha.record.ready_or_busy rfl
  have hsent := ha.sent
  rw [he, acceptanceOf, hfirst, hlast] at hsent
  rw [hfirst] at hl
  exact ⟨head?_of_prefix hsent rfl, hl, htimer.trans (by rw [← hd]), ha.faults.trans hf⟩

/-- R79: the claim accepted where a doff has been called: PARK follows ACCEPT. -/
theorem unenrolled_told {w : CarriageWork} (st : Station) (r : RecordNo) (x : Option Nat)
    (hw : w = .parking ∨ w = .parked ∧ ∀ call, s.doff.phase ≠ .parking call) :
    let t := acceptEnrolment r st side w (heardAs r x s)
    t.emitted =
        [.carriage st.number (.accept side (firstSpindle s side) (lastSpindle s side)), .carriage st.number .park] ∧
      (carriage t r).link = .enrolled st side (firstSpindle s side) .up w ∧
      (carriage t r).parkTimer = (if w = .parking then some (s.delivery.now + s.settings.working.parkTimeout) else none) ∧
      (carriage t r).linkTimer = some (s.delivery.now + 5) ∧ t.faults = s.faults := by
  obtain ⟨he, hdoff, hd, hset, hf, -⟩ := heardAs_frame r x s
  obtain ⟨hfirst, hlast⟩ := sideEnds_heardAs r x side s
  have hne : w ≠ .ready := by rcases hw with rfl | ⟨rfl, -⟩ <;> exact CarriageWork.noConfusion
  have ha : EnrolmentAccepted r st side w (heardAs r x s) (acceptEnrolment r st side w (heardAs r x s)) := by
    refine acceptEnrolment_accepted ?_
    rcases hw with rfl | ⟨rfl, hph⟩
    · exact .inl rfl
    · exact .inr (by rw [hdoff]; exact hph)
  have hrec := ha.record.eq_of_not_ready (by rcases hw with rfl | ⟨rfl, -⟩ <;> rfl)
  have hsent := ha.sentAlone hne
  rw [he, acceptanceOf, hfirst, hlast, if_neg hne] at hsent
  rw [hfirst, hd, hset] at hrec
  exact ⟨hsent, congrArg Carriage.link hrec, congrArg Carriage.parkTimer hrec, congrArg Carriage.linkTimer hrec,
    ha.faults.trans hf⟩

/-- R79: a station is told to wait while the doffer works. -/
theorem unenrolled_waits (st : Station) (r : RecordNo) (x : Option Nat) (s : State) :
    let t := updCarriage r Carriage.absented (emit (.carriage st.number .wait) (heardAs r x s))
    t.emitted = [.carriage st.number .wait] ∧ (carriage t r).link = .absent ∧ t.faults = s.faults ∧ t.notices = s.notices := by
  cases r <;> exact ⟨rfl, rfl, rfl, rfl⟩

/-- R79: the answer to a claim that passes the checks, by the doff state. -/
theorem unenrolled_by_phase {st : Station} (hok : refusalOf r st side s = none) (x : Option Nat) :
    let t := enrol r st side (heardAs r x s)
    let accept : Output := .carriage st.number (.accept side (firstSpindle s side) (lastSpindle s side))
    let stands := fun work => (carriage t r).link = .enrolled st side (firstSpindle s side) .up work
    let heard := (carriage t r).linkTimer = some (s.delivery.now + 5) ∧ t.faults = s.faults
    match s.doff.phase with
    | .doffing _ _ =>
      t.emitted = [.carriage st.number .wait] ∧ (carriage t r).link = .absent ∧ t.faults = s.faults ∧ t.notices = s.notices
    | .parking _ =>
      t.emitted = [accept, .carriage st.number .park] ∧ stands .parking ∧
        (carriage t r).parkTimer = some (s.delivery.now + s.settings.working.parkTimeout) ∧ heard
    | .called _ => t.emitted = [accept, .carriage st.number .park] ∧ stands .parked ∧ (carriage t r).parkTimer = none ∧ heard
    | _ => t.emitted.head? = some accept ∧ (stands .ready ∨ ∃ o, stands (.busy o)) ∧ heard := by
  have hdoff := (heardAs_frame r x s).2.1
  have hok' := (refusalOf_heardAs r x st side s).trans hok
  have ready (hc : s.doff.phase.callInfo = none) := enrol_ready hok' (by rw [hdoff]; exact hc)
  dsimp only
  cases hph : s.doff.phase with
  | doffing call record =>
    rw [enrol_doffing hok' (hdoff ▸ hph)]
    exact unenrolled_waits st r x s
  | parking call =>
    rw [enrol_parking hok' (hdoff ▸ hph)]
    exact unenrolled_told st r x (.inl rfl)
  | called call =>
    rw [enrol_called hok' (hdoff ▸ hph)]
    exact unenrolled_told st r x (.inr ⟨rfl, fun c hc => by rw [hph] at hc; cases hc⟩)
  | spinning =>
    rw [ready (by rw [hph]; rfl)]
    exact unenrolled_ready st side r x s
  | warned =>
    rw [ready (by rw [hph]; rfl)]
    exact unenrolled_ready st side r x s
  | restarting =>
    rw [ready (by rw [hph]; rfl)]
    exact unenrolled_ready st side r x s

end

/-! ## A record that is enrolled -/

section
variable {s : State} {r : RecordNo} {st : Station} {side claimed : Side} {pos revision : Nat} {dir : Direction} {w : CarriageWork}
  {now : Station}

/-- R79, R80: the claim of an enrolled station refused, its record made ABSENT before. -/
theorem reenrolled_refused (now : Station) (reason : RefuseReason) (hl : (carriage s r).link = .enrolled st side pos dir w) :
    let t := rejectEnrolment r now claimed reason (makeAbsent r false (heardFrom r s))
    keepsBoard s t ∧
      carriage t r =
        { carriage s r with link := .rejected now claimed, parkTimer := none, linkTimer := some (s.delivery.now + 5) } ∧
      OrderGivenBack w s t ∧ t.faults.status.getLsbD 2 = s.faults.status.getLsbD 2 ∧ t.faults.status.getLsbD 3 = true ∧
      t.emitted.getLast? = some (.carriage now.number (.refuse reason)) ∧
      ((∀ o, w ≠ .busy o) → t.faults = (raiseFault .carriageConflict (.side claimed) (.conflict now.number reason) s).faults) ∧
      DoffTested s (carriage s (otherRecord r)).link.isClear t := by
  have hm := makeAbsent_made_heardFrom hl
  have hover := makeAbsent_overflow r (heardFrom r s) 2 (by decide)
  have hj := rejectEnrolment_refused r now claimed reason (makeAbsent r false (heardFrom r s))
  obtain ⟨hdoff, hfaults, hspindles⟩ := heardFrom_doff_faults r s
  obtain ⟨-, -, hdel, -, -, -, -, -, hset, -⟩ := keepsBoard_heardFrom hm.frame.keepsBoard
  have hrec := hj.record
  rw [hm.record, carriage_heardFrom, if_pos rfl, hdel] at hrec
  have hbit (i : Nat) := congrArg (·.status.getLsbD i) hj.faults
  simp only [raiseFault_getLsbD] at hbit
  have htest := hj.doff
  rw [hm.other.isClear, carriage_heardFrom_other] at htest
  have hfirst := hm.doff
  rw [carriage_heardFrom_other] at hfirst
  refine ⟨keepsBoard_heardFrom (hj.frame.after hm.frame).keepsBoard, hrec, hm.back.congr hspindles hj.spindles, ?_, ?_,
    by rw [hj.sent]; exact List.getLast?_concat, fun hw => hj.faults.trans ?_, htest.after (hfirst.congr hdoff)⟩
  · rw [hbit, hover, hfaults]; exact Bool.or_false _
  · rw [hbit]; exact Bool.or_true _
  · have hnone : (carriage (heardFrom r s) r).link.order? = none := by
      rw [link_heardFrom, hl]
      cases w with
      | busy o => exact absurd rfl (hw o)
      | _ => rfl
    exact raiseFault_faults_congr _ _ _ ((makeAbsent_faults hnone).1.trans hfaults) hdel hset

/-- R80: what stands after the claim of an enrolled station that is not refused. -/
structure EnrolledAnew (w : CarriageWork) (s t : State) : Prop where
  board : keepsBoard s t
  lost : t.faults.status.getLsbD 2 = s.faults.status.getLsbD 2
  conflict : t.faults.status.getLsbD 3 = s.faults.status.getLsbD 3
  back : OrderGivenBack w s t

theorem MadeAbsent.leaves {t : State} (hm : MadeAbsent r w (heardFrom r s) (makeAbsent r false (heardFrom r s)))
    (hframe : onlyFrameAndDoff (makeAbsent r false (heardFrom r s)) t) (hf : t.faults = (makeAbsent r false (heardFrom r s)).faults)
    (hb : OrderGivenBack w (heardFrom r s) t) : EnrolledAnew w s t := by
  obtain ⟨-, hfaults, hspindles⟩ := heardFrom_doff_faults r s
  have hover := makeAbsent_overflow r (heardFrom r s)
  refine ⟨keepsBoard_heardFrom (hframe.after hm.frame).keepsBoard, ?_, ?_, hb.congr hspindles rfl⟩
  · rw [hf, hover 2 (by decide), hfaults]
  · rw [hf, hover 3 (by decide), hfaults]

/-- R79: an accepted record with this work, ACCEPT sent. -/
def StandsAnew (r : RecordNo) (now : Station) (claimed : Side) (work : CarriageWork) (s t : State) : Prop :=
  (carriage t r).link = .enrolled now claimed (firstSpindle s claimed) .up work ∧
    (carriage t r).linkTimer = some (s.delivery.now + 5) ∧
    Output.carriage now.number (.accept claimed (firstSpindle s claimed) (lastSpindle s claimed)) ∈ t.emitted

section
variable {u t : State} {work : CarriageWork}

theorem sideEnds_makeAbsent (hm : MadeAbsent r w (heardFrom r s) u) (side : Side) :
    firstSpindle u side = firstSpindle s side ∧ lastSpindle u side = lastSpindle s side := by
  obtain ⟨-, -, hd, -⟩ := keepsBoard_heardFrom hm.frame.keepsBoard
  simp only [firstSpindle, lastSpindle, firstSector, hd, and_self]

/-- R79: an acceptance sends ACCEPT, and PARK where the record is not READY. -/
theorem reaccepted_sent (hm : MadeAbsent r w (heardFrom r s) u) (ha : EnrolmentAccepted r now claimed work u t) :
    .carriage now.number (.accept claimed (firstSpindle s claimed) (lastSpindle s claimed)) ∈ t.emitted ∧
      (work ≠ .ready → .carriage now.number .park ∈ t.emitted) := by
  obtain ⟨hfirst, hlast⟩ := sideEnds_makeAbsent hm claimed
  have hmem {o : Output} (h : o ∈ acceptanceOf now claimed work u) : o ∈ t.emitted := ha.sent.subset (List.mem_append_right _ h)
  refine ⟨hmem (by rw [← hfirst, ← hlast]; exact List.mem_cons_self), fun hne => hmem ?_⟩
  rw [acceptanceOf, if_neg hne]
  exact List.mem_cons_of_mem _ List.mem_cons_self

/-- R79: the record of an acceptance in CALLED or PARKING. -/
theorem reaccepted_record (hm : MadeAbsent r w (heardFrom r s) u) (ha : EnrolmentAccepted r now claimed work u t)
    (hne : (CarriageLink.enrolled now claimed (firstSpindle u claimed) .up work).isReady = false) :
    (carriage t r).link = .enrolled now claimed (firstSpindle s claimed) .up work ∧
      (carriage t r).linkTimer = some (s.delivery.now + 5) ∧
      (carriage t r).parkTimer = if work = .parking then some (s.delivery.now + s.settings.working.parkTimeout) else none := by
  obtain ⟨-, -, hd, -, -, -, -, -, hset, -⟩ := keepsBoard_heardFrom hm.frame.keepsBoard
  have hrec := ha.record.eq_of_not_ready hne
  rw [(sideEnds_makeAbsent hm claimed).1, hd, hset] at hrec
  exact ⟨congrArg Carriage.link hrec, congrArg Carriage.linkTimer hrec, congrArg Carriage.parkTimer hrec⟩

/-- R79: the record of an acceptance where a dispatch may follow. -/
theorem reaccepted_ready (hm : MadeAbsent r w (heardFrom r s) u) (ha : EnrolmentAccepted r now claimed .ready u t) :
    ((carriage t r).link = .enrolled now claimed (firstSpindle s claimed) .up .ready ∨
        ∃ o, (carriage t r).link = .enrolled now claimed (firstSpindle s claimed) .up (.busy o)) ∧
      (carriage t r).linkTimer = some (s.delivery.now + 5) := by
  obtain ⟨-, -, hd, -⟩ := keepsBoard_heardFrom hm.frame.keepsBoard
  obtain ⟨hl, htimer⟩ := ha.record.ready_or_busy rfl
  rw [(sideEnds_makeAbsent hm claimed).1] at hl
  exact ⟨hl, htimer.trans (by rw [← hd])⟩

end

/-- R80, R142: in PARKING with the other record clear, DOFFING was entered when the record was made ABSENT. -/
theorem reenrolled_waits {call : CallInfo} (hm : MadeAbsent r w (heardFrom r s) (makeAbsent r false (heardFrom r s)))
    (hok : refusalOf r now claimed s = none) (hph : s.doff.phase = .parking call)
    (hc : (carriage s (otherRecord r)).link.isClear = true) :
    let t := enrol r now claimed (makeAbsent r false (heardFrom r s))
    EnrolledAnew w s t ∧ (carriage t r).link = .absent ∧ .carriage now.number .wait ∈ t.emitted ∧
      ∃ record, t.doff.phase = .doffing call record := by
  have htest := (hm.doff.congr (heardFrom_doff_faults r s).1).parking hph
  rw [carriage_heardFrom_other, if_pos hc] at htest
  obtain ⟨record, hdoffing⟩ := htest
  obtain ⟨v, hv⟩ := updCarriage_frame r Carriage.absented (emit (.carriage now.number .wait) (makeAbsent r false (heardFrom r s)))
  have hframe := (updCarriage_onlyTables r Carriage.absented _).after
    (emit_onlyPlanner (.carriage now.number .wait) (makeAbsent r false (heardFrom r s))).toTables
  have hlink : (carriage (updCarriage r Carriage.absented
      (emit (.carriage now.number .wait) (makeAbsent r false (heardFrom r s)))) r).link = .absent := by rw [updCarriage_same]; rfl
  rw [enrol_doffing ((refusalOf_makeAbsent hm now claimed).trans hok) hdoffing]
  rw [hv] at hframe hlink ⊢
  exact ⟨hm.leaves hframe.toFrame.toDoff rfl (hm.back.congr rfl rfl), hlink, List.mem_append_right _ List.mem_cons_self,
    record, hdoffing⟩

/-- R80: the doff state that a claim finds where DOFFING was not entered. -/
theorem doff_makeAbsent (hm : MadeAbsent r w (heardFrom r s) (makeAbsent r false (heardFrom r s)))
    (hc : ∀ call, s.doff.phase = .parking call → (carriage s (otherRecord r)).link.isClear = false) :
    (makeAbsent r false (heardFrom r s)).doff = s.doff := by
  refine (hm.doff.congr (heardFrom_doff_faults r s).1).stands fun call hph => ?_
  rw [carriage_heardFrom_other]
  exact hc call hph

/-- R80: the claim accepted where a doff has been called: PARK follows ACCEPT. -/
theorem reenrolled_told {work : CarriageWork} (hm : MadeAbsent r w (heardFrom r s) (makeAbsent r false (heardFrom r s)))
    (hd : (makeAbsent r false (heardFrom r s)).doff = s.doff)
    (hw : work = .parking ∨ work = .parked ∧ ∀ call, s.doff.phase ≠ .parking call) :
    let t := acceptEnrolment r now claimed work (makeAbsent r false (heardFrom r s))
    EnrolledAnew w s t ∧ StandsAnew r now claimed work s t ∧ .carriage now.number .park ∈ t.emitted ∧
      (carriage t r).parkTimer = (if work = .parking then some (s.delivery.now + s.settings.working.parkTimeout) else none) ∧
      t.doff = s.doff := by
  have ha : EnrolmentAccepted r now claimed work (makeAbsent r false (heardFrom r s))
      (acceptEnrolment r now claimed work (makeAbsent r false (heardFrom r s))) := by
    refine acceptEnrolment_accepted ?_
    rcases hw with rfl | ⟨rfl, hph⟩
    · exact .inl rfl
    · exact .inr (by rw [hd]; exact hph)
  obtain ⟨hlink, htimer, hpark⟩ := reaccepted_record hm ha (by rcases hw with rfl | ⟨rfl, -⟩ <;> rfl)
  obtain ⟨haccept, hsent⟩ := reaccepted_sent hm ha
  exact ⟨hm.leaves ha.frame ha.faults (ha.back hm.back), ⟨hlink, htimer, haccept⟩,
    hsent (by rcases hw with rfl | ⟨rfl, -⟩ <;> exact CarriageWork.noConfusion), hpark, ha.doff.trans hd⟩

/-- R80: the claim accepted where a dispatch may follow. -/
theorem reenrolled_ready (hm : MadeAbsent r w (heardFrom r s) (makeAbsent r false (heardFrom r s)))
    (hok : refusalOf r now claimed s = none) (hc : s.doff.phase.callInfo = none) :
    let t := enrol r now claimed (makeAbsent r false (heardFrom r s))
    EnrolledAnew w s t ∧ (StandsAnew r now claimed .ready s t ∨ ∃ o, StandsAnew r now claimed (.busy o) s t) ∧ t.doff = s.doff := by
  have hd := doff_makeAbsent hm fun call hph => by rw [hph] at hc; cases hc
  rw [enrol_ready ((refusalOf_makeAbsent hm now claimed).trans hok) (by rw [hd]; exact hc)]
  have ha := acceptEnrolment_accepted (r := r) (st := now) (claimed := claimed) (s := makeAbsent r false (heardFrom r s))
    (w := .ready) (.inl rfl)
  obtain ⟨hlink, htimer⟩ := reaccepted_ready hm ha
  obtain ⟨haccept, -⟩ := reaccepted_sent hm ha
  exact ⟨hm.leaves ha.frame ha.faults (ha.back hm.back),
    hlink.imp (fun h => ⟨h, htimer, haccept⟩) (Exists.imp fun _ h => ⟨h, htimer, haccept⟩), ha.doff.trans hd⟩

/-- R80: what a claim that passes the checks gives, by the doff state. -/
theorem reenrolled_by_phase (now : Station) (hl : (carriage s r).link = .enrolled st side pos dir w)
    (hok : refusalOf r now claimed s = none) (h4 : s.doff.phase.code ≠ 4) :
    let t := enrol r now claimed (makeAbsent r false (heardFrom r s))
    let stands := fun work => StandsAnew r now claimed work s t
    EnrolledAnew w s t ∧
      match s.doff.phase with
      | .called _ => stands .parked ∧ .carriage now.number .park ∈ t.emitted ∧ t.doff = s.doff
      | .parking call =>
        if (carriage s (otherRecord r)).link.isClear = true then
          (carriage t r).link = .absent ∧ .carriage now.number .wait ∈ t.emitted ∧ ∃ record, t.doff.phase = .doffing call record
        else
          stands .parking ∧ .carriage now.number .park ∈ t.emitted ∧
            (carriage t r).parkTimer = some (s.delivery.now + s.settings.working.parkTimeout) ∧ t.doff = s.doff
      | _ => (stands .ready ∨ ∃ o, stands (.busy o)) ∧ t.doff = s.doff := by
  have hm := makeAbsent_made_heardFrom hl
  have hok' := (refusalOf_makeAbsent hm now claimed).trans hok
  dsimp only
  cases hph : s.doff.phase with
  | doffing call record => rw [hph] at h4; exact absurd rfl h4
  | called call =>
    have hno (c : CallInfo) : s.doff.phase ≠ .parking c := by rw [hph]; exact DoffPhase.noConfusion
    have hd := doff_makeAbsent hm fun c hc => absurd hc (hno c)
    rw [enrol_called hok' (hd ▸ hph)]
    obtain ⟨hanew, hstands, hpark, -, hdoff⟩ := reenrolled_told (work := .parked) hm hd (.inr ⟨rfl, hno⟩)
    exact ⟨hanew, hstands, hpark, hdoff⟩
  | parking call =>
    by_cases hc : (carriage s (otherRecord r)).link.isClear = true
    · dsimp only
      rw [if_pos hc]
      exact reenrolled_waits hm hok hph hc
    · have hd := doff_makeAbsent hm fun _ _ => by rwa [Bool.not_eq_true] at hc
      dsimp only
      rw [if_neg hc, enrol_parking hok' (hd ▸ hph)]
      exact reenrolled_told hm hd (.inl rfl)
  | _ => exact reenrolled_ready hm hok (by rw [hph]; rfl)

/-- R79, R80: the reason of a refusal is the first that applies. -/
theorem reenrolled_reason (now : Station) (hl : (carriage s r).link = .enrolled st side pos dir w)
    (hsome : refusalOf r now claimed s ≠ none) :
    let t := enrol r now claimed (makeAbsent r false (heardFrom r s))
    let refused := fun reason =>
      t.emitted.getLast? = some (.carriage now.number (.refuse reason)) ∧
        ((∀ o, w ≠ .busy o) → t.faults = (raiseFault .carriageConflict (.side claimed) (.conflict now.number reason) s).faults)
    if sideConfigured s claimed = false then refused .noSide
    else if now.abilities.pieces = false ∨ now.abilities.parks = false then refused .noAbility
    else refused .sideHeld := by
  intro t refused
  have refuses {reason : RefuseReason} (hc : refusalOf r now claimed s = some reason) : refused reason := by
    obtain ⟨-, -, -, -, -, hsent, hfaults, -⟩ := reenrolled_refused (claimed := claimed) now reason hl
    rw [← enrol_refused ((refusalOf_makeAbsent (makeAbsent_made_heardFrom hl) now claimed).trans hc)] at hsent hfaults
    exact ⟨hsent, hfaults⟩
  split
  · rename_i h1; exact refuses (refusalOf_noSide h1)
  · rename_i h1
    split
    · rename_i h2; exact refuses (refusalOf_noAbility h1 h2)
    · rename_i h2
      exact refuses (refusalOf_sideHeld h1 h2 (by_contra fun h3 => hsome (refusalOf_nothing h1 h2 h3)))

end

/-- Settles O25: the four clauses by the checks in order and the doff state. -/
theorem enrolmentChecksInOrder : Obligations.EnrolmentChecksInOrder := by
  refine ⟨fun s station side abilities revision r hp h1 h15 hv hr => ?_, ?_, ?_, ?_⟩
  · obtain ⟨x, hx⟩ := exec_ability_unenrolled side hp h1 h15 hv hr
    refine ⟨_, hx, keepsBoard_heardAs (enrol_onlyFrameAndDoff _ _ _ _).keepsBoard, ?_⟩
    intro st held accept refusal stands heard
    have refused {reason : RefuseReason} (hc : refusalOf r st side s = some reason) : refusal reason := by
      have h := unenrolled_refused (side := side) st reason r x s
      rw [← enrol_refused ((refusalOf_heardAs r x st side s).trans hc)] at h
      exact h
    split
    · rename_i h1; exact refused (refusalOf_noSide h1)
    · rename_i h1
      split
      · rename_i h2; exact refused (refusalOf_noAbility h1 h2)
      · rename_i h2
        split
        · rename_i h3; exact refused (refusalOf_sideHeld h1 h2 h3)
        · rename_i h3; exact unenrolled_by_phase (refusalOf_nothing h1 h2 h3) x
  · intro s station side abilities revision hp h1 h15 hv hr ha
    rw [exec_ability side hp h1 h15 hv, heard_eq, hr, enrolStation]
    dsimp only
    rw [show recordOfStation { s with emitted := [] } station = none from hr, show absentRecord { s with emitted := [] } = none from ha]
    rfl
  · intro s r pos revision dir st side claimed w abilities hp hl hr h1 h15 hv hfail
    have hx := exec_ability_enrolled (abilities := abilities) claimed hp hl hr h1 h15 hv
    have hm := makeAbsent_made_heardFrom hl
    have hsome : refusalOf r { number := st.number, abilities := abilities, revision := revision } claimed s ≠ none := by
      rw [refusalOf_ne_none]; exact hfail
    have hreason := reenrolled_reason { number := st.number, abilities := abilities, revision := revision } hl hsome
    obtain ⟨reason, hc⟩ := Option.ne_none_iff_exists'.1 hsome
    obtain ⟨hboard, hrec, hback, hlost, hconflict, -, -, hdoff⟩ := reenrolled_refused (claimed := claimed)
      { number := st.number, abilities := abilities, revision := revision } reason hl
    rw [← enrol_refused ((refusalOf_makeAbsent hm _ claimed).trans hc)] at hboard hrec hback hlost hconflict hdoff
    exact ⟨_, hx, hboard, hrec, hback.outcome, hlost, hconflict, hreason, hdoff⟩
  · intro s r pos revision dir st side claimed w abilities hp hl hr h1 h15 hv hpieces hparks hside hheld h4
    obtain ⟨⟨hboard, hlost, hconflict, hback⟩, hphase⟩ := reenrolled_by_phase
      { number := st.number, abilities := abilities, revision := revision } hl
      ((refusalOf_eq_none _ _ _ _).2 ⟨hside, hpieces, hparks, hheld⟩) h4
    exact ⟨_, exec_ability_enrolled claimed hp hl hr h1 h15 hv, hboard, hlost, hconflict, hback.outcome, hphase⟩

end Sys2Proof.Machine

/-! # The choice of an order (R82), and when carry-over is allowed (R104) -/

namespace Sys2Proof.Machine

open Sys2Proof

/-! ## The best of a list in an order -/

/-- `better` picks by this order: what it prefers comes first, and what it does not prefer comes last. -/
structure PicksBy {α : Type} (better : α → α → Bool) (le : α → α → Prop) : Prop where
  refl : ∀ a, le a a
  trans : ∀ {a b c}, le a b → le b c → le a c
  prefers : ∀ {a b}, better a b = true → le a b
  declines : ∀ {a b}, better a b = false → le b a

section
variable {α : Type} {better : α → α → Bool} {le : α → α → Prop}

theorem PicksBy.pick_le (h : PicksBy better le) : ∀ {l : List α} {e : α}, pick better l = some e → ∀ f ∈ l, le e f
  | x :: l, e, he, f, hf => by
    unfold pick at he
    split at he
    · rename_i hn
      cases he
      cases l with
      | nil => rw [List.mem_singleton.1 hf]; exact h.refl x
      | cons y l =>
        unfold pick at hn
        split at hn
        · cases hn
        · split at hn <;> cases hn
    · rename_i y hy
      have hrest := h.pick_le hy
      split at he
      · rename_i hb
        cases he
        rcases List.mem_cons.1 hf with rfl | hf
        · exact h.prefers hb
        · exact hrest f hf
      · rename_i hb
        cases he
        rcases List.mem_cons.1 hf with rfl | hf
        · exact h.refl f
        · exact h.trans (h.declines (by rwa [Bool.not_eq_true] at hb)) (hrest f hf)

theorem pick_isSome {l : List α} (h : l ≠ []) : ∃ e, pick better l = some e := by
  cases l with
  | nil => exact absurd rfl h
  | cons x l =>
    unfold pick
    split
    · exact ⟨_, rfl⟩
    · split <;> exact ⟨_, rfl⟩

theorem pick_filter_eq_none {p : α → Bool} {l : List α} (h : ¬ ∃ f ∈ l, p f = true) : pick better (l.filter p) = none := by
  have hn : l.filter p = [] := List.filter_eq_nil_iff.2 fun f hf hp => h ⟨f, hf, hp⟩
  rw [hn]; rfl

/-- The best of those that pass a test. -/
theorem PicksBy.pick_filter (h : PicksBy better le) {p : α → Bool} {l : List α} (hp : ∃ f ∈ l, p f = true) :
    ∃ e ∈ l, pick better (l.filter p) = some e ∧ p e = true ∧ ∀ f ∈ l, p f = true → le e f := by
  obtain ⟨f, hf, hpf⟩ := hp
  obtain ⟨e, he⟩ := pick_isSome (better := better) (List.ne_nil_of_mem (List.mem_filter.2 ⟨hf, hpf⟩))
  obtain ⟨hmem, hpe⟩ := List.mem_filter.1 (pick_mem he)
  exact ⟨e, hmem, he, hpe, fun g hg hpg => h.pick_le he g (List.mem_filter.2 ⟨hg, hpg⟩)⟩

end

/-! ## The choice (R82) -/

/-- R82: the older entry, the lower spindle number where two share a break time. -/
theorem olderEntry_picks : PicksBy olderEntry fun a b => a.time < b.time ∨ (a.time = b.time ∧ a.spindle ≤ b.spindle) where
  refl a := .inr ⟨rfl, Nat.le_refl _⟩
  trans h k := by omega
  prefers h := by simp [olderEntry] at h; omega
  declines h := by simp [olderEntry] at h; omega

theorem lowEntry_picks : PicksBy (fun a b : Entry => decide (a.spindle < b.spindle)) fun a b => a.spindle ≤ b.spindle where
  refl _ := Nat.le_refl _
  trans := Nat.le_trans
  prefers h := Nat.le_of_lt (of_decide_eq_true h)
  declines h := Nat.le_of_not_lt (of_decide_eq_false h)

theorem highEntry_picks : PicksBy (fun a b : Entry => decide (b.spindle < a.spindle)) fun a b => b.spindle ≤ a.spindle where
  refl _ := Nat.le_refl _
  trans h k := Nat.le_trans k h
  prefers h := Nat.le_of_lt (of_decide_eq_true h)
  declines h := Nat.le_of_not_lt (of_decide_eq_false h)

theorem findSome?_id_cons {α : Type} (a : Option α) (l : List (Option α)) : (a :: l).findSome? id = a.or (l.findSome? id) := by
  cases a <;> rfl

/-- R82: the four steps of the choice, each taken where those before it find nothing. -/
theorem chooseEntry_eq (now ageLimit position : Nat) (direction : Direction) (cs : List Entry) :
    chooseEntry now ageLimit position direction cs =
      (pick olderEntry (cs.filter (·.urgent))).or
        ((pick olderEntry (cs.filter fun e => decide (ageLimit ≤ now - e.time))).or
          (match direction with
            | .up =>
              (pick (fun a b => decide (a.spindle < b.spindle)) (cs.filter fun e => decide (position ≤ e.spindle))).or
                (pick (fun a b => decide (b.spindle < a.spindle)) (cs.filter fun e => decide (e.spindle < position)))
            | .down =>
              (pick (fun a b => decide (b.spindle < a.spindle)) (cs.filter fun e => decide (e.spindle ≤ position))).or
                (pick (fun a b => decide (a.spindle < b.spindle)) (cs.filter fun e => decide (position < e.spindle))))) := by
  cases direction <;> simp only [chooseEntry, findSome?_id_cons, List.findSome?_nil, Option.or_none]

section
variable {cs : List Entry} {position : Nat}

/-- R82: the nearest in the direction of travel, and behind it where there is none. -/
theorem nearest_up (h : cs ≠ []) :
    ∃ e ∈ cs,
      (pick (fun a b => decide (a.spindle < b.spindle)) (cs.filter fun e => decide (position ≤ e.spindle))).or
          (pick (fun a b => decide (b.spindle < a.spindle)) (cs.filter fun e => decide (e.spindle < position))) = some e ∧
        if ∃ f ∈ cs, position ≤ f.spindle then
          position ≤ e.spindle ∧ ∀ f ∈ cs, position ≤ f.spindle → e.spindle ≤ f.spindle
        else ∀ f ∈ cs, f.spindle ≤ e.spindle := by
  by_cases ha : ∃ f ∈ cs, position ≤ f.spindle
  · obtain ⟨e, he, hp, hpe, hle⟩ := lowEntry_picks.pick_filter (p := fun e => decide (position ≤ e.spindle)) (l := cs)
      (by simpa using ha)
    exact ⟨e, he, by rw [hp]; rfl, by rw [if_pos ha]; exact ⟨of_decide_eq_true hpe, fun f hf hd => hle f hf (decide_eq_true hd)⟩⟩
  · have hb (f : Entry) (hf : f ∈ cs) : f.spindle < position := Nat.lt_of_not_le fun hle => ha ⟨f, hf, hle⟩
    obtain ⟨g, hg⟩ := List.exists_mem_of_ne_nil cs h
    obtain ⟨e, he, hp, -, hle⟩ := highEntry_picks.pick_filter (p := fun e => decide (e.spindle < position)) (l := cs)
      ⟨g, hg, decide_eq_true (hb g hg)⟩
    exact ⟨e, he, by rw [pick_filter_eq_none (by simpa using ha), hp]; rfl,
      by rw [if_neg ha]; exact fun f hf => hle f hf (decide_eq_true (hb f hf))⟩

theorem nearest_down (h : cs ≠ []) :
    ∃ e ∈ cs,
      (pick (fun a b => decide (b.spindle < a.spindle)) (cs.filter fun e => decide (e.spindle ≤ position))).or
          (pick (fun a b => decide (a.spindle < b.spindle)) (cs.filter fun e => decide (position < e.spindle))) = some e ∧
        if ∃ f ∈ cs, f.spindle ≤ position then
          e.spindle ≤ position ∧ ∀ f ∈ cs, f.spindle ≤ position → f.spindle ≤ e.spindle
        else ∀ f ∈ cs, e.spindle ≤ f.spindle := by
  by_cases ha : ∃ f ∈ cs, f.spindle ≤ position
  · obtain ⟨e, he, hp, hpe, hle⟩ := highEntry_picks.pick_filter (p := fun e => decide (e.spindle ≤ position)) (l := cs)
      (by simpa using ha)
    exact ⟨e, he, by rw [hp]; rfl, by rw [if_pos ha]; exact ⟨of_decide_eq_true hpe, fun f hf hd => hle f hf (decide_eq_true hd)⟩⟩
  · have hb (f : Entry) (hf : f ∈ cs) : position < f.spindle := Nat.lt_of_not_le fun hle => ha ⟨f, hf, hle⟩
    obtain ⟨g, hg⟩ := List.exists_mem_of_ne_nil cs h
    obtain ⟨e, he, hp, -, hle⟩ := lowEntry_picks.pick_filter (p := fun e => decide (position < e.spindle)) (l := cs)
      ⟨g, hg, decide_eq_true (hb g hg)⟩
    exact ⟨e, he, by rw [pick_filter_eq_none (by simpa using ha), hp]; rfl,
      by rw [if_neg ha]; exact fun f hf => hle f hf (decide_eq_true (hb f hf))⟩

/-- R82: the choice among candidates. -/
theorem chooseEntry_chooses (now ageLimit position : Nat) (direction : Direction) (h : cs ≠ []) :
    ∃ e ∈ cs, chooseEntry now ageLimit position direction cs = some e ∧
      let oldest := fun (among : Entry → Bool) =>
        among e = true ∧ ∀ f ∈ cs, among f = true → e.time < f.time ∨ (e.time = f.time ∧ e.spindle ≤ f.spindle)
      if ∃ f ∈ cs, f.urgent = true then oldest fun f => f.urgent
      else if ∃ f ∈ cs, ageLimit ≤ now - f.time then oldest fun f => decide (ageLimit ≤ now - f.time)
      else
        match direction with
        | .up =>
          if ∃ f ∈ cs, position ≤ f.spindle then
            position ≤ e.spindle ∧ ∀ f ∈ cs, position ≤ f.spindle → e.spindle ≤ f.spindle
          else ∀ f ∈ cs, f.spindle ≤ e.spindle
        | .down =>
          if ∃ f ∈ cs, f.spindle ≤ position then
            e.spindle ≤ position ∧ ∀ f ∈ cs, f.spindle ≤ position → f.spindle ≤ e.spindle
          else ∀ f ∈ cs, e.spindle ≤ f.spindle := by
  rw [chooseEntry_eq]
  by_cases hu : ∃ f ∈ cs, f.urgent = true
  · obtain ⟨e, he, hp, hb⟩ := olderEntry_picks.pick_filter (p := (·.urgent)) hu
    exact ⟨e, he, by rw [hp]; rfl, by dsimp only; rw [if_pos hu]; exact hb⟩
  · rw [pick_filter_eq_none hu, Option.none_or]
    by_cases ha : ∃ f ∈ cs, ageLimit ≤ now - f.time
    · obtain ⟨e, he, hp, hb⟩ := olderEntry_picks.pick_filter (p := fun e => decide (ageLimit ≤ now - e.time)) (l := cs)
        (by simpa using ha)
      exact ⟨e, he, by rw [hp]; rfl, by dsimp only; rw [if_neg hu, if_pos ha]; exact hb⟩
    · rw [pick_filter_eq_none (by simpa using ha), Option.none_or]
      dsimp only
      simp only [if_neg hu, if_neg ha]
      cases direction with
      | up => exact nearest_up h
      | down => exact nearest_down h

end

/-! ## Carry-over (R104) -/

theorem dispatchIsOpen_iff (s : State) :
    dispatchIsOpen s = true ↔ s.delivery.driving = true ∧ (s.doff.phase = .spinning ∨ s.doff.phase = .restarting) := by
  unfold dispatchIsOpen
  cases s.doff.phase <;> simp [DoffPhase.dispatchOpen]

theorem isReady_iff (l : CarriageLink) : l.isReady = true ↔ ∃ st side pos dir, l = .enrolled st side pos dir .ready := by
  cases l with
  | enrolled st side pos dir w => cases w <;> simp [CarriageLink.isReady]
  | _ => simp [CarriageLink.isReady]

theorem modeAllows_iff (mode : ArbitrationMode) (urgency count weight : Nat) :
    modeAllows mode urgency count weight = true ↔
      match mode with
      | .rovingFirst => False
      | .piecingFirst => urgency < 3
      | .alternate => count = 0
      | .weighed => urgency < weight ∨ (urgency = weight ∧ count = 0) := by
  cases mode <;> simp [modeAllows, eq_comm (a := weight)]

theorem carryOverAllowed_iff (s : State) (r : RecordNo) (k : Nat) :
    carryOverAllowed s r k = true ↔
      ∃ claim : Claim, (lockOf s k).claim = some claim ∧
        (∃ st side pos dir, (carriage s r).link = .enrolled st side pos dir .ready) ∧ s.delivery.driving = true ∧
        (s.doff.phase = .spinning ∨ s.doff.phase = .restarting) ∧
        let entries := ((pieceList s (sideOfSector s k)).filter fun e => sectorOf e.spindle == k).length
        1 ≤ entries ∧
          match s.settings.working.arbitration with
          | .rovingFirst => False
          | .piecingFirst => claim.urgency < 3
          | .alternate => (lockOf s k).carryOver = 0
          | .weighed => claim.urgency < min 3 entries ∨ (claim.urgency = min 3 entries ∧ (lockOf s k).carryOver = 0) := by
  unfold carryOverAllowed
  cases hc : (lockOf s k).claim with
  | none => simp
  | some claim =>
    dsimp only
    rw [Bool.and_eq_true, Bool.and_eq_true, Bool.and_eq_true, isReady_iff, dispatchIsOpen_iff, modeAllows_iff, decide_eq_true_iff]
    constructor
    · rintro ⟨⟨⟨hr, hd, hp⟩, he⟩, hm⟩
      exact ⟨claim, rfl, hr, hd, hp, he, hm⟩
    · rintro ⟨_, hclaim, hr, hd, hp, he, hm⟩
      cases hclaim
      exact ⟨⟨⟨hr, hd, hp⟩, he⟩, hm⟩

end Sys2Proof.Machine

/-! # What the issue of an order changes (R44, R54, R55, R83, R101) -/

namespace Sys2Proof.Machine

open Sys2Proof

/-- Nothing but the spindle records and the piecing lists has changed. -/
def onlyListings (s t : State) : Prop := ∃ u : State, t = { s with spindles := u.spindles, listA := u.listA, listB := u.listB }

theorem onlyListings.refl (s : State) : onlyListings s s := ⟨s, rfl⟩

theorem onlyListings.after {s t u : State} (k : onlyListings t u) (h : onlyListings s t) : onlyListings s u := by
  obtain ⟨_, rfl⟩ := h; obtain ⟨x, rfl⟩ := k; exact ⟨x, rfl⟩

theorem setPieceList_onlyListings (side : Side) (l : List Entry) (s : State) : onlyListings s (setPieceList side l s) :=
  ⟨setPieceList side l s, by cases side <;> rfl⟩

theorem updSpindle_onlyListings (n : Nat) (f : Spindle → Spindle) (s : State) : onlyListings s (updSpindle n f s) :=
  ⟨updSpindle n f s, rfl⟩

theorem makeEntry_onlyListings (n : Nat) (urgent : Bool) (s : State) : onlyListings s (makeEntry n urgent s) := by
  unfold makeEntry; split
  · exact (setPieceList_onlyListings _ _ _).after (updSpindle_onlyListings _ _ _)
  · exact .refl s

theorem dropFromList_onlyListings (n : Nat) (s : State) : onlyListings s (dropFromList n s) :=
  (setPieceList_onlyListings _ _ _).after (updSpindle_onlyListings _ _ _)

theorem refillUpTo_onlyListings : ∀ (fuel : Nat) (side : Side) (s : State), onlyListings s (refillUpTo fuel side s)
  | 0, _, s => .refl s
  | k + 1, side, s => by
    unfold refillUpTo; split
    · exact .refl s
    · split
      · exact (refillUpTo_onlyListings k side _).after (makeEntry_onlyListings _ _ _)
      · exact .refl s

section
variable (r : RecordNo) (e : Entry) (carried : Bool) (s : State)

/-! ## The stages of the issue -/

theorem orderDelisted_onlyListings : onlyListings (orderSent r e carried s) (orderDelisted r e carried s) :=
  (refillUpTo_onlyListings _ _ _).after (dropFromList_onlyListings _ _)

theorem orderPlaced_onlyRecords : onlyRecords (orderDelisted r e carried s) (orderPlaced r e carried s) := enterState_onlyRecords _ _ _

/-- R101: the lock of the order's sector alone changes. -/
theorem locks_issueOrder : (issueOrder r e carried s).locks = (updLock (sectorOf e.spindle) (Lock.atOrder r carried) s).locks := by
  obtain ⟨v, hv⟩ := updCarriage_frame r (Carriage.given (orderFor r e s)) (orderPlaced r e carried s)
  obtain ⟨u, hu⟩ := orderPlaced_onlyRecords r e carried s
  obtain ⟨x, hx⟩ := orderDelisted_onlyListings r e carried s
  rw [issueOrder_eq, hv, hu, hx]; rfl

/-- R83: the record of the order. -/
theorem carriage_issueOrder : carriage (issueOrder r e carried s) r = Carriage.given (orderFor r e s) (carriage s r) := by
  obtain ⟨u, hu⟩ := orderPlaced_onlyRecords r e carried s
  obtain ⟨x, hx⟩ := orderDelisted_onlyListings r e carried s
  rw [issueOrder_eq, hu, hx]
  cases r <;> rfl

/-- R160: one more order issued. -/
theorem issued_issueOrder : (issueOrder r e carried s).shift.piecing.issued = min 4294967295 (s.shift.piecing.issued + 1) := by
  obtain ⟨x, hx⟩ := orderDelisted_onlyListings r e carried s
  have hp : (orderPlaced r e carried s).shift.piecing = s.shift.piecing := (enterState_piecing _ _ _).trans (by rw [hx]; rfl)
  obtain ⟨v, hv⟩ := updCarriage_frame r (Carriage.given (orderFor r e s)) (orderPlaced r e carried s)
  rw [issueOrder_eq, hv, ← hp]; rfl

variable {e}

/-- R54, R55: the entry is gone, and the refill makes none for the spindle. -/
theorem orderDelisted_apart (hn : hasSpindle s e.spindle = true) :
    Apart (sideOf s e.spindle) e.spindle (orderDelisted r e carried s) ∧
      spindle (orderDelisted r e carried s) e.spindle = { spindle s e.spindle with unlisted := false } := by
  have hn' : hasSpindle (orderSent r e carried s) e.spindle = true := hn
  obtain ⟨ha, hs⟩ := refill_apart (sideOf s e.spindle) (dropFromList_apart hn')
  exact ⟨ha, hs.trans (spindle_dropFromList hn')⟩

theorem issueOrder_unlists (hn : hasSpindle s e.spindle = true) :
    ∀ f ∈ pieceList (issueOrder r e carried s) (sideOf s e.spindle), f.spindle ≠ e.spindle := by
  obtain ⟨ha, -⟩ := orderDelisted_apart r carried s hn
  obtain ⟨v, hv⟩ := updCarriage_frame r (Carriage.given (orderFor r e s)) (orderPlaced r e carried s)
  have h := (enterState_apart (spindle (orderDelisted r e carried s) e.spindle).state.toPiecing ha).entries
  rw [issueOrder_eq, hv]
  cases hside : sideOf s e.spindle <;> rw [hside] at h <;> exact h

/-- R44, R83: the spindle is PIECING with its break, its stop engaged. -/
theorem spindle_issueOrder {cause : BreakCause} {time : Nat} (hn : hasSpindle s e.spindle = true)
    (hs : (spindle s e.spindle).state = .broken cause time) :
    spindle (issueOrder r e carried s) e.spindle =
      { spindle s e.spindle with unlisted := false }.changed s.delivery.driving s.delivery.now s.delivery.phi (.piecing cause time) := by
  obtain ⟨-, hsp⟩ := orderDelisted_apart r carried s hn
  obtain ⟨x, hx⟩ := orderDelisted_onlyListings r e carried s
  obtain ⟨v, hv⟩ := updCarriage_frame r (Carriage.given (orderFor r e s)) (orderPlaced r e carried s)
  have hd : (orderDelisted r e carried s).delivery = s.delivery := by rw [hx]; rfl
  have hst : (spindle (orderDelisted r e carried s) e.spindle).state = .broken cause time := by rw [hsp]; exact hs
  have h : spindle (orderPlaced r e carried s) e.spindle = _ :=
    (spindle_enterState _ _ _ _).trans (spindle_changeState_same e.spindle _ _ (hasSpindle_of_broken (by rw [hst]; rfl)))
  rw [hst, hsp, hd] at h
  rw [issueOrder_eq, hv]
  exact h

end

end Sys2Proof.Machine

/-! # Orders issued after a STATUS, and the lock after a RESULT (R83, R87, R90, R101, R106) -/

namespace Sys2Proof.Machine

open Sys2Proof

theorem one_le_sectorOf (n : Nat) : 1 ≤ sectorOf n := Nat.le_add_left 1 _

/-! ## The dispatch of a READY record (R81, R82) -/

section
variable {s : State} {r : RecordNo} {st : Station} {side : Side} {pos : Nat} {dir : Direction} {allowed : Entry → Bool} {carried : Bool}

theorem dispatchAmong_ordered {e : Entry} (hl : (carriage s r).link = .enrolled st side pos dir .ready) (ho : dispatchIsOpen s = true)
    (he : chooseEntry s.delivery.now s.settings.working.ageLimit pos dir ((pieceList s side).filter allowed) = some e) :
    dispatchAmong allowed carried r s = issueOrder r e carried s := by
  simp only [dispatchAmong, hl, ho, if_true, he]

theorem dispatchAmong_nothing (hl : (carriage s r).link = .enrolled st side pos dir .ready) (ho : dispatchIsOpen s = true)
    (he : chooseEntry s.delivery.now s.settings.working.ageLimit pos dir ((pieceList s side).filter allowed) = none) :
    dispatchAmong allowed carried r s = s := by
  simp only [dispatchAmong, hl, ho, if_true, he]

/-- R81, R82: a dispatch gives an order for an entry that it may choose, or changes nothing. -/
theorem dispatchAmong_cases (allowed : Entry → Bool) (carried : Bool) (r : RecordNo) (s : State) :
    dispatchAmong allowed carried r s = s ∨
      ∃ e, allowed e = true ∧ (carriage s r).link.isReady = true ∧ dispatchAmong allowed carried r s = issueOrder r e carried s := by
  unfold dispatchAmong
  split
  · rename_i hl
    split
    · split
      · rename_i e he
        exact .inr ⟨e, (List.mem_filter.1 (chooseEntry_mem he)).2, by rw [hl]; rfl, rfl⟩
      · exact .inl rfl
    · exact .inl rfl
  · exact .inl rfl

end

/-! ## The lock of a sector under dispatch (R82, R101) -/

section
variable {s : State} {r : RecordNo} {k : Nat}

theorem lockOf_congr {s t : State} (h : t.locks = s.locks) (k : Nat) : lockOf t k = lockOf s k := by rw [lockOf, h]; rfl

/-- R101: a lock at the issue of an order. -/
theorem lockOf_issueOrder (e : Entry) (carried : Bool) (j : Nat) (hk : sectorOf e.spindle ≤ s.locks.length) :
    lockOf (issueOrder r e carried s) j = if j = sectorOf e.spindle then (lockOf s j).atOrder r carried else lockOf s j := by
  rw [lockOf_congr (locks_issueOrder r e carried s)]
  split
  · rename_i hj; rw [hj]; exact lockOf_updLock_same _ _ _ (one_le_sectorOf _) hk
  · rename_i hj; exact lockOf_updLock_other _ _ _ _ hj

/-- R82, R101: a dispatch takes a FREE lock for its order, or leaves the lock. -/
theorem dispatch_lock (r : RecordNo) (s : State) (h1 : 1 ≤ k) (hk : k ≤ s.locks.length) :
    lockOf (dispatch r s) k = lockOf s k ∨
      (carriage s r).link.isReady = true ∧ (lockOf s k).holder = .free ∧
        lockOf (dispatch r s) k = (lockOf s k).pass (.carriage r none) := by
  rcases dispatchAmong_cases (fun e => sectorFree s (sectorOf e.spindle)) false r s with h | ⟨e, hfree, hready, h⟩
  · exact .inl (by rw [dispatch, h])
  · by_cases hj : k = sectorOf e.spindle
    · subst hj
      refine .inr ⟨hready, by simpa [sectorFree] using hfree, ?_⟩
      rw [dispatch, h, lockOf_issueOrder e false _ hk, if_pos rfl]; rfl
    · refine .inl ?_
      rw [dispatch, h, lockOf_congr (locks_issueOrder r e false s)]
      exact lockOf_updLock_other _ _ _ _ hj

theorem dispatch_locks_length (r : RecordNo) (s : State) : (dispatch r s).locks.length = s.locks.length := by
  rcases dispatchAmong_cases (fun e => sectorFree s (sectorOf e.spindle)) false r s with h | ⟨e, -, -, h⟩
  · rw [dispatch, h]
  · rw [dispatch, h, locks_issueOrder, updLock, length_modifyNth]

/-- R82, R101: a lock that one dispatch has taken is not FREE for the next. -/
theorem dispatch_twice_lock (r : RecordNo) (s : State) (h1 : 1 ≤ k) (hk : k ≤ s.locks.length) :
    lockOf (dispatch r (dispatch r s)) k = lockOf s k ∨
      (carriage s r).link.isReady = true ∧ (lockOf s k).holder = .free ∧
        lockOf (dispatch r (dispatch r s)) k = (lockOf s k).pass (.carriage r none) := by
  cases hready : (carriage s r).link.isReady
  · rw [dispatch_of_not_ready hready, dispatch_of_not_ready hready]
    exact .inl rfl
  · have hlen : k ≤ (dispatch r s).locks.length := by rw [dispatch_locks_length]; exact hk
    rcases dispatch_lock r s h1 hk with h | ⟨-, hfree, h⟩
    · rcases dispatch_lock r (dispatch r s) h1 hlen with h' | ⟨-, hfree, h'⟩
      · exact .inl (h'.trans h)
      · rw [h] at hfree h'
        exact .inr ⟨rfl, hfree, h'⟩
    · rcases dispatch_lock r (dispatch r s) h1 hlen with h' | ⟨-, hfree', -⟩
      · exact .inr ⟨rfl, hfree, h'.trans h⟩
      · rw [h] at hfree'; cases hfree'

end

section
variable {s : State} {r : RecordNo} {st : Station} {side : Side} {pos : Nat} {dir : Direction}

/-! ## SUSPECT ended with dispatch open (R90) -/

/-- R90: the SUSPECT record made READY by its report. -/
def readyAgain (r : RecordNo) (st : Station) (side : Side) (pos : Nat) (dir : Direction) (s : State) : State :=
  updCarriage r (fun c => { c with link := .enrolled st side pos dir .ready }) (heardFrom r s)

theorem exec_status_suspect {station : Nat} (hp : s.powered = true) (hr : recordOfStation s station = some r)
    (hl : (carriage s r).link = .enrolled st side pos dir .suspect) :
    exec (.carriageStatus station) s = .next (dispatch r (readyAgain r st side pos dir s)) := by
  have hl' : (carriage (heardFrom r s) r).link = .enrolled st side pos dir .suspect := by rw [link_heardFrom]; exact hl
  have hu : updCarriage r (fun c => { c with link := c.link.withWork .ready }) (heardFrom r s) = readyAgain r st side pos dir s :=
    updCarriage_congr (by rw [hl']; rfl)
  rw [exec_carriageStatus hp hr, takeStatus_suspect hl', leaveSuspect, hl']
  dsimp only
  rw [hu]

theorem readyAgain_frame (r : RecordNo) (st : Station) (side : Side) (pos : Nat) (dir : Direction) (s : State) :
    ∃ u : State, readyAgain r st side pos dir s = { s with emitted := [], car1 := u.car1, car2 := u.car2 } ∧
      carriage (readyAgain r st side pos dir s) r =
        { carriage s r with link := .enrolled st side pos dir .ready, linkTimer := some (s.delivery.now + 5) } :=
  ⟨readyAgain r st side pos dir s, by cases r <;> rfl, by cases r <;> rfl⟩

/-- R83, R101: the order issued. -/
theorem ordered_after_status {e : Entry} {cause : BreakCause} {time : Nat} (hside : sideOf s e.spindle = side)
    (hn : hasSpindle s e.spindle = true) (hk : sectorOf e.spindle ≤ s.locks.length)
    (hfree : sectorFree s (sectorOf e.spindle) = true) (hs : (spindle s e.spindle).state = .broken cause time) :
    let t := issueOrder r e false (readyAgain r st side pos dir s)
    let k := sectorOf e.spindle
    let tag := ((carriage s r).tag + 1) % 16
    keepsOuter s t ∧ keepsReports s t ∧ t.emitted.head? = some (.carriage st.number (.piece e.spindle tag)) ∧
      (carriage t r).link =
        .enrolled st side pos dir
          (.busy
            { spindle := e.spindle, tag := tag, issued := s.delivery.now
              deadline := s.delivery.now + orderTimeoutOf s.settings.working.orderTimeoutCode, arrived := false
              parkPending := false }) ∧
      (carriage t r).tag = tag ∧
      (carriage t r).counters.orders = min 4294967295 ((carriage s r).counters.orders + 1) ∧
      lockOf t k = { holder := .carriage r none, last := .free, carryOver := (lockOf s k).carryOver } ∧
      (∀ j, j ≠ k → lockOf t j = lockOf s j) ∧ (∀ f ∈ pieceList t side, f.spindle ≠ e.spindle) ∧
      (spindle t e.spindle).state = .piecing cause time ∧ (spindle t e.spindle).stopEngaged = true ∧
      (spindle t e.spindle).attempts = (spindle s e.spindle).attempts ∧
      t.shift.piecing.issued = min 4294967295 (s.shift.piecing.issued + 1) := by
  obtain ⟨u, hu, hrec⟩ := readyAgain_frame r st side pos dir s
  have hdel : (readyAgain r st side pos dir s).delivery = s.delivery := by rw [hu]
  have hset : (readyAgain r st side pos dir s).settings = s.settings := by rw [hu]
  have hsp (n : Nat) : spindle (readyAgain r st side pos dir s) n = spindle s n := by rw [hu]; rfl
  have hn' : hasSpindle (readyAgain r st side pos dir s) e.spindle = true := by rw [hu]; exact hn
  have hcar := carriage_issueOrder r e false (readyAgain r st side pos dir s)
  have hlock (j : Nat) := lockOf_issueOrder (r := r) (s := readyAgain r st side pos dir s) e false j (by rw [hu]; exact hk)
  have hspindle := spindle_issueOrder r false (readyAgain r st side pos dir s) hn' ((congrArg Spindle.state (hsp _)).trans hs)
  have hsent := issueOrder_says_piece (s := readyAgain r st side pos dir s) e false (by rw [hrec])
  have hentries := issueOrder_unlists r false (readyAgain r st side pos dir s) hn'
  have hsame (j : Nat) : lockOf (readyAgain r st side pos dir s) j = lockOf s j := lockOf_congr (by rw [hu]) j
  have hissued := issued_issueOrder r e false (readyAgain r st side pos dir s)
  obtain ⟨houter, hreports⟩ := keepsOuter_heardFrom ((issueOrder_onlyTables r e false _).after
    (updCarriage_onlyTables r (fun c => { c with link := .enrolled st side pos dir .ready }) (heardFrom r s)))
  rw [orderFor, hrec, hdel, hset] at hcar
  rw [hrec, show (readyAgain r st side pos dir s).emitted = [] by rw [hu]] at hsent
  rw [show sideOf (readyAgain r st side pos dir s) e.spindle = side by rw [hu]; exact hside] at hentries
  rw [show (readyAgain r st side pos dir s).shift = s.shift by rw [hu]] at hissued
  have hfree' : (lockOf s (sectorOf e.spindle)).holder = .free := by simpa [sectorFree] using hfree
  refine ⟨houter, hreports, head?_of_prefix hsent rfl, congrArg Carriage.link hcar, congrArg Carriage.tag hcar,
    congrArg (·.counters.orders) hcar, ?_, fun j hj => ?_, hentries, ?_, ?_, ?_, hissued⟩
  · rw [hlock, if_pos rfl, hsame, Lock.atOrder, if_neg Bool.false_ne_true, Lock.pass, hfree']; rfl
  · rw [hlock, if_neg hj, hsame]
  · rw [hspindle, changed_state]
  · rw [hspindle, changed_stopEngaged]; rfl
  · rw [hspindle]
    exact (changed_attempts _ _ _ _ (st := .piecing cause time) nofun nofun).1.trans (by dsimp only; rw [hsp])

/-- R83, R90: what a STATUS gives a SUSPECT record where dispatch is open. -/
theorem status_dispatches {station : Nat} (hp : s.powered = true) (hr : recordOfStation s station = some r)
    (hl : (carriage s r).link = .enrolled st side pos dir .suspect) (hopen : dispatchIsOpen s = true) :
    match chooseEntry s.delivery.now s.settings.working.ageLimit pos dir
        ((pieceList s side).filter fun f => sectorFree s (sectorOf f.spindle)) with
    | none => exec (.carriageStatus station) s = .next (readyAgain r st side pos dir s)
    | some e =>
      sectorFree s (sectorOf e.spindle) = true ∧
        exec (.carriageStatus station) s = .next (issueOrder r e false (readyAgain r st side pos dir s)) := by
  obtain ⟨u, hu, hrec⟩ := readyAgain_frame r st side pos dir s
  have hopen' : dispatchIsOpen (readyAgain r st side pos dir s) = true := by rw [hu]; exact hopen
  have hlink : (carriage (readyAgain r st side pos dir s) r).link = .enrolled st side pos dir .ready := by rw [hrec]
  have hchoice {x : Option Entry}
      (h : chooseEntry s.delivery.now s.settings.working.ageLimit pos dir
        ((pieceList s side).filter fun f => sectorFree s (sectorOf f.spindle)) = x) :
      chooseEntry (readyAgain r st side pos dir s).delivery.now (readyAgain r st side pos dir s).settings.working.ageLimit pos dir
        ((pieceList (readyAgain r st side pos dir s) side).filter
          fun f => sectorFree (readyAgain r st side pos dir s) (sectorOf f.spindle)) = x := by
    rw [hu, ← h]; cases side <;> rfl
  have hx := exec_status_suspect hp hr hl
  split
  · rename_i hc
    rw [hx, dispatch, dispatchAmong_nothing hlink hopen' (hchoice hc)]
  · rename_i e hc
    refine ⟨(List.mem_filter.1 (chooseEntry_mem hc)).2, ?_⟩
    rw [hx, dispatch, dispatchAmong_ordered hlink hopen' (hchoice hc)]

end

/-! ## The locks while an outcome is settled (R87) -/

section
variable {s t : State} {r : RecordNo} {side : Side}

theorem recordOfSide_congr (h : ∀ q, (carriage t q).link.side? = (carriage s q).link.side?) (side : Side) :
    recordOfSide t side = recordOfSide s side := by
  have h1 : t.car1.link.side? = s.car1.link.side? := h .one
  have h2 : t.car2.link.side? = s.car2.link.side? := h .two
  rw [recordOfSide, recordOfSide, h1, h2]

theorem recordOfSide_cars (h : CarsOrdered s t) (side : Side) : recordOfSide t side = recordOfSide s side :=
  recordOfSide_congr (fun q => (h q).side?) side

/-- R81: nothing is dispatched to a side whose record is not READY. -/
theorem attemptSide_of_not_ready (hr : recordOfSide s side = some r) (hn : (carriage s r).link.isReady = false) :
    attemptSide side s = s := by
  rw [attemptSide, hr]
  exact dispatch_of_not_ready hn

theorem listSpindle_locks (n : Nat) (s : State) : (listSpindle n s).locks = s.locks := by
  unfold listSpindle; dsimp only; split
  · obtain ⟨u, hu⟩ := makeEntry_onlyListings n false s
    rw [hu]
  · split
    · rw [raiseFault_eq]; rfl
    · rfl

theorem enlist_locks (n : Nat) (check : LockCheck) (s : State) : (enlist n check s).locks = s.locks := by
  unfold enlist; split
  · rename_i reason count _
    obtain ⟨u, hu⟩ := tellPlanner_onlyPlanner (groupOf n)
      (raiseNotice .spindleLocked .warning (.spindle n) (.lock reason count) (changeState n (.locked reason) s))
    obtain ⟨v, hv⟩ := changeState_onlyRecords n (.locked reason) s
    rw [hu, raiseNotice_eq, hv]
  · obtain ⟨u, hu⟩ := tellPlanner_onlyPlanner (groupOf n) (listSpindle n s)
    rw [hu]
    exact listSpindle_locks n s

/-- R81, R87: the spindle of an order whose record is still BUSY waits again with no dispatch. -/
theorem returnToBroken_locks {n : Nat} (check : LockCheck) (hr : recordOfSide s (sideOf s n) = some r)
    (hn : (carriage s r).link.isReady = false) : (returnToBroken n check s).locks = s.locks := by
  unfold returnToBroken
  split
  · rename_i c time _
    split
    · obtain ⟨u, hu⟩ := enterState_onlyRecords n .withheld s
      rw [hu]
    · have hcars := (enlist_cars n check _).after (changeState_cars n (.broken c time) s)
      have hside : sideOf (enlist n check (changeState n (.broken c time) s)) n = sideOf s n := by
        obtain ⟨u, hu⟩ := (enlist_onlyFrame n check _).after (changeState_onlyTables n (.broken c time) s).toFrame
        rw [hu]; rfl
      have hcar := (hcars r).eq_of_not_ready hn
      obtain ⟨v, hv⟩ := changeState_onlyRecords n (.broken c time) s
      rw [takeIn, attemptIfListed, hside, attemptSide_of_not_ready ((recordOfSide_cars hcars _).trans hr) (by rw [hcar]; exact hn),
        ite_self, enlist_locks, hv]
  · rfl

theorem pieceDone_locks (n : Nat) (s : State) : (pieceDone n s).locks = s.locks := by
  have h (st : SpindleState) : (enterState n st s).locks = s.locks := by
    obtain ⟨u, hu⟩ := enterState_onlyRecords n st s
    rw [hu]
  unfold pieceDone; split
  · split
    · exact h _
    · exact h _
  · rfl

theorem settledOrder_locks (x : OrderOutcome) (o : Order) (hr : recordOfSide s (sideOf s o.spindle) = some r)
    (hn : (carriage s r).link.isReady = false) : (settledOrder r o x s).locks = s.locks := by
  have h : (settledOrder r o x s).locks = (outcomeAt x o.spindle s).locks := by cases r <;> rfl
  rw [h]
  cases x
  · exact pieceDone_locks _ _
  · exact returnToBroken_locks .failure (s := updSpindle o.spindle (fun sp => sp.tried true) s) hr hn
  · exact returnToBroken_locks .none hr hn
  · exact returnToBroken_locks .none hr hn

end

/-! ## The lock of an order that has ended (R87, R101, R106) -/

section
variable {s : State} {r : RecordNo} {k : Nat}

theorem carryOverAllowed_unclaimed (hh : (lockOf s k).holder = .carriage r none) : carryOverAllowed s r k = false := by
  simp only [carryOverAllowed, Lock.claim, hh]

/-- R101, R106: with no claim waiting the lock is FREE, unless the record takes it again. -/
theorem afterOrder_unclaimed (h1 : 1 ≤ k) (hk : k ≤ s.locks.length) (hr : recordOfSide s (sideOfSector s k) = some r)
    (hh : (lockOf s k).holder = .carriage r none) :
    lockOf (afterOrder r k s) k = { holder := .free, last := .carriage, carryOver := (lockOf s k).carryOver } ∨
      (carriage s r).link.isReady = true ∧
        lockOf (afterOrder r k s) k = { holder := .carriage r none, last := .free, carryOver := (lockOf s k).carryOver } := by
  have hrel : releaseLock k s = dispatch r (updLock k (fun l => l.pass .free) s) := by
    have hr' : recordOfSide (updLock k (fun l => l.pass .free) s) (sideOfSector s k) = some r := hr
    simp only [releaseLock, hh, attemptSide, hr']
  have hfreed : lockOf (updLock k (fun l => l.pass .free) s) k =
      { holder := .free, last := .carriage, carryOver := (lockOf s k).carryOver } := by
    rw [lockOf_updLock_same _ _ _ h1 hk, Lock.pass, hh]; rfl
  have hcar : carriage (updLock k (fun l => l.pass .free) s) r = carriage s r := by cases r <;> rfl
  rw [afterOrder, carryOverAllowed_unclaimed hh, if_neg Bool.false_ne_true, hrel, ← hcar]
  have h := dispatch_twice_lock r (updLock k (fun l => l.pass .free) s) h1 (by rw [updLock, length_modifyNth]; exact hk)
  rw [hfreed] at h
  exact h.imp id fun ⟨hready, _, ht⟩ => ⟨hready, ht⟩

/-- R87, R104: with carry-over allowed the lock stays the record's, and its next order is in the sector. -/
theorem afterOrder_carried {st : Station} {side : Side} {pos : Nat} {dir : Direction} (hk : k ≤ s.locks.length)
    (hl : (carriage s r).link = .enrolled st side pos dir .ready) (hside : sideOfSector s k = side) (hc : carryOverAllowed s r k = true) :
    lockOf (afterOrder r k s) k = { lockOf s k with carryOver := min 255 ((lockOf s k).carryOver + 1) } ∧
      ∃ o : Order, (carriage (afterOrder r k s) r).link = .enrolled st side pos dir (.busy o) ∧ sectorOf o.spindle = k ∧
        o.tag = ((carriage s r).tag + 1) % 16 ∧ .carriage st.number (.piece o.spindle o.tag) ∈ (afterOrder r k s).emitted := by
  obtain ⟨_, -, -, hd, hp, hne, -⟩ := (carryOverAllowed_iff s r k).1 hc
  rw [hside] at hne
  obtain ⟨e, he, hchosen, -⟩ := chooseEntry_chooses s.delivery.now s.settings.working.ageLimit pos dir
    (List.ne_nil_of_length_pos hne)
  have hsector : sectorOf e.spindle = k := by simpa using (List.mem_filter.1 he).2
  have ht : afterOrder r k s = issueOrder r e true s := by
    rw [afterOrder, if_pos hc, dispatchCarried, dispatchAmong_ordered hl ((dispatchIsOpen_iff s).2 ⟨hd, hp⟩) hchosen]
  have hcar := congrArg Carriage.link (carriage_issueOrder r e true s)
  have hlink : (Carriage.given (orderFor r e s) (carriage s r)).link = .enrolled st side pos dir (.busy (orderFor r e s)) := by
    rw [Carriage.given, hl]; rfl
  rw [ht]
  refine ⟨?_, orderFor r e s, hcar.trans hlink, hsector, rfl,
    (issueOrder_says_piece e true hl).subset (List.mem_append_right _ List.mem_cons_self)⟩
  rw [lockOf_issueOrder e true k (by rw [hsector]; exact hk), if_pos hsector.symm]; rfl

/-- R102, R106: otherwise the lock goes to the claim that waits, and PROCEED is sent. -/
theorem afterOrder_granted {c : Claim} (h1 : 1 ≤ k) (hk : k ≤ s.locks.length) (hh : (lockOf s k).holder = .carriage r (some c))
    (hc : ¬ carryOverAllowed s r k = true) :
    lockOf (afterOrder r k s) k = { holder := .transport, last := .carriage, carryOver := 0 } ∧
      ∀ a : ActiveChange, s.planner.transport.change = some a →
        (afterOrder r k s).planner.transport = .changing a ∧ .transport (.proceed a.tag) ∈ (afterOrder r k s).emitted := by
  have ht : afterOrder r k s = dispatch r (plannerGranted (updLock k (fun l => { l.pass .transport with carryOver := 0 }) s)) := by
    rw [afterOrder, if_neg hc]
    simp only [releaseLock, hh]
  obtain ⟨u, hu⟩ := plannerGranted_onlyPlanner (updLock k (fun l => { l.pass .transport with carryOver := 0 }) s)
  have hlock : lockOf (plannerGranted (updLock k (fun l => { l.pass .transport with carryOver := 0 }) s)) k =
      { holder := .transport, last := .carriage, carryOver := 0 } := by
    rw [lockOf_congr (by rw [hu]) (s := updLock k (fun l => { l.pass .transport with carryOver := 0 }) s),
      lockOf_updLock_same _ _ _ h1 hk, Lock.pass, hh]; rfl
  have hlen : k ≤ (plannerGranted (updLock k (fun l => { l.pass .transport with carryOver := 0 }) s)).locks.length := by
    rw [hu]; exact hk.trans (length_modifyNth _ _ _).ge
  rw [ht]
  refine ⟨?_, fun a ha => ?_⟩
  · rcases dispatch_lock r _ h1 hlen with h | ⟨-, hfree, -⟩
    · exact h.trans hlock
    · rw [hlock] at hfree; cases hfree
  · have hcont := dispatchAmong_continues
      (fun e => sectorFree (plannerGranted (updLock k (fun l => { l.pass .transport with carryOver := 0 }) s)) (sectorOf e.spindle))
      false r (plannerGranted (updLock k (fun l => { l.pass .transport with carryOver := 0 }) s))
    have hgrant := plannerGranted_of_change (s := updLock k (fun l => { l.pass .transport with carryOver := 0 }) s) (c := a) ha
    refine ⟨(hcont.transport ?_).trans ?_, hcont.sent.subset ?_⟩
    · rw [hgrant]; exact Transport.noConfusion
    · rw [hgrant]; rfl
    · rw [hgrant]; exact List.mem_append_right _ List.mem_cons_self

end

/-! ## A RESULT seen from the lock (R87) -/

section
variable {s : State} {r : RecordNo} {st : Station} {side : Side} {pos : Nat} {dir : Direction} {o : Order}

theorem settledOrder_side (x : OrderOutcome) (hl : (carriage s r).link = .enrolled st side pos dir (.busy o)) (q : RecordNo) :
    (carriage (settledOrder r o x s) q).link.side? = (carriage s q).link.side? := by
  have hother : carriage (settledOrder r o x s) (otherRecord r) = carriage (outcomeAt x o.spindle s) (otherRecord r) := by
    cases r <;> rfl
  have hq : q = r ∨ q = otherRecord r := by cases q <;> cases r <;> simp [otherRecord]
  rcases hq with rfl | rfl
  · rw [carriage_settledOrder x hl, hl]; rfl
  · rw [hother, (outcomeAt_cars x o.spindle s _).side?]

/-- R87: what the settling of an outcome leaves for the lock to be handed over. -/
theorem settled_for_handover (x : OrderOutcome) (hr : recordOfSide s side = some r)
    (hl : (carriage s r).link = .enrolled st side pos dir (.busy o)) (hside : sideOf s o.spindle = side) :
    (settledOrder r o x (heardFrom r s)).locks = s.locks ∧
      recordOfSide (settledOrder r o x (heardFrom r s)) side = some r ∧
      sideOfSector (settledOrder r o x (heardFrom r s)) (sectorOf o.spindle) = side ∧
      (carriage (settledOrder r o x (heardFrom r s)) r).link = .enrolled st side pos dir (workAfter o) ∧
      (carriage (settledOrder r o x (heardFrom r s)) r).tag = (carriage s r).tag := by
  have hl' : (carriage (heardFrom r s) r).link = .enrolled st side pos dir (.busy o) := by rw [link_heardFrom]; exact hl
  have hr' : recordOfSide (heardFrom r s) side = some r := by
    rw [← hr]; exact recordOfSide_congr (fun q => by rw [carriage_heardFrom]; split <;> rfl) side
  obtain ⟨-, -, hd, -⟩ := settledOrder_same r o x (heardFrom r s)
  have hcar := carriage_settledOrder x hl'
  refine ⟨?_, ?_, ?_, congrArg Carriage.link hcar, (congrArg Carriage.tag hcar).trans ?_⟩
  · rw [settledOrder_locks x o (by rw [(isSpindle_heardFrom r s o.spindle).2, hside]; exact hr') (by rw [hl']; rfl)]
    cases r <;> rfl
  · exact (recordOfSide_congr (settledOrder_side x hl') side).trans hr'
  · rw [← hside, sideOf, sideOfSector, hd, delivery_heardFrom]; rfl
  · rw [carriage_heardFrom, if_pos rfl]

theorem workAfter_ready (h : (CarriageLink.enrolled st side pos dir (workAfter o)).isReady = true) :
    o.parkPending = false ∧ workAfter o = .ready := by
  unfold workAfter at h ⊢
  cases hp : o.parkPending
  · exact ⟨rfl, rfl⟩
  · rw [hp] at h; cases h

theorem exec_result_handover {station : Nat} (x : OrderOutcome) (hp : s.powered = true) (hr : recordOfStation s station = some r)
    (hl : (carriage s r).link = .enrolled st side pos dir (.busy o)) :
    exec (.result station o.tag x) s = .next (afterOrder r (sectorOf o.spindle) (settledOrder r o x (heardFrom r s))) := by
  rw [exec_result x hp hr hl, handleResult_eq x (by rw [link_heardFrom]; exact hl)]

/-- R101, R106: the lock after a RESULT where no claim waits. -/
theorem lock_unclaimed (x : OrderOutcome) (hr : recordOfSide s side = some r)
    (hl : (carriage s r).link = .enrolled st side pos dir (.busy o)) (hside : sideOf s o.spindle = side)
    (hk : sectorOf o.spindle ≤ s.locks.length) (hh : (lockOf s (sectorOf o.spindle)).holder = .carriage r none) :
    let k := sectorOf o.spindle
    let t := afterOrder r k (settledOrder r o x (heardFrom r s))
    lockOf t k = { holder := .free, last := .carriage, carryOver := (lockOf s k).carryOver } ∨
      (o.parkPending = false ∧ lockOf t k = { holder := .carriage r none, last := .free, carryOver := (lockOf s k).carryOver }) := by
  obtain ⟨hlocks, hrecord, hsector, hlink, -⟩ := settled_for_handover x hr hl hside
  have hlock := lockOf_congr hlocks (sectorOf o.spindle)
  have h := afterOrder_unclaimed (one_le_sectorOf o.spindle) (by rw [hlocks]; exact hk) (by rw [hsector]; exact hrecord)
    (by rw [hlock]; exact hh)
  rw [hlock, hlink] at h
  exact h.imp id fun ⟨hready, ht⟩ => ⟨(workAfter_ready hready).1, ht⟩

/-- R87, R102, R106: the lock after a RESULT where a claim waits. -/
theorem lock_claimed {c : Claim} (x : OrderOutcome) (hr : recordOfSide s side = some r)
    (hl : (carriage s r).link = .enrolled st side pos dir (.busy o)) (hside : sideOf s o.spindle = side)
    (hk : sectorOf o.spindle ≤ s.locks.length) (hh : (lockOf s (sectorOf o.spindle)).holder = .carriage r (some c)) :
    let k := sectorOf o.spindle
    let ended := settledOrder r o x (heardFrom r s)
    let t := afterOrder r k ended
    if carryOverAllowed ended r k = true then
      lockOf t k = { lockOf s k with carryOver := min 255 ((lockOf s k).carryOver + 1) } ∧
        ∃ o' : Order, (carriage t r).link = .enrolled st side pos dir (.busy o') ∧ sectorOf o'.spindle = k ∧
          o'.tag = ((carriage s r).tag + 1) % 16 ∧ .carriage st.number (.piece o'.spindle o'.tag) ∈ t.emitted
    else
      lockOf t k = { holder := .transport, last := .carriage, carryOver := 0 } ∧
        ∀ a : ActiveChange, ended.planner.transport.change = some a →
          t.planner.transport = .changing a ∧ .transport (.proceed a.tag) ∈ t.emitted := by
  obtain ⟨hlocks, -, hsector, hlink, htag⟩ := settled_for_handover x hr hl hside
  have hlock := lockOf_congr hlocks (sectorOf o.spindle)
  have hk' : sectorOf o.spindle ≤ (settledOrder r o x (heardFrom r s)).locks.length := by rw [hlocks]; exact hk
  intro k ended t
  split
  · rename_i hc
    obtain ⟨_, -, hready, -⟩ := (carryOverAllowed_iff ended r k).1 hc
    have hwork := (workAfter_ready (by rw [← hlink]; exact (isReady_iff _).2 hready)).2
    have h := afterOrder_carried hk' (hlink.trans (by rw [hwork])) hsector hc
    rw [hlock, htag] at h
    exact h
  · rename_i hc
    exact afterOrder_granted (one_le_sectorOf _) hk' (by rw [hlock]; exact hh) hc

end

/-- Settles O60: the choice, the order after a STATUS, the conditions of carry-over, and the lock after a RESULT. -/
theorem ordersAreChosenIssuedAndCarriedOver : Obligations.OrdersAreChosenIssuedAndCarriedOver := by
  refine ⟨fun now ageLimit position direction cs h => chooseEntry_chooses now ageLimit position direction h, ?_,
    fun s r k => carryOverAllowed_iff s r k, ?_⟩
  · intro s station pos dir st side r hp hr hl hd hph
    have h := status_dispatches hp hr hl ((dispatchIsOpen_iff s).2 ⟨hd, hph⟩)
    split
    · rename_i hc
      rw [hc] at h
      exact h
    · rename_i e hc
      rw [hc] at h
      obtain ⟨hfree, hx⟩ := h
      intro cause time hside h1 hle hk hs
      exact ⟨_, hx, ordered_after_status hside ((hasSpindle_iff _ _).2 ⟨h1, hle⟩) hk hfree hs⟩
  · intro s station pos dir st side r o outcome waiting hp hr hrs hl hside hk hh k ended
    have hended : ended = settledOrder r o outcome (heardFrom r s) := by rw [settledOrder, ← settleOutcome_eq]; rfl
    rw [hended]
    refine ⟨_, exec_result_handover outcome hp hr hl, ?_⟩
    cases waiting with
    | none => exact lock_unclaimed outcome hrs hl hside hk hh
    | some c => exact lock_claimed outcome hrs hl hside hk hh

end Sys2Proof.Machine
